-- ==== Sys2Proof/Word.lean ====
section
/-! DEFINITION. The words that cross the zone bus, the sign link and the settings line. -/

namespace Sys2Proof

/-- One byte as it crosses the zone bus, the sign link or the settings line (R129). -/
abbrev Byte := BitVec 8

/-- A two-byte field, high byte first on the line (Part 7, "Payloads"; R134 for the CRC). -/
abbrev Half := BitVec 16

/-- A set of the lighting channels 1..8, bit 0 for channel 1 up to bit 7 for channel 8
(settings record, bytes 138..193). -/
abbrev ChannelSet := BitVec 8

end Sys2Proof
end

