-- ==== Sys2Proof/Syntax.lean ====
section
/-! DEFINITION. The commands of the block: one constructor per row of spec/opcode_table.json. -/

namespace Sys2Proof

/-- The status a sensor head answers with ("Polling the Heads", Part 1). -/
inductive HeadStatus where
  | ok | warmup | fault
  deriving DecidableEq, Repr

/-- The answer of a bay sensor ("Scanning the Bay Sensors", Part 3). -/
inductive BayAnswer where
  | present | absent | fault
  deriving DecidableEq, Repr

/-- The two loops of a passage gate ("Passage Gates", Part 3). -/
inductive Loop where
  | outer | inner
  deriving DecidableEq, Repr

/-- The two verdicts R130 gives a bad character. -/
inductive CharError where
  | parity | framing
  deriving DecidableEq, Repr

/-- The verdict of the character receiver (R130). -/
inductive Verdict where
  | good | bad (e : CharError)
  deriving DecidableEq, Repr

/-- A character as a receiver hands it on: its byte and its verdict (R130). -/
structure RxChar where
  byte : Byte
  verdict : Verdict
  deriving DecidableEq, Repr

/-- An advert as STATUS carries it: cost, free count, via (R139). -/
structure AdvertPayload where
  cost : Byte
  free : Half
  via : Byte
  deriving DecidableEq, Repr

/-- The nineteen payload bytes of a STATUS, field by field (R139). -/
structure StatusPayload where
  level : Byte
  alarm : Byte
  index : Half
  flags : Byte
  demand : Byte
  commanded : Byte
  standard : AdvertPayload
  accessible : AdvertPayload
  charging : AdvertPayload
  deriving DecidableEq, Repr

/-- The four payload bytes of an ALERT, field by field (R140). -/
structure AlertPayload where
  alarm : Byte
  index : Half
  flags : Byte
  deriving DecidableEq, Repr

/-- The commands of the block, one per row of the opcode table, in the table's order. A service command carries
the source and destination of its COMMAND frame and the argument bytes after the code, as many as the frame had
(R141, R162). A bulletin carries its source and its content as the frame had it (R137). -/
inductive Instr where
  | powerOnReset
  | lineReset
  | resetEnd
  | settingsReadComplete (record : List Byte)
  | settingsReadTimeout
  | listeningTimerExpiry
  | pollRoundStart
  | headAnswer (head : Nat) (status : HeadStatus) (raw : Nat)
  | headAnswerWindowExpiry
  | alarmHoldTimerExpiry
  | purgeFilterChange (asserted : Bool)
  | runConfirmActive (fan : Nat)
  | runConfirmLost (fan : Nat)
  | confirmTimerExpiry (fan : Nat)
  | fallbackStartTimerExpiry (fan : Nat)
  | lossTimerExpiry (fan : Nat)
  | coastTimerExpiry (fan : Nat)
  | fanOverrideExpiry
  | setFanOverride (source destination : Byte) (args : List Byte)
  | clearFanOverride (source destination : Byte) (args : List Byte)
  | lockOutFan (source destination : Byte) (args : List Byte)
  | unlockFan (source destination : Byte) (args : List Byte)
  | clearFanFault (source destination : Byte) (args : List Byte)
  | bayScanStart
  | bayAnswer (bay : Nat) (answer : BayAnswer)
  | bayReadNoAnswer
  | setBayService (source destination : Byte) (args : List Byte)
  | reserveBay (source destination : Byte) (args : List Byte)
  | releaseBay (source destination : Byte) (args : List Byte)
  | reservationExpiry (bay : Nat)
  | loopChange (gate : Nat) (loop : Loop) (on : Bool)
  | gateTimerExpiry (gate : Nat)
  | trafficRingRotation
  | statusReceived (source : Byte) (content : StatusPayload)
  | alertReceived (source : Byte) (content : AlertPayload)
  | passageReceived (source : Byte) (named : Byte)
  | sweep
  | closeZone (source destination : Byte) (args : List Byte)
  | openZone (source destination : Byte) (args : List Byte)
  | signRefreshTimerExpiry (sign : Nat)
  | signExchangeStart
  | signAnswer (characters : List RxChar)
  | signAnswerWindowExpiry
  | fallbackSignTimerExpiry
  | motionChange (input : Nat) (active : Bool)
  | motionRepeatTimerExpiry (input : Nat)
  | channelHoldTimerExpiry (channel : Nat)
  | dimTimerExpiry (channel : Nat)
  | setLightOverride (source destination : Byte) (args : List Byte)
  | clearLightOverride (source destination : Byte) (args : List Byte)
  | lightOverrideExpiry (channel : Nat)
  | idleEvent
  | badCharacter (error : CharError)
  | addressFilterReject (kind destination : Byte)
  | lengthByteReject (length : Byte)
  | frameCheckFail (kind length : Byte) (crcGood : Bool)
  | unknownCommand (source destination code : Byte) (args : List Byte)
  | queryZone (source destination : Byte) (args : List Byte)
  | queryBays (source destination : Byte) (args : List Byte)
  | queryPeers (source destination : Byte) (args : List Byte)
  | queryCounters (source destination : Byte) (args : List Byte)
  | restart (source destination : Byte) (args : List Byte)
  | statusPeriodTimerExpiry
  | spacingTimerExpiry
  | lineBusyInGap
  | gapCountedOut
  | collision
  | txComplete
  | goodCharacter (byte : Byte)
  | startOfCharacter
  | supplyFallsBelowRange
  deriving DecidableEq, Repr

end Sys2Proof
end

