-- ==== Sys2Proof/Decode.lean ====
section
/-! DEFINITION. The commands a word spells by the bits of spec/opcode_table.json: none of its rows gives bits. -/

namespace Sys2Proof

/-- The command the table's bits spell. No row of spec/opcode_table.json gives any bits ("fields" is empty in each
and none has fixed bits), so no word spells a command. -/
def decodeTableWord (_nbits _w : Nat) : Option Instr := none

end Sys2Proof
end

