-- ==== Sys2Proof/Config.lean ====
section
/-! DEFINITION. What the model fixes where the spec gives no value: the values some state holds between a reset
and entry to LISTENING. The spec leaves no result undefined after a command that goes on, so there is no free value. -/

namespace Sys2Proof.Config

/-- Floor, D and C between a reset and entry to LISTENING. R23 gives them a value only "when the station
leaves STARTING". DESIGN CHOICE, unsafe; log 6. -/
def demandBeforeListening : Nat := 0

/-- The fans' common speed s while no fan has run since reset. DESIGN CHOICE, unsafe; log 6. -/
def speedBeforeFirstRun : Nat := 0

/-- The level a contact input's line stands at in `State.reset`; the line belongs to the outside.
DESIGN CHOICE, unsafe; log 4. -/
def inputLineAtReset : Bool := false

end Sys2Proof.Config
end

