-- ==== Sys2Proof/Machine/State.lean ====
section
/-! DEFINITION. Everything the spec gives the LZC-418, block by block, as plain data, and its value after reset. -/

namespace Sys2Proof.Machine

/-! ### Shared pieces -/

/-- A running timer's remaining time in milliseconds, or absent. -/
abbrev Timer := Option Nat

/-- A service limit given in minutes: the milliseconds that remain, or the mark "until cleared", "until released"
for a time of 0 (R29, R58, R124). -/
inductive TimeLimit where
  | untilEnded
  | remaining (ms : Nat)
  deriving DecidableEq, Repr

/-- A contact input behind its 60 ms filter (R28, R35, R63, R116): the line itself, the filtered state, and for how
many milliseconds the line has stood at the value the filter does not show yet. -/
structure FilteredInput where
  line : Bool
  filtered : Bool
  steadyMs : Nat
  deriving DecidableEq, Repr

/-- The four bay classes (Part 3). -/
inductive BayClass where
  | standard | accessible | charging | staff
  deriving DecidableEq, Repr

/-- The three guided classes, in the order of the route rows (Part 5). -/
inductive GuidedClass where
  | standard | accessible | charging
  deriving DecidableEq, Repr

/-- The alarm levels (R14). -/
inductive AlarmLevel where
  | clear | watch | warning | alarm
  deriving DecidableEq, Repr

/-! ### Settings (Part 10, "The Settings Record") -/

/-- Transmit selection (R152). -/
inductive Selection where
  | strict | weighted
  deriving DecidableEq, Repr

/-- The gas a head measures (Part 1). -/
inductive Gas where
  | co | no2
  deriving DecidableEq, Repr

/-- How C falls (R32). -/
inductive FallMode where
  | ramp | coast
  deriving DecidableEq, Repr

/-- How a channel falls to its idle level (R120, R121). -/
inductive DimMode where
  | slew | step
  deriving DecidableEq, Repr

/-- What a sign shows (Part 5, "Signs and Their Settings"). -/
inductive SignMode where
  | zone | route | total
  deriving DecidableEq, Repr

/-- The six arrows (R144). -/
inductive Arrow where
  | left | ahead | right | rampDown | rampUp | back
  deriving DecidableEq, Repr

/-- A configured head's settings (Part 1). -/
structure HeadSettings where
  number : Nat
  gas : Gas
  fullScale : Nat
  shift : Nat
  limit : Nat
  deriving DecidableEq, Repr

/-- A configured bay's settings (Part 3); `channel` 0 is none. -/
structure BaySettings where
  number : Nat
  cls : BayClass
  channel : Nat
  inService : Bool
  deriving DecidableEq, Repr

/-- A configured gate's settings (Part 3); `farSide` none is STREET. -/
structure GateSettings where
  number : Nat
  farSide : Option Nat
  channels : ChannelSet
  deriving DecidableEq, Repr

/-- What makes a static neighbour a drive neighbour (Part 4). -/
structure DriveSettings where
  exit : Nat
  linkCost : Nat
  deriving DecidableEq, Repr

/-- A static slot that gives an entry (R72). -/
structure StaticSettings where
  address : Nat
  level : Nat
  weight : Nat
  drive : Option DriveSettings
  entryChannels : ChannelSet
  deriving DecidableEq, Repr

/-- A configured sign's settings (Part 5). -/
structure SignSettings where
  number : Nat
  mode : SignMode
  cls : GuidedClass
  arrow0 : Arrow
  arrow1 : Arrow
  arrow2 : Arrow
  arrow3 : Arrow
  deriving DecidableEq, Repr

/-- A lighting channel's settings (Part 6); `holdSeconds` and `slew` in seconds and percent per second. -/
structure ChannelSettings where
  active : Nat
  idle : Nat
  sleep : Bool
  dimMode : DimMode
  holdSeconds : Nat
  slew : Nat
  deriving DecidableEq, Repr

/-- The corrected settings (R174, R175). -/
structure Settings where
  ownAddress : Nat
  levelNumber : Nat
  statusPeriod : Nat
  sweepInterval : Nat
  selection : Selection
  tWatch : Nat
  tWarning : Nat
  tAlarm : Nat
  hysteresis : Nat
  holdCode : Nat
  heads : List HeadSettings
  fans : List Nat
  eLo : Nat
  eHi : Nat
  trafficGain : Nat
  trafficCap : Nat
  floorClear : Nat
  floorWatch : Nat
  floorWarning : Nat
  floorAlarm : Nat
  blindFloor : Nat
  sympathyFloor : Nat
  upRate : Nat
  downRate : Nat
  fallMode : FallMode
  minSpeed : Nat
  confirmTimeout : Nat
  coastTime : Nat
  nOn : Nat
  nOff : Nat
  bays : List BaySettings
  gates : List GateSettings
  motion : List ChannelSet
  statics : List StaticSettings
  signs : List SignSettings
  channels : List ChannelSettings
  deriving DecidableEq, Repr

/-- The default channel settings (Part 6). -/
def ChannelSettings.default : ChannelSettings :=
  { active := 100, idle := 10, sleep := false, dimMode := .slew, holdSeconds := 300, slew := 5 }

/-- The settings while none has been read: the defaults of the Parts, nothing configured, and 0 or STRICT where a
Part gives no default. No block acts on them (R173). DESIGN CHOICE, log 3. -/
def Settings.unread : Settings :=
  { ownAddress := 0, levelNumber := 0, statusPeriod := 5, sweepInterval := 5, selection := .strict,
    tWatch := 60, tWarning := 100, tAlarm := 150, hysteresis := 10, holdCode := 3,
    heads := [], fans := [], eLo := 40, eHi := 120, trafficGain := 5, trafficCap := 40,
    floorClear := 0, floorWatch := 25, floorWarning := 60, floorAlarm := 100, blindFloor := 50,
    sympathyFloor := 40, upRate := 10, downRate := 2, fallMode := .ramp, minSpeed := 30,
    confirmTimeout := 20, coastTime := 30, nOn := 4, nOff := 6, bays := [], gates := [],
    motion := List.replicate 4 0#8, statics := [], signs := [],
    channels := List.replicate 8 ChannelSettings.default }

/-! ### Start-up Unit (Part 10) -/

/-- The station states of Part 10, and being held in reset (R172). -/
inductive Station where
  | heldInReset | starting | listening | normal | fallback
  deriving DecidableEq, Repr

/-- The Start-up Unit's own state beside the station state and the corrected settings (R172..R177). -/
structure StartUp where
  supplyInRange : Bool
  resetLineLow : Bool
  powerOnTimer : Timer
  readTimer : Timer
  listeningTimer : Timer
  image : List Byte
  clampedCount : Nat
  deriving DecidableEq, Repr

/-! ### Inputs -/

/-- The contact inputs behind their filters: the purge line (R28), run-confirm of fans 1..6 (R35), the loops of
gates 1..4 (R63) and motion inputs 1..4 (R116), each list in the order of its numbers. -/
structure Inputs where
  purge : FilteredInput
  runConfirm : List FilteredInput
  outerLoops : List FilteredInput
  innerLoops : List FilteredInput
  motion : List FilteredInput
  deriving DecidableEq, Repr

/-! ### Air Monitor (Part 1) -/

inductive HeadState where
  | warmup | valid | over | fault
  deriving DecidableEq, Repr

/-- A head record (R1). -/
structure Head where
  settings : HeadSettings
  state : HeadState
  misses : Nat
  accumulator : Option Nat
  subIndex : Option Nat
  deriving DecidableEq, Repr

/-- The poll in progress: the head polled and its answer window (R2, R3). -/
structure Poll where
  head : Nat
  window : Nat
  deriving DecidableEq, Repr

/-- What the other blocks read of a head: its state and sub-index as the latest air sample closed on them (R13; log
33). -/
structure SampledHead where
  number : Nat
  state : HeadState
  subIndex : Option Nat
  deriving DecidableEq, Repr

/-- The Air Monitor (R1, R2, R12, R13, R14). `holdTimer` holds the count e; `sampled` holds the heads as of the latest
air sample. `expiring`: the polls of a round are done and its air sample is the very next command, which is
ALARM_HOLD_TIMER_EXPIRY (R2, R17, spec/95_what_each_step_holds.md; log 13). -/
structure AirMonitor where
  heads : List Head
  sampled : List SampledHead
  ownIndex : Option Nat
  level : AlarmLevel
  holdTimer : Option Nat
  roundTimer : Timer
  poll : Option Poll
  expiring : Bool
  deriving DecidableEq, Repr

/-! ### Ventilation Controller (Part 2) -/

inductive FanState where
  | stopped | queued | starting | running | stopping | fault | lockedOut
  deriving DecidableEq, Repr

/-- A fan record (R34); `fallbackStart` is the 20 s of a STARTING fan in FALLBACK (R41). -/
structure Fan where
  number : Nat
  state : FanState
  confirm : Timer
  fallbackStart : Timer
  loss : Timer
  coast : Timer
  deriving DecidableEq, Repr

/-- A present fan override (R29). -/
structure FanOverride where
  value : Nat
  limit : TimeLimit
  deriving DecidableEq, Repr

/-- The Ventilation Controller (R23, R36, R47). -/
structure Ventilation where
  floor : Nat
  demand : Nat
  commanded : Nat
  override : Option FanOverride
  fans : List Fan
  runList : List Nat
  startQueue : List Nat
  dutyPointer : Option Nat
  speed : Nat
  ventDegraded : Bool
  ventLost : Bool
  deriving DecidableEq, Repr

/-! ### Bay Monitor (Part 3) -/

inductive BayState where
  | unknown | free | occupied | reserved | fault | outOfService
  deriving DecidableEq, Repr

/-- A bay record (R50). -/
structure Bay where
  settings : BaySettings
  state : BayState
  onCount : Nat
  offCount : Nat
  faultCount : Nat
  reservation : Option TimeLimit
  deriving DecidableEq, Repr

inductive GateState where
  | clear | armedIn | spanningIn | exitingIn | armedOut | spanningOut | exitingOut | blocked
  deriving DecidableEq, Repr

/-- A gate record (R63); its filtered loops stand in `Inputs`. -/
structure Gate where
  settings : GateSettings
  state : GateState
  timer : Timer
  deriving DecidableEq, Repr

/-- The read in progress: the bay read, its answer window, and the mark that the bay has been put out of service since
the read was sent, so that its answer is discarded (R51). -/
structure BayRead where
  bay : Nat
  window : Nat
  discarded : Bool
  deriving DecidableEq, Repr

/-- The six buckets of the traffic ring, oldest first (R69). -/
structure TrafficRing where
  oldest : Nat
  second : Nat
  third : Nat
  fourth : Nat
  fifth : Nat
  current : Nat
  deriving DecidableEq, Repr

/-- The Bay Monitor (R50, R51, R63, R69). -/
structure BayMonitor where
  bays : List Bay
  scanTimer : Timer
  reading : Option BayRead
  gates : List Gate
  ring : TrafficRing
  ringTimer : Timer
  deriving DecidableEq, Repr

/-! ### Peer Table (Part 4) -/

inductive PeerState where
  | fresh | stale | silent
  deriving DecidableEq, Repr

/-- An advert as an entry holds it (R74). -/
structure Advert where
  cost : Nat
  free : Nat
  via : Nat
  deriving DecidableEq, Repr

/-- The three adverts, absent together (R74). -/
structure Adverts where
  standard : Advert
  accessible : Advert
  charging : Advert
  deriving DecidableEq, Repr

/-- The heard fields (R74). -/
structure Heard where
  airIndex : Option Nat
  alarm : Option AlarmLevel
  purge : Option Bool
  closed : Option Bool
  adverts : Option Adverts
  deriving DecidableEq, Repr

/-- Where an entry comes from (R73); a static entry keeps its settings. -/
inductive Origin where
  | static (settings : StaticSettings)
  | learned
  deriving DecidableEq, Repr

/-- A peer entry (R73). -/
structure Peer where
  address : Nat
  origin : Origin
  level : Option Nat
  age : Nat
  state : PeerState
  heard : Heard
  deriving DecidableEq, Repr

/-- The Peer Table: sixteen slots in slot order, the sweep timer, the sympathy condition (R73, R81, R84). -/
structure PeerTable where
  slots : List (Option Peer)
  sweepTimer : Timer
  sympathy : Bool
  deriving DecidableEq, Repr

/-! ### Guidance Unit (Part 5) -/

/-- A row's exit (R95). -/
inductive RouteExit where
  | here | by (n : Nat) | none
  deriving DecidableEq, Repr

/-- A route row (R95). -/
structure Row where
  cost : Nat
  free : Nat
  via : Nat
  exit : RouteExit
  deriving DecidableEq, Repr

/-- The route table (R95). -/
structure Rows where
  standard : Row
  accessible : Row
  charging : Row
  deriving DecidableEq, Repr

inductive DisplayState where
  | blank | count | full | closed
  deriving DecidableEq, Repr

/-- A sign image (R102); a digit none is blank, an arrow none is none. -/
structure SignImage where
  display : DisplayState
  hundreds : Option Nat
  tens : Option Nat
  units : Option Nat
  arrow : Option Arrow
  deriving DecidableEq, Repr

inductive SignStatus where
  | ok | defect
  deriving DecidableEq, Repr

/-- A sign record (R102). -/
structure Sign where
  settings : SignSettings
  image : SignImage
  due : Bool
  refresh : Timer
  misses : Nat
  faultMark : Bool
  lastStatus : Option SignStatus
  deriving DecidableEq, Repr

/-- The exchange in progress on the sign link: the address named, the bytes of its SIGN frame, the time until the
answer window runs out, and the characters received since the frame was sent, the first five of which are the answer
(R107, R144). -/
structure Exchange where
  sign : Nat
  frame : List Byte
  window : Nat
  received : List RxChar
  deriving DecidableEq, Repr

/-- The Guidance Unit (R91, R95, R102, R107, R112). `lastServed` is 0 until a sign has been served. -/
structure Guidance where
  serviceClose : Bool
  closed : Bool
  rows : Rows
  signs : List Sign
  lastServed : Nat
  exchange : Option Exchange
  fallbackTimer : Timer
  fallbackDue : List Nat
  deriving DecidableEq, Repr

/-! ### Lighting Controller (Part 6) -/

inductive ChannelState where
  | active | dimming | idle | forced | overridden
  deriving DecidableEq, Repr

/-- A present light override (R113). -/
structure LightOverride where
  level : Nat
  limit : TimeLimit
  deriving DecidableEq, Repr

/-- A channel record (R113). -/
structure Channel where
  number : Nat
  settings : ChannelSettings
  state : ChannelState
  output : Nat
  hold : Timer
  dim : Timer
  override : Option LightOverride
  deriving DecidableEq, Repr

/-- The Lighting Controller: channels 1..8, the forcing condition as last formed (R122), and for motion inputs 1..4
their channel sets and repeat timers (R116). -/
structure Lighting where
  channels : List Channel
  forcing : Bool
  motionSets : List ChannelSet
  repeatTimers : List Timer
  deriving DecidableEq, Repr

/-! ### Bus Interface (Parts 7, 8, 9) -/

/-- The character receiver (R130). -/
inductive Receiver where
  | hunting | receiving | awaitingMark
  deriving DecidableEq, Repr

/-- The frame assembler (R132); `inFrame` holds the bytes taken after the marker. -/
inductive Assembler where
  | awaitIdle | awaitMarker | inFrame (taken : List Byte)
  deriving DecidableEq, Repr

/-- The four transmit classes by the frame kind each carries (R145). -/
inductive TxClass where
  | alert | passage | status | report
  deriving DecidableEq, Repr

/-- What a waiting frame holds: nothing for an ALERT or a STATUS, whose content is captured at each attempt; the
station named for a PASSAGE; destination and payload for a REPORT, with the mark of the REPORT a pending restart
waits for (R145, R165). -/
inductive FrameContent where
  | alert
  | status
  | passage (named : Byte)
  | report (destination : Byte) (payload : List Byte) (restart : Bool)
  deriving DecidableEq, Repr

/-- A frame in a class queue with its attempt count (R145). -/
structure QueuedFrame where
  content : FrameContent
  attempts : Nat
  deriving DecidableEq, Repr

/-- The transmitter (R153): in GAP the class chosen and the gap in bit times, in SENDING the class and the bytes
driven on the line. -/
inductive Transmitter where
  | atRest
  | waitingIdle
  | gap (cls : TxClass) (bitTimes : Nat)
  | sending (cls : TxClass) (bytes : List Byte)
  | backoff
  deriving DecidableEq, Repr

/-- The credits of WEIGHTED selection (R152). -/
structure Credits where
  alert : Nat
  passage : Nat
  status : Nat
  report : Nat
  deriving DecidableEq, Repr

/-- The four class queues, oldest frame first (R145). -/
structure Queues where
  alert : List QueuedFrame
  passage : List QueuedFrame
  status : List QueuedFrame
  report : List QueuedFrame
  deriving DecidableEq, Repr

/-- A counter: a count 0..65535 and its overflow flag (R169). -/
structure Counter where
  count : Nat
  overflow : Bool
  deriving DecidableEq, Repr

/-- The sixteen counters in the order of R143. -/
structure Counters where
  rxGood : Counter
  rxParity : Counter
  rxFraming : Counter
  rxCrc : Counter
  rxLength : Counter
  rxForeign : Counter
  txGood : Counter
  txCollision : Counter
  txDrop : Counter
  passageDrop : Counter
  peerReject : Counter
  addressClash : Counter
  serviceOverrun : Counter
  signMiss : Counter
  headMiss : Counter
  gateStuck : Counter
  deriving DecidableEq, Repr

/-- The names of the sixteen counters (R169). -/
inductive CounterName where
  | rxGood | rxParity | rxFraming | rxCrc | rxLength | rxForeign | txGood | txCollision | txDrop
  | passageDrop | peerReject | addressClash | serviceOverrun | signMiss | headMiss | gateStuck
  deriving DecidableEq, Repr

/-- The Bus Interface (R130..R132, R145, R149..R154, R165) but for the counters, which stand beside it. The idle
count stops at 353, the first value that means idle (R131). -/
structure BusInterface where
  receiver : Receiver
  idleCount : Nat
  assembler : Assembler
  queues : Queues
  transmitter : Transmitter
  credits : Credits
  jitter : Nat
  periodTimer : Timer
  spacingTimer : Timer
  owed : Bool
  restartPending : Bool
  deriving DecidableEq, Repr

/-! ### The whole block -/

/-- The LZC-418: the station state, each block, the counters, and the queue of commands waiting (the model's own
field, first in, first out). -/
structure State where
  station : Station
  settings : Settings
  startup : StartUp
  inputs : Inputs
  air : AirMonitor
  vent : Ventilation
  bays : BayMonitor
  peers : PeerTable
  guide : Guidance
  light : Lighting
  bus : BusInterface
  counters : Counters
  pending : List Instr
  deriving DecidableEq, Repr

/-- The spec names no fault that stops the block: every error is counted, answered with a result, or leads to
FALLBACK. No constructor, so no step faults. -/
inductive Fault
  deriving DecidableEq, Repr

/-- Why a command has no outcome in the model. -/
inductive Refusal where
  /-- Raised by an arm of `exec` whose command has no meaning yet; no arm raises it. Safe: the model stops. -/
  | notModelled (mnemonic : String)
  deriving DecidableEq, Repr

/-! ### Values after reset (Part 10, "Values After Reset") -/

/-- A filter after a reset: the filtered state inactive, the line wherever the outside holds it (R28, R35, R63,
R116, R179). -/
def FilteredInput.afterReset (i : FilteredInput) : FilteredInput :=
  { line := i.line, filtered := false, steadyMs := 0 }

/-- The inputs after a reset. -/
def Inputs.afterReset (i : Inputs) : Inputs :=
  { purge := i.purge.afterReset
    runConfirm := i.runConfirm.map FilteredInput.afterReset
    outerLoops := i.outerLoops.map FilteredInput.afterReset
    innerLoops := i.innerLoops.map FilteredInput.afterReset
    motion := i.motion.map FilteredInput.afterReset }

/-- A line at its level in `State.reset` (log 4). -/
def FilteredInput.atReset : FilteredInput :=
  { line := Config.inputLineAtReset, filtered := false, steadyMs := 0 }

/-- The inputs in `State.reset` (log 4). -/
def Inputs.atReset : Inputs :=
  { purge := .atReset
    runConfirm := List.replicate 6 .atReset
    outerLoops := List.replicate 4 .atReset
    innerLoops := List.replicate 4 .atReset
    motion := List.replicate 4 .atReset }

/-- R1, R12, R14, R22. -/
def AirMonitor.afterReset : AirMonitor :=
  { heads := [], sampled := [], ownIndex := none, level := .clear, holdTimer := none, roundTimer := none, poll := none
    expiring := false }

/-- R23, R47, R49; floor, D, C and s by log 6. -/
def Ventilation.afterReset : Ventilation :=
  { floor := Config.demandBeforeListening, demand := Config.demandBeforeListening,
    commanded := Config.demandBeforeListening, override := none, fans := [], runList := [], startQueue := [],
    dutyPointer := none, speed := Config.speedBeforeFirstRun, ventDegraded := false, ventLost := false }

/-- Six empty buckets (R69). -/
def TrafficRing.empty : TrafficRing :=
  { oldest := 0, second := 0, third := 0, fourth := 0, fifth := 0, current := 0 }

/-- R50, R61, R63, R69, R71. -/
def BayMonitor.afterReset : BayMonitor :=
  { bays := [], scanTimer := none, reading := none, gates := [], ring := .empty, ringTimer := none }

/-- Nothing heard (R74). -/
def Heard.absent : Heard :=
  { airIndex := none, alarm := none, purge := none, closed := none, adverts := none }

/-- R73, R84, R90. -/
def PeerTable.afterReset : PeerTable :=
  { slots := List.replicate 16 none, sweepTimer := none, sympathy := false }

/-- A row that knows no route (R95). -/
def Row.noRoute : Row := { cost := 15, free := 0, via := 0, exit := .none }

/-- The rows after reset (R95). -/
def Rows.afterReset : Rows := { standard := .noRoute, accessible := .noRoute, charging := .noRoute }

/-- A BLANK image (R102, R103). -/
def SignImage.blank : SignImage :=
  { display := .blank, hundreds := none, tens := none, units := none, arrow := none }

/-- R91, R95, R102, R107. -/
def Guidance.afterReset : Guidance :=
  { serviceClose := false, closed := false, rows := .afterReset, signs := [], lastServed := 0, exchange := none,
    fallbackTimer := none, fallbackDue := [] }

/-- A channel held at 100: in STARTING and while held in reset (R128; the state FORCED there is log 7), and in
FALLBACK (R128). -/
def Channel.heldAt100 (number : Nat) (c : ChannelSettings) : Channel :=
  { number, settings := c, state := .forced, output := 100, hold := none, dim := none, override := none }

/-- R113, R116, R128. -/
def Lighting.afterReset : Lighting :=
  { channels := [1, 2, 3, 4, 5, 6, 7, 8].map (Channel.heldAt100 · .default), forcing := false,
    motionSets := List.replicate 4 0#8, repeatTimers := List.replicate 4 none }

/-- The reload values (R152). -/
def Credits.full : Credits := { alert := 8, passage := 4, status := 2, report := 1 }

/-- R145. -/
def Queues.empty : Queues := { alert := [], passage := [], status := [], report := [] }

/-- R132, R145, R152, R154, R159. The spec gives the character receiver no state after a reset or when reception
begins: it hunts (DESIGN CHOICE, log 31). -/
def BusInterface.afterReset : BusInterface :=
  { receiver := .hunting, idleCount := 0, assembler := .awaitIdle, queues := .empty, transmitter := .atRest,
    credits := .full, jitter := 0, periodTimer := none, spacingTimer := none, owed := false,
    restartPending := false }

/-- A counter at 0 with its flag clear (R169). -/
def Counter.zero : Counter := { count := 0, overflow := false }

/-- All sixteen counters at 0 (R169). -/
def Counters.zero : Counters :=
  { rxGood := .zero, rxParity := .zero, rxFraming := .zero, rxCrc := .zero, rxLength := .zero, rxForeign := .zero,
    txGood := .zero, txCollision := .zero, txDrop := .zero, passageDrop := .zero, peerReject := .zero,
    addressClash := .zero, serviceOverrun := .zero, signMiss := .zero, headMiss := .zero, gateStuck := .zero }

/-- STARTING as the end of a reset leaves it: the read of the settings memory has 100 ms (R172, R173). Until a record
has passed, the image of the settings memory is the empty list (DESIGN CHOICE: the spec gives it no value then; log
34). -/
def StartUp.starting (supplyInRange : Bool) : StartUp :=
  { supplyInRange, resetLineLow := false, powerOnTimer := none, readTimer := some 100, listeningTimer := none,
    image := [], clampedCount := 0 }

/-- The block right after a power-on reset has ended (R172; log 2). -/
def State.reset : State :=
  { station := .starting, settings := .unread, startup := .starting true, inputs := .atReset,
    air := .afterReset, vent := .afterReset, bays := .afterReset, peers := .afterReset, guide := .afterReset,
    light := .afterReset, bus := .afterReset, counters := .zero, pending := [] }

end Sys2Proof.Machine
end

