-- ==== Sys2Proof/Machine/Arith.lean ====
section
/-! DEFINITION. The whole-number arithmetic of the manual ("Rounding", Conventions) and the choice of a largest value. -/

namespace Sys2Proof.Machine

/-- Division rounded up: the next whole number at or above. -/
def ceilDiv (a b : Nat) : Nat := (a + b - 1) / b

/-- `v` brought into `lo`..`hi`, the nearer limit when it lies outside (R174). -/
def clampTo (lo hi v : Nat) : Nat := max lo (min hi v)

/-- The largest of a list of values, absent when there is none. -/
def largest : List Nat → Option Nat
  | [] => none
  | v :: vs => some (vs.foldl max v)

/-- Bit `n` of a byte. -/
def bit (b : Byte) (n : Nat) : Bool := b.getLsbD n

/-- The number held in bits `lo` .. `lo + width - 1` of a byte. -/
def field (b : Byte) (lo width : Nat) : Nat := b.toNat / 2 ^ lo % 2 ^ width

/-- A count that stays at `top` once it has reached it. -/
def saturatingSucc (top n : Nat) : Nat := if n < top then n + 1 else top

/-- Channel `n` (1..8) belongs to the set. -/
def inChannelSet (set : ChannelSet) (n : Nat) : Bool := decide (1 ≤ n) && set.getLsbD (n - 1)

end Sys2Proof.Machine
end

