-- ==== Sys2Proof/Machine/Ops.lean ====
section
/-! DEFINITION. The operations the blocks share: replacing one block of the state, timers and their limits, the
counters (R169), and finding or changing one record of a numbered collection. -/

namespace Sys2Proof.Machine

/-! ### Replacing one block -/

/-- The state with its `station` replaced. -/
def State.setStation (s : State) (v : Station) : State := { s with station := v }

/-- The state with its `settings` replaced. -/
def State.setSettings (s : State) (v : Settings) : State := { s with settings := v }

/-- The state with its `startup` replaced. -/
def State.setStartup (s : State) (v : StartUp) : State := { s with startup := v }

/-- The state with its `inputs` replaced. -/
def State.setInputs (s : State) (v : Inputs) : State := { s with inputs := v }

/-- The state with its `air` replaced. -/
def State.setAir (s : State) (v : AirMonitor) : State := { s with air := v }

/-- The state with its `vent` replaced. -/
def State.setVent (s : State) (v : Ventilation) : State := { s with vent := v }

/-- The state with its `bays` replaced. -/
def State.setBays (s : State) (v : BayMonitor) : State := { s with bays := v }

/-- The state with its `peers` replaced. -/
def State.setPeers (s : State) (v : PeerTable) : State := { s with peers := v }

/-- The state with its `guide` replaced. -/
def State.setGuide (s : State) (v : Guidance) : State := { s with guide := v }

/-- The state with its `light` replaced. -/
def State.setLight (s : State) (v : Lighting) : State := { s with light := v }

/-- The state with its `bus` replaced. -/
def State.setBus (s : State) (v : BusInterface) : State := { s with bus := v }

/-- The state with its `counters` replaced. -/
def State.setCounters (s : State) (v : Counters) : State := { s with counters := v }

/-- The state with its `pending` replaced. -/
def State.setPending (s : State) (v : List Instr) : State := { s with pending := v }

/-! ### Station states -/

/-- LISTENING or NORMAL, the states in which every Part works by all its rules. -/
def State.working (s : State) : Bool := decide (s.station = .listening) || decide (s.station = .normal)

/-- The receiver and the frame assembler run: LISTENING, NORMAL and FALLBACK (R132). -/
def State.receiving (s : State) : Bool := s.working || decide (s.station = .fallback)

/-! ### Timers -/

/-- Seconds as milliseconds. -/
def seconds (n : Nat) : Nat := n * 1000

/-- A limit given in minutes, where 0 means until ended (R29, R58, R124). -/
def limitOfMinutes (minutes : Nat) : TimeLimit :=
  if minutes = 0 then .untilEnded else .remaining (minutes * 60000)

/-- The limit is a running timer, not the mark "until cleared" or "until released". -/
def TimeLimit.runs : TimeLimit → Bool
  | .untilEnded => false
  | .remaining _ => true

/-! ### Counters -/

/-- Counting by one: the count stops at 65535 and a further event sets the overflow flag (R169). -/
def Counter.bump (c : Counter) : Counter :=
  if c.count < 65535 then { c with count := c.count + 1 } else { c with overflow := true }

/-- The counter of a name. -/
def Counters.get (c : Counters) : CounterName → Counter
  | .rxGood => c.rxGood
  | .rxParity => c.rxParity
  | .rxFraming => c.rxFraming
  | .rxCrc => c.rxCrc
  | .rxLength => c.rxLength
  | .rxForeign => c.rxForeign
  | .txGood => c.txGood
  | .txCollision => c.txCollision
  | .txDrop => c.txDrop
  | .passageDrop => c.passageDrop
  | .peerReject => c.peerReject
  | .addressClash => c.addressClash
  | .serviceOverrun => c.serviceOverrun
  | .signMiss => c.signMiss
  | .headMiss => c.headMiss
  | .gateStuck => c.gateStuck

/-- The counters with the named one counted by one. -/
def Counters.bump (c : Counters) : CounterName → Counters
  | .rxGood => { c with rxGood := c.rxGood.bump }
  | .rxParity => { c with rxParity := c.rxParity.bump }
  | .rxFraming => { c with rxFraming := c.rxFraming.bump }
  | .rxCrc => { c with rxCrc := c.rxCrc.bump }
  | .rxLength => { c with rxLength := c.rxLength.bump }
  | .rxForeign => { c with rxForeign := c.rxForeign.bump }
  | .txGood => { c with txGood := c.txGood.bump }
  | .txCollision => { c with txCollision := c.txCollision.bump }
  | .txDrop => { c with txDrop := c.txDrop.bump }
  | .passageDrop => { c with passageDrop := c.passageDrop.bump }
  | .peerReject => { c with peerReject := c.peerReject.bump }
  | .addressClash => { c with addressClash := c.addressClash.bump }
  | .serviceOverrun => { c with serviceOverrun := c.serviceOverrun.bump }
  | .signMiss => { c with signMiss := c.signMiss.bump }
  | .headMiss => { c with headMiss := c.headMiss.bump }
  | .gateStuck => { c with gateStuck := c.gateStuck.bump }

/-- The sixteen names in the order of R143. -/
def CounterName.all : List CounterName :=
  [.rxGood, .rxParity, .rxFraming, .rxCrc, .rxLength, .rxForeign, .txGood, .txCollision, .txDrop, .passageDrop,
    .peerReject, .addressClash, .serviceOverrun, .signMiss, .headMiss, .gateStuck]

/-- The Bus Interface counts one event (R169). -/
def State.count (s : State) (n : CounterName) : State := s.setCounters (s.counters.bump n)

/-! ### Records found by their number -/

/-- The head record of a number (R1). -/
def AirMonitor.head? (a : AirMonitor) (n : Nat) : Option Head := a.heads.find? (fun h => h.settings.number == n)

/-- What the other blocks read of a head number (R13). -/
def AirMonitor.sampled? (a : AirMonitor) (n : Nat) : Option SampledHead := a.sampled.find? (fun h => h.number == n)

/-- The head record of a number changed. -/
def AirMonitor.mapHead (a : AirMonitor) (n : Nat) (f : Head → Head) : AirMonitor :=
  { a with heads := a.heads.map (fun h => if h.settings.number = n then f h else h) }

/-- The fan record of a number (R34). -/
def Ventilation.fan? (v : Ventilation) (n : Nat) : Option Fan := v.fans.find? (fun f => f.number == n)

/-- The fan record of a number changed. -/
def Ventilation.mapFan (v : Ventilation) (n : Nat) (f : Fan → Fan) : Ventilation :=
  { v with fans := v.fans.map (fun x => if x.number = n then f x else x) }

/-- The bay record of a number (R50). -/
def BayMonitor.bay? (b : BayMonitor) (n : Nat) : Option Bay := b.bays.find? (fun x => x.settings.number == n)

/-- The bay record of a number changed. -/
def BayMonitor.mapBay (b : BayMonitor) (n : Nat) (f : Bay → Bay) : BayMonitor :=
  { b with bays := b.bays.map (fun x => if x.settings.number = n then f x else x) }

/-- The bay has been put out of service: the answer of a read of it that is in progress will be discarded (R51). -/
def BayMonitor.discardRead (b : BayMonitor) (n : Nat) : BayMonitor :=
  { b with reading := b.reading.map (fun r => if r.bay = n then { r with discarded := true } else r) }

/-- The gate record of a number (R63). -/
def BayMonitor.gate? (b : BayMonitor) (n : Nat) : Option Gate := b.gates.find? (fun x => x.settings.number == n)

/-- The gate record of a number changed. -/
def BayMonitor.mapGate (b : BayMonitor) (n : Nat) (f : Gate → Gate) : BayMonitor :=
  { b with gates := b.gates.map (fun x => if x.settings.number = n then f x else x) }

/-- The sign record of a number (R102). -/
def Guidance.sign? (g : Guidance) (n : Nat) : Option Sign := g.signs.find? (fun x => x.settings.number == n)

/-- The sign record of a number changed. -/
def Guidance.mapSign (g : Guidance) (n : Nat) (f : Sign → Sign) : Guidance :=
  { g with signs := g.signs.map (fun x => if x.settings.number = n then f x else x) }

/-- The channel record of a number (R113). -/
def Lighting.channel? (l : Lighting) (n : Nat) : Option Channel := l.channels.find? (fun x => x.number == n)

/-- The channel record of a number changed. -/
def Lighting.mapChannel (l : Lighting) (n : Nat) (f : Channel → Channel) : Lighting :=
  { l with channels := l.channels.map (fun x => if x.number = n then f x else x) }

/-! ### Contact inputs -/

/-- A filtered change is taken: the line has stood at the new value for 60 ms (R28, R35, R63, R116). -/
def FilteredInput.take (_ : FilteredInput) (value : Bool) : FilteredInput :=
  { line := value, filtered := value, steadyMs := 0 }

/-- Input number `n` of a list whose numbers begin at 1. -/
def inputAt? (inputs : List FilteredInput) (n : Nat) : Option FilteredInput :=
  if n = 0 then none else inputs[n - 1]?

/-- The filtered state of input number `n`; an input that does not exist is inactive. -/
def filteredAt (inputs : List FilteredInput) (n : Nat) : Bool :=
  match inputAt? inputs n with
  | some i => i.filtered
  | none => false

/-- Input number `n` takes a filtered change. -/
def takeAt (inputs : List FilteredInput) (n : Nat) (value : Bool) : List FilteredInput :=
  match inputAt? inputs n with
  | some i => inputs.set (n - 1) (i.take value)
  | none => inputs

end Sys2Proof.Machine
end

