-- ==== Sys2Proof/Machine/Lighting.lean ====
section
/-! DEFINITION. The Lighting Controller (R113..R128). -/

namespace Sys2Proof.Machine

/-! ### One channel -/

/-- ACTIVE at the active level with a full hold timer (R117, R123, R125). -/
def Channel.activate (c : Channel) : Channel :=
  { c with state := .active, output := c.settings.active, hold := some (seconds c.settings.holdSeconds), dim := none }

/-- A presence event taken by a channel, absorbed in FORCED and OVERRIDDEN (R117, R118). -/
def Channel.presence (c : Channel) : Channel :=
  match c.state with
  | .active => c.activate
  | .dimming => c.activate
  | .idle => c.activate
  | .forced => c
  | .overridden => c

/-- IDLE at the idle level (R120, R121). -/
def Channel.toIdle (c : Channel) : Channel :=
  { c with state := .idle, output := c.settings.idle, hold := none, dim := none }

/-- The hold timer of an ACTIVE channel expires (R119, R120, R121). -/
def Channel.holdExpires (c : Channel) : Channel :=
  if c.settings.sleep then
    match c.settings.dimMode with
    | .step => c.toIdle
    | .slew =>
      if c.output = c.settings.idle then c.toIdle
      else { c with state := .dimming, hold := none, dim := some 1000 }
  else { c with hold := none }

/-- One slew step toward the idle level, not past it (R121). -/
def Channel.slewStep (c : Channel) : Nat :=
  if c.settings.idle < c.output then max c.settings.idle (c.output - c.settings.slew)
  else min c.settings.idle (c.output + c.settings.slew)

/-- The dim timer of a DIMMING channel expires (R121). -/
def Channel.dimExpires (c : Channel) : Channel :=
  if c.slewStep = c.settings.idle then c.toIdle else { c with output := c.slewStep, dim := some 1000 }

/-- The channel enters FORCED at 100; its override is kept (R122). -/
def Channel.force (c : Channel) : Channel :=
  match c.state with
  | .forced => c
  | _ => { c with state := .forced, output := 100, hold := none, dim := none }

/-- The channel leaves FORCED: to OVERRIDDEN if an override is present, else to ACTIVE (R123). -/
def Channel.release (c : Channel) : Channel :=
  match c.state, c.override with
  | .forced, some o => { c with state := .overridden, output := o.level, hold := none, dim := none }
  | .forced, none => c.activate
  | _, _ => c

/-- An override is set: OVERRIDDEN at its level, or recorded on a FORCED channel (R124). -/
def Channel.setOverride (c : Channel) (o : LightOverride) : Channel :=
  match c.state with
  | .forced => { c with override := some o }
  | _ => { c with state := .overridden, output := o.level, hold := none, dim := none, override := some o }

/-- A present override ends (R125). -/
def Channel.endOverride (c : Channel) : Channel :=
  match c.override, c.state with
  | none, _ => c
  | some _, .overridden => { c with override := none }.activate
  | some _, _ => { c with override := none }

/-! ### All channels -/

/-- A presence event for a set of channels (R115). -/
def State.presence (s : State) (set : ChannelSet) : State :=
  s.setLight { s.light with
    channels := s.light.channels.map (fun c => if inChannelSet set c.number then c.presence else c) }

/-- A presence event for one channel; 0 is none (R56). -/
def State.presenceAt (s : State) (channel : Nat) : State := s.setLight (s.light.mapChannel channel Channel.presence)

/-- The forcing condition (R122). -/
def State.forcingHolds (s : State) : Bool :=
  decide (s.air.level = .warning) || decide (s.air.level = .alarm) || s.inputs.purge.filtered

/-- The Lighting Controller forms the forcing condition afresh and acts when it has changed (R122, R123). -/
def State.formForcing (s : State) : State :=
  match s.light.forcing, s.forcingHolds with
  | false, true => s.setLight { s.light with forcing := true, channels := s.light.channels.map Channel.force }
  | true, false => s.setLight { s.light with forcing := false, channels := s.light.channels.map Channel.release }
  | _, _ => s

/-- The Lighting Controller on entry to LISTENING (R113, R128): FORCED at 100 if the forcing condition holds, else
ACTIVE at the active level with a full hold; the repeat timers start absent. -/
def State.lightingListens (s : State) : State :=
  let fresh (n : Nat) (c : ChannelSettings) : Channel :=
    if s.forcingHolds then Channel.heldAt100 n c else (Channel.heldAt100 n c).activate
  s.setLight
    { channels := s.settings.channels.zipIdx.map (fun p => fresh (p.2 + 1) p.1)
      forcing := s.forcingHolds
      motionSets := s.settings.motion
      repeatTimers := List.replicate 4 none }

/-! ### Commands -/

/-- The channel set of motion input `n`; an input that does not exist has none (R116). -/
def Lighting.motionSet (l : Lighting) (n : Nat) : ChannelSet := if n = 0 then 0#8 else l.motionSets.getD (n - 1) 0#8

/-- The repeat timer of motion input `n` replaced. -/
def State.setRepeat (s : State) (n : Nat) (t : Timer) : State :=
  if n = 0 then s else s.setLight { s.light with repeatTimers := s.light.repeatTimers.set (n - 1) t }

/-- MOTION_CHANGE: a filtered motion input changes (R116). -/
def execMotionChange (n : Nat) (active : Bool) (s : State) : Host.Outcome State Fault Refusal :=
  match s.working, inputAt? s.inputs.motion n with
  | true, some i =>
    if i.filtered = active then .next s
    else
      let taken := s.setInputs { s.inputs with motion := takeAt s.inputs.motion n active }
      if active then .next ((taken.presence (taken.light.motionSet n)).setRepeat n (some 5000))
      else .next (taken.setRepeat n none)
  | _, _ => .next s

/-- MOTION_REPEAT_TIMER_EXPIRY: the repeat timer expires while the input is active (R116). -/
def execMotionRepeatTimerExpiry (n : Nat) (s : State) : Host.Outcome State Fault Refusal :=
  if s.working && filteredAt s.inputs.motion n then
    .next ((s.presence (s.light.motionSet n)).setRepeat n (some 5000))
  else .next s

/-- CHANNEL_HOLD_TIMER_EXPIRY: the hold timer of an ACTIVE channel expires (R119, R120, R121). -/
def execChannelHoldTimerExpiry (n : Nat) (s : State) : Host.Outcome State Fault Refusal :=
  match s.working, s.light.channel? n with
  | true, some c =>
    if c.state = .active ∧ c.hold ≠ none then .next (s.setLight (s.light.mapChannel n Channel.holdExpires))
    else .next s
  | _, _ => .next s

/-- DIM_TIMER_EXPIRY: the dim timer of a DIMMING channel expires (R121). -/
def execDimTimerExpiry (n : Nat) (s : State) : Host.Outcome State Fault Refusal :=
  match s.working, s.light.channel? n with
  | true, some c =>
    if c.state = .dimming ∧ c.dim ≠ none then .next (s.setLight (s.light.mapChannel n Channel.dimExpires))
    else .next s
  | _, _ => .next s

/-- LIGHT_OVERRIDE_EXPIRY: a channel's override timer expires; an override "until cleared" does not (R125). -/
def execLightOverrideExpiry (n : Nat) (s : State) : Host.Outcome State Fault Refusal :=
  match s.working, (s.light.channel? n).bind Channel.override with
  | true, some o =>
    if o.limit.runs then .next (s.setLight (s.light.mapChannel n Channel.endOverride)) else .next s
  | _, _ => .next s

end Sys2Proof.Machine
end

