-- ==== Sys2Proof/Machine/Line.lean ====
section
/-! DEFINITION. The character of the zone bus and its reception, sample by sample (R129, R130, R131), and the CRC-16
(R134). No row of the table is one line sample: the commands carry the outcomes of these functions. -/

namespace Sys2Proof.Machine

/-- The two states of the line (Part 7, "The Line and the Character"). -/
inductive LineLevel where
  | mark | space
  deriving DecidableEq, Repr

/-- The parity bit: 1 when the data byte holds an odd number of 1s (R129). -/
def parityBit (b : Byte) : Bool :=
  ((List.range 8).filter (fun i => bit b i)).length % 2 == 1

/-- A bit on the line: MARK for 1, SPACE for 0 (R129). -/
def levelOf (one : Bool) : LineLevel := if one then .mark else .space

/-- The 11 bits of a character in the order they are sent (R129). -/
def characterBits (b : Byte) : List LineLevel :=
  .space :: (List.range 8).map (fun i => levelOf (bit b i)) ++ [levelOf (parityBit b), .mark]

/-- The 176 line samples of a character, 16 to a bit (R130, R155). -/
def characterSamples (b : Byte) : List LineLevel :=
  (characterBits b).flatMap (List.replicate 16)

/-- The character receiver at the level of samples (R130): hunting with the last sample seen, receiving at a sample
number with the bits taken so far, or waiting for MARK after a framing error. -/
inductive SampleReceiver where
  | hunting (last : LineLevel)
  | receiving (sample : Nat) (bits : List LineLevel)
  | awaitingMark
  deriving DecidableEq, Repr

/-- The byte of eight data bits, the least significant first (R129). -/
def byteOfBits (bits : List LineLevel) : Byte :=
  BitVec.ofNat 8 (bits.zipIdx.foldl (fun n p => if p.1 = .mark then n + 2 ^ p.2 else n) 0)

/-- The verdict at the stop sample: a stop bit at SPACE is a framing error whatever the parity, then a parity bit
that does not make the count of 1s even is a parity error (R130). `bits` are D0..D7 and the parity bit. -/
def verdictOf (bits : List LineLevel) (stop : LineLevel) : Verdict :=
  if stop = .space then .bad .framing
  else if (bits.filter (· = .mark)).length % 2 = 1 then .bad .parity
  else .good

/-- The character the receiver hands on at the stop sample (R130). -/
def characterOf (bits : List LineLevel) (stop : LineLevel) : RxChar :=
  { byte := byteOfBits (bits.take 8), verdict := verdictOf bits stop }

/-- One line sample at the receiver: its next state and the character that ends at this sample, if one does (R130). -/
def SampleReceiver.sample (r : SampleReceiver) (l : LineLevel) : SampleReceiver × Option RxChar :=
  match r with
  | .hunting last => (if last = .mark ∧ l = .space then .receiving 0 [] else .hunting l, none)
  | .receiving n bits =>
    let k := n + 1
    if k = 8 then (if l = .mark then .hunting .mark else .receiving 8 bits, none)
    else if k = 168 then
      (if l = .space then .awaitingMark else .hunting .mark, some (characterOf bits l))
    else if 24 ≤ k ∧ (k - 24) % 16 = 0 then (.receiving k (bits ++ [l]), none)
    else (.receiving k bits, none)
  | .awaitingMark => (if l = .mark then .hunting .mark else .awaitingMark, none)

/-- The characters a run of samples ends, oldest first. -/
def SampleReceiver.run (r : SampleReceiver) : List LineLevel → SampleReceiver × List RxChar
  | [] => (r, [])
  | l :: ls =>
    let (r', c) := r.sample l
    let (r'', cs) := r'.run ls
    (r'', c.toList ++ cs)

/-- The idle count after one more sample: 0 at a SPACE sample, from sample 0 of a character to its stop sample, and
at the sample of a false start; otherwise one more at a MARK sample while hunting (R131). The MARK sample that ends
the wait after a framing error counts as one taken while hunting (DESIGN CHOICE, log 32). -/
def idleCountStep (r : SampleReceiver) (count : Nat) (l : LineLevel) : Nat :=
  match r, l with
  | _, .space => 0
  | .receiving _ _, .mark => 0
  | .hunting _, .mark => count + 1
  | .awaitingMark, .mark => count + 1

/-- The line is idle once the idle count exceeds 352 samples (R131). -/
def idleCountMeansIdle (count : Nat) : Bool := decide (352 < count)

/-! ### The CRC-16 -/

/-- One data bit into the register (R134). -/
def crcBit (register : Half) (data : Bool) : Half :=
  if register.msb != data then (register <<< 1) ^^^ 0x1021#16 else register <<< 1

/-- One byte into the register, most significant bit first (R134). -/
def crcByte (register : Half) (b : Byte) : Half :=
  [7, 6, 5, 4, 3, 2, 1, 0].foldl (fun r i => crcBit r (bit b i)) register

/-- The CRC-16: generator x^16 + x^12 + x^5 + 1, start FFFFH, no final inversion (R134). -/
def crc16 (bytes : List Byte) : Half := bytes.foldl crcByte 0xFFFF#16

end Sys2Proof.Machine
end

