-- ==== Sys2Proof/Machine/Operands.lean ====
section
/-! DEFINITION. How numbers and codes stand in bytes (Part 7, "Payloads"; R137, R139..R143) and how they are read back. -/

namespace Sys2Proof.Machine

/-! ### Numbers -/

/-- A number in one byte. -/
def byteOf (n : Nat) : Byte := BitVec.ofNat 8 n

/-- A number in two bytes. -/
def halfOf (n : Nat) : Half := BitVec.ofNat 16 n

/-- The high byte of a two-byte field. -/
def highByte (h : Half) : Byte := h.extractLsb' 8 8

/-- The low byte of a two-byte field. -/
def lowByte (h : Half) : Byte := h.extractLsb' 0 8

/-- The two bytes of a field, the high byte first. -/
def halfBytes (h : Half) : List Byte := [highByte h, lowByte h]

/-- A two-byte field read high byte first. -/
def halfFrom (high low : Byte) : Half := high ++ low

/-! ### Codes used in more than one payload -/

/-- 0 CLEAR, 1 WATCH, 2 WARNING, 3 ALARM. -/
def AlarmLevel.code : AlarmLevel → Nat
  | .clear => 0
  | .watch => 1
  | .warning => 2
  | .alarm => 3

/-- An alarm level code as carried; a code above 3 is handed as ALARM (R137). -/
def alarmOfCode (b : Byte) : AlarmLevel :=
  match b.toNat with
  | 0 => .clear
  | 1 => .watch
  | 2 => .warning
  | _ => .alarm

/-- The alarm level of a report, FFH when absent. -/
def alarmByte : Option AlarmLevel → Byte
  | some l => byteOf l.code
  | none => 0xFF#8

/-- An index in two bytes, FFFFH when absent. -/
def indexHalf : Option Nat → Half
  | some i => halfOf i
  | none => 0xFFFF#16

/-- An air index as carried: FFFFH is absent (R137). -/
def indexOfHalf (h : Half) : Option Nat := if h = 0xFFFF#16 then none else some h.toNat

/-- 0..3 exit index, 4 HERE, FFH none. -/
def RouteExit.byte : RouteExit → Byte
  | .by n => byteOf n
  | .here => 4#8
  | .none => 0xFF#8

/-- 1 LISTENING, 2 NORMAL; the other states send no report (R180). -/
def Station.byte : Station → Byte
  | .listening => 1#8
  | .normal => 2#8
  | _ => 0#8

/-- A head's state code in a section 1 report (R142). -/
def HeadState.byte : HeadState → Byte
  | .warmup => 1#8
  | .valid => 2#8
  | .over => 3#8
  | .fault => 4#8

/-- A fan's state code in a section 1 report (R142). -/
def FanState.byte : FanState → Byte
  | .stopped => 1#8
  | .queued => 2#8
  | .starting => 3#8
  | .running => 4#8
  | .stopping => 5#8
  | .fault => 6#8
  | .lockedOut => 7#8

/-- 0 BLANK, 1 COUNT, 2 FULL, 3 CLOSED (R142, R144). -/
def DisplayState.byte : DisplayState → Byte
  | .blank => 0#8
  | .count => 1#8
  | .full => 2#8
  | .closed => 3#8

/-- A channel's state code in a section 2 report (R142). -/
def ChannelState.byte : ChannelState → Byte
  | .active => 1#8
  | .dimming => 2#8
  | .idle => 3#8
  | .forced => 4#8
  | .overridden => 5#8

/-- A bay's state code (R143). -/
def BayState.code : BayState → Nat
  | .unknown => 1
  | .free => 2
  | .occupied => 3
  | .reserved => 4
  | .fault => 5
  | .outOfService => 6

/-- A bay's class code (R143). -/
def BayClass.code : BayClass → Nat
  | .standard => 0
  | .accessible => 1
  | .charging => 2
  | .staff => 3

/-- 0 none, 1 LEFT .. 6 BACK (R144). -/
def arrowByte : Option Arrow → Byte
  | none => 0#8
  | some .left => 1#8
  | some .ahead => 2#8
  | some .right => 3#8
  | some .rampDown => 4#8
  | some .rampUp => 5#8
  | some .back => 6#8

/-- A digit code: 0..9, or 0FH for blank (R144). -/
def digitByte : Option Nat → Byte
  | some d => byteOf d
  | none => 0x0F#8

/-! ### Results -/

/-- The result of a command (Part 9). -/
inductive CommandResult where
  | done | refusedState | badArgument | unknownCommand
  deriving DecidableEq, Repr

/-- 0 DONE, 1 REFUSED_STATE, 2 BAD_ARGUMENT, 3 UNKNOWN_COMMAND. -/
def CommandResult.byte : CommandResult → Byte
  | .done => 0#8
  | .refusedState => 1#8
  | .badArgument => 2#8
  | .unknownCommand => 3#8

/-! ### Bulletins in bytes -/

/-- The four bytes of an advert (R139). -/
def advertBytes (a : AdvertPayload) : List Byte := a.cost :: halfBytes a.free ++ [a.via]

/-- The nineteen payload bytes of a STATUS (R139). -/
def statusBytes (p : StatusPayload) : List Byte :=
  [p.level, p.alarm] ++ halfBytes p.index ++ [p.flags, p.demand, p.commanded] ++
    advertBytes p.standard ++ advertBytes p.accessible ++ advertBytes p.charging

/-- A STATUS payload read field by field; another length is none (R136, R139). -/
def statusOfBytes : List Byte → Option StatusPayload
  | [b1, b2, b3, b4, b5, b6, b7, b8, b9, b10, b11, b12, b13, b14, b15, b16, b17, b18, b19] =>
    some
      { level := b1, alarm := b2, index := halfFrom b3 b4, flags := b5, demand := b6, commanded := b7
        standard := { cost := b8, free := halfFrom b9 b10, via := b11 }
        accessible := { cost := b12, free := halfFrom b13 b14, via := b15 }
        charging := { cost := b16, free := halfFrom b17 b18, via := b19 } }
  | _ => none

/-- The four payload bytes of an ALERT (R140). -/
def alertBytes (p : AlertPayload) : List Byte := p.alarm :: halfBytes p.index ++ [p.flags]

/-- An ALERT payload read field by field (R136, R140). -/
def alertOfBytes : List Byte → Option AlertPayload
  | [b1, b2, b3, b4] => some { alarm := b1, index := halfFrom b2 b3, flags := b4 }
  | _ => none

/-! ### Frames in bytes -/

/-- A frame on the line: marker C5H, kind, source, destination, length, payload, and the CRC over all but the
marker, high byte first ("Finding the Frame", R134). -/
def frameBytes (kind source destination : Byte) (payload : List Byte) : List Byte :=
  let body := [kind, source, destination, byteOf payload.length] ++ payload
  0xC5#8 :: body ++ halfBytes (crc16 body)

/-- A SIGN frame: marker 5AH, address, display state, three digit codes, arrow, and the CRC over address through
arrow (R144). -/
def signFrameBytes (sign : Nat) (image : SignImage) : List Byte :=
  let body := [byteOf sign, image.display.byte, digitByte image.hundreds, digitByte image.tens,
    digitByte image.units, arrowByte image.arrow]
  0x5A#8 :: body ++ halfBytes (crc16 body)

/-- A sign's answer in bytes: marker A5H, address, status, CRC over address and status (R144). -/
def signAnswerBytes (sign : Nat) (status : SignStatus) : List Byte :=
  let body := [byteOf sign, if status = .ok then 0#8 else 1#8]
  0xA5#8 :: body ++ halfBytes (crc16 body)

/-- The characters of an answer that arrives whole, each with the verdict good. -/
def signAnswerCharacters (sign : Nat) (status : SignStatus) : List RxChar :=
  (signAnswerBytes sign status).map (fun b => { byte := b, verdict := .good })

/-- The address and status of a well-formed answer: the first five characters each good, the marker A5H, the CRC
agreeing and the status 0 or 1 (R144). Characters after the fifth change nothing. -/
def signAnswerOf : List RxChar → Option (Nat × SignStatus)
  | c1 :: c2 :: c3 :: c4 :: c5 :: _ =>
    if [c1, c2, c3, c4, c5].all (fun c => c.verdict = .good) ∧ c1.byte = 0xA5#8 ∧
        crc16 [c2.byte, c3.byte] = halfFrom c4.byte c5.byte then
      if c3.byte = 0#8 then some (c2.byte.toNat, .ok)
      else if c3.byte = 1#8 then some (c2.byte.toNat, .defect)
      else none
    else none
  | _ => none

end Sys2Proof.Machine
end

