-- ==== Sys2Proof/Machine/Flags.lean ====
section
/-! DEFINITION. Every byte of flags the spec lays out: the flags byte of bulletins, the closure sources, the marks of a
sign, the status of a peer slot, the overflow flags of the counters (R139, R140, R142, R143). -/

namespace Sys2Proof.Machine

/-- A byte from its bits, bit 0 first. -/
def byteOfFlags (bits : List Bool) : Byte :=
  byteOf (bits.zipIdx.foldl (fun n p => if p.1 then n + 2 ^ p.2 else n) 0)

/-- The closed flag of a flags byte: bit 0. -/
def closedFlag (flags : Byte) : Bool := bit flags 0

/-- The purge flag of a flags byte: bit 1. -/
def purgeFlag (flags : Byte) : Bool := bit flags 1

/-- The flags byte of a STATUS: closed, purge, VENT_LOST, VENT_DEGRADED (R139). -/
def State.statusFlags (s : State) : Byte :=
  byteOfFlags [s.guide.closed, s.inputs.purge.filtered, s.vent.ventLost, s.vent.ventDegraded]

/-- The flags byte of an ALERT: the purge flag alone (R140). -/
def State.alertFlags (s : State) : Byte := byteOfFlags [false, s.inputs.purge.filtered]

/-- The closure sources of a zone report: alarm, purge, service (R142). -/
def State.closureSources (s : State) : Byte :=
  byteOfFlags [decide (s.air.level = .alarm), s.inputs.purge.filtered, s.guide.serviceClose]

/-- The marks of a sign in a section 2 report: bit 0 the fault mark, bits 1 and 2 the last reported status (R142). -/
def Sign.marks (g : Sign) : Byte :=
  byteOfFlags [g.faultMark, decide (g.lastStatus = some .ok), decide (g.lastStatus = some .defect)]

/-- The entry status byte of a peer slot: bits 0 and 1 the age stamp, bits 4 and 5 the state, bit 7 the origin
(R143). -/
def Peer.statusByte (p : Peer) : Byte :=
  byteOf (p.age % 4 +
    (match p.state with
      | .fresh => 16
      | .stale => 32
      | .silent => 48) +
    (match p.origin with
      | .static _ => 0
      | .learned => 128))

/-- The two bytes of overflow flags: bit 0 of the first is the first counter's, bit 0 of the second the ninth's
(R143). -/
def Counters.overflowBytes (c : Counters) : List Byte :=
  let flags := CounterName.all.map (fun n => (c.get n).overflow)
  [byteOfFlags (flags.take 8), byteOfFlags (flags.drop 8)]

end Sys2Proof.Machine
end

