-- ==== Sys2Proof/Machine/Transmit.lean ====
section
/-! DEFINITION. The sending side's queues, class selection and access to the line (R145..R157), up to the moment an
attempt begins; capturing a STATUS, which needs the Guidance Unit, stands in Send.lean. -/

namespace Sys2Proof.Machine

/-! ### Classes, queues, credits -/

/-- The four classes, 0 to 3. -/
def TxClass.all : List TxClass := [.alert, .passage, .status, .report]

/-- The class gap in bit times (R153). -/
def TxClass.gapBits : TxClass → Nat
  | .alert => 0
  | .passage => 11
  | .status => 22
  | .report => 33

/-- The queue of a class (R145). -/
def Queues.get (q : Queues) : TxClass → List QueuedFrame
  | .alert => q.alert
  | .passage => q.passage
  | .status => q.status
  | .report => q.report

/-- The queues with that of a class replaced. -/
def Queues.put (q : Queues) (c : TxClass) (frames : List QueuedFrame) : Queues :=
  match c with
  | .alert => { q with alert := frames }
  | .passage => { q with passage := frames }
  | .status => { q with status := frames }
  | .report => { q with report := frames }

/-- The classes whose queue is not empty, the lowest-numbered first. -/
def Queues.nonEmpty (q : Queues) : List TxClass := TxClass.all.filter (fun c => !(q.get c).isEmpty)

/-- The credit of a class (R152). -/
def Credits.get (c : Credits) : TxClass → Nat
  | .alert => c.alert
  | .passage => c.passage
  | .status => c.status
  | .report => c.report

/-- One credit of a class spent (R152, R157). -/
def Credits.spend (c : Credits) : TxClass → Credits
  | .alert => { c with alert := c.alert - 1 }
  | .passage => { c with passage := c.passage - 1 }
  | .status => { c with status := c.status - 1 }
  | .report => { c with report := c.report - 1 }

/-- A selection: the class chosen and the credits after any reload; none when every queue is empty (R152). -/
def chooseClass (selection : Selection) (q : Queues) (credits : Credits) : Option (TxClass × Credits) :=
  match selection with
  | .strict => q.nonEmpty.head?.map (·, credits)
  | .weighted =>
    let now := if q.nonEmpty.all (fun c => credits.get c == 0) then Credits.full else credits
    (q.nonEmpty.find? (fun c => decide (0 < now.get c))).map (·, now)

/-- The jitter sequence (R154). -/
def jitterSequence : List Nat := [0, 9, 4, 13, 2, 11, 6, 15, 1, 8, 5, 12, 3, 10, 7, 14]

/-! ### The content of frames -/

/-- The ALERT fields as they stand: level, own index, purge flag (R20, R28, R140). -/
def State.alertContent (s : State) : AlertPayload :=
  { alarm := byteOf s.air.level.code, index := indexHalf s.air.ownIndex, flags := s.alertFlags }

/-- A route row as an advert; the exit is not advertised (R101). -/
def Row.advert (r : Row) : AdvertPayload :=
  { cost := byteOf r.cost, free := halfOf r.free, via := byteOf r.via }

/-- The STATUS fields as they stand (R139). -/
def State.statusContent (s : State) : StatusPayload :=
  { level := byteOf s.settings.levelNumber, alarm := byteOf s.air.level.code, index := indexHalf s.air.ownIndex
    flags := s.statusFlags, demand := byteOf s.vent.demand, commanded := byteOf s.vent.commanded
    standard := s.guide.rows.standard.advert, accessible := s.guide.rows.accessible.advert
    charging := s.guide.rows.charging.advert }

/-! ### Reaching the line -/

/-- The line is idle (R131). -/
def BusInterface.lineIdle (b : BusInterface) : Bool := idleCountMeansIdle b.idleCount

/-- An attempt begins: the frame's characters are driven, the own start bit ends the idle state of the line, and the
frame assembler goes to AWAIT_IDLE (R131, R138, R155). -/
def State.beginAttempt (s : State) (cls : TxClass) (kind destination : Byte) (payload : List Byte) : State :=
  s.setBus { s.bus with
    transmitter := .sending cls (frameBytes kind (byteOf s.settings.ownAddress) destination payload)
    assembler := .awaitIdle
    idleCount := 0 }

/-- An attempt with an ALERT, its content captured at this moment (R140, R155). -/
def State.beginAlert (s : State) : State := s.beginAttempt .alert 2#8 63#8 (alertBytes s.alertContent)

/-- A selection is made and GAP is entered: the next jitter value is taken, and the gap is the class gap plus twice
the value in bit times. A gap of 0 (class 0, j = 0) begins the attempt at once. With every queue empty the
transmitter is at rest (R152, R153, R154, R156). -/
def State.enterGap (s : State) : State :=
  match chooseClass s.settings.selection s.bus.queues s.bus.credits with
  | none => s.setBus { s.bus with transmitter := .atRest }
  | some (cls, credits) =>
    let gap := cls.gapBits + 2 * jitterSequence.getD s.bus.jitter 0
    let waiting := s.setBus { s.bus with
      credits := credits, jitter := (s.bus.jitter + 1) % 16, transmitter := .gap cls gap }
    match cls, gap with
    | .alert, 0 => waiting.beginAlert
    | _, _ => waiting

/-- A frame has joined a queue: a transmitter at rest looks at the line (R153). -/
def State.frameJoined (s : State) : State :=
  match s.bus.transmitter with
  | .atRest => if s.bus.lineIdle then s.enterGap else s.setBus { s.bus with transmitter := .waitingIdle }
  | _ => s

/-- A frame joins the end of its class queue with attempt count 0 (R145). -/
def State.join (s : State) (cls : TxClass) (content : FrameContent) : State :=
  (s.setBus { s.bus with
    queues := s.bus.queues.put cls (s.bus.queues.get cls ++ [{ content, attempts := 0 }]) }).frameJoined

/-- A frame of the class is pending: it waits and is not in the middle of an attempt (R145). -/
def BusInterface.hasPending (b : BusInterface) (cls : TxClass) : Bool :=
  match b.transmitter with
  | .sending c _ => decide ((if c = cls then 1 else 0) < (b.queues.get cls).length)
  | _ => decide (0 < (b.queues.get cls).length)

/-- The Air Monitor or the Ventilation Controller queues an ALERT (R20, R28, R146). In STARTING and FALLBACK no
ALERT is queued. -/
def State.queueAlert (s : State) : State :=
  if s.working && !s.bus.hasPending .alert then s.join .alert .alert else s

/-- A STATUS is queued: absorbed into a pending one, or added, which starts the spacing timer and clears the owed
mark (R146, R149, R150). -/
def State.queueStatus (s : State) : State :=
  if s.bus.hasPending .status then s
  else (s.setBus { s.bus with spacingTimer := some 1000, owed := false }).join .status .status

/-- The Guidance Unit tells of a significant change (R150). -/
def State.tellSignificant (s : State) : State :=
  if s.bus.hasPending .status then s
  else match s.bus.spacingTimer with
    | none => s.queueStatus
    | some _ => s.setBus { s.bus with owed := true }

/-- A PASSAGE joins class queue 1, or is discarded and counted when 4 are held (R147). -/
def State.queuePassage (s : State) (named : Nat) : State :=
  if s.bus.queues.passage.length < 4 then s.join .passage (.passage (byteOf named))
  else s.count .passageDrop

/-- The line has been at SPACE: the idle count is 0, and a gap being counted ends in WAITING_IDLE (R131, R153). -/
def State.lineBusy (s : State) : State :=
  s.setBus { s.bus with
    idleCount := 0
    transmitter := match s.bus.transmitter with
      | .gap _ _ => .waitingIdle
      | t => t }

end Sys2Proof.Machine
end

