-- ==== Sys2Proof/Machine/Guidance.lean ====
section
/-! DEFINITION. The Guidance Unit (R91..R112): closure, penalty, routes, sign images, the sign link. -/

namespace Sys2Proof.Machine

/-! ### What the Bay Monitor offers: free counts (R61) -/

/-- A bay's class as a guided class; STAFF is none. -/
def BayClass.guided : BayClass → Option GuidedClass
  | .standard => some .standard
  | .accessible => some .accessible
  | .charging => some .charging
  | .staff => none

/-- The free count of a guided class: its configured bays that are FREE (R61). -/
def BayMonitor.freeCount (b : BayMonitor) (g : GuidedClass) : Nat :=
  (b.bays.filter (fun x => decide (x.state = .free) && decide (x.settings.cls.guided = some g))).length

/-- The free counts of the three guided classes together (R103, R104). -/
def BayMonitor.totalFree (b : BayMonitor) : Nat :=
  b.freeCount .standard + b.freeCount .accessible + b.freeCount .charging

/-! ### Closure and penalty -/

/-- One of the three closure sources holds (R91). -/
def State.closureHolds (s : State) : Bool :=
  decide (s.air.level = .alarm) || s.inputs.purge.filtered || s.guide.serviceClose

/-- The penalty p (R94). -/
def State.penalty (s : State) : Nat := if s.air.level = .warning ∨ s.vent.ventLost = true then 3 else 0

/-! ### Routes -/

/-- The advert of a class. -/
def Adverts.get (a : Adverts) : GuidedClass → Advert
  | .standard => a.standard
  | .accessible => a.accessible
  | .charging => a.charging

/-- The row of a class. -/
def Rows.get (r : Rows) : GuidedClass → Row
  | .standard => r.standard
  | .accessible => r.accessible
  | .charging => r.charging

/-- A route a drive neighbour offers: its cost here, the free count advertised, the exit and the neighbour (R98). -/
structure Candidate where
  cost : Nat
  free : Nat
  exit : Nat
  address : Nat
  deriving DecidableEq, Repr

/-- The candidate an entry gives for a class: a FRESH static drive neighbour, closed flag present and clear, advert
below 15 whose via is not the own address, and a cost below 15 once link cost and penalty are added (R98). -/
def Peer.candidate (p : Peer) (own penalty : Nat) (g : GuidedClass) : Option Candidate :=
  match p.origin, p.state, p.heard.closed, p.heard.adverts with
  | .static set, .fresh, some false, some adverts =>
    match set.drive with
    | some d =>
      let a := adverts.get g
      let cost := a.cost + d.linkCost + penalty
      if a.cost < 15 ∧ a.via ≠ own ∧ cost < 15 then
        some { cost, free := a.free, exit := d.exit, address := p.address }
      else none
    | none => none
  | _, _, _, _ => none

/-- `a` is chosen before `b`: least cost, then larger free count, then lower exit, then lower address (R99). -/
def Candidate.better (a b : Candidate) : Bool :=
  decide (a.cost < b.cost) ||
    (decide (a.cost = b.cost) &&
      (decide (b.free < a.free) ||
        (decide (a.free = b.free) &&
          (decide (a.exit < b.exit) || (decide (a.exit = b.exit) && decide (a.address < b.address))))))

/-- The candidate chosen (R99). -/
def bestCandidate : List Candidate → Option Candidate
  | [] => none
  | c :: cs =>
    match bestCandidate cs with
    | none => some c
    | some d => if c.better d then some c else some d

/-- The candidates of a class (R98). -/
def State.candidates (s : State) (g : GuidedClass) : List Candidate :=
  s.peers.slots.filterMap (fun slot => slot.bind (fun p => p.candidate s.settings.ownAddress s.penalty g))

/-- The row of a class at an evaluation (R97, R98, R99). -/
def State.evaluateRow (s : State) (g : GuidedClass) : Row :=
  if s.guide.closed then .noRoute
  else if 0 < s.bays.freeCount g then
    { cost := s.penalty, free := s.bays.freeCount g, via := s.settings.ownAddress, exit := .here }
  else match bestCandidate (s.candidates g) with
    | some c => { cost := c.cost, free := c.free, via := c.address, exit := .by c.exit }
    | none => .noRoute

/-- All three rows recomputed (R96). -/
def State.evaluateRoutes (s : State) : Rows :=
  { standard := s.evaluateRow .standard, accessible := s.evaluateRow .accessible
    charging := s.evaluateRow .charging }

/-- A change of one row is significant: its cost has passed between 15 and below, or its exit between HERE and
anything else (R100). -/
def Row.significant (old new : Row) : Bool :=
  (decide (old.cost < 15) != decide (new.cost < 15)) || (decide (old.exit = .here) != decide (new.exit = .here))

/-- Any row has changed significantly (R100). -/
def Rows.significant (old new : Rows) : Bool :=
  old.standard.significant new.standard || old.accessible.significant new.accessible ||
    old.charging.significant new.charging

/-! ### Sign images -/

/-- The arrow the settings give for an exit index. -/
def SignSettings.arrow (g : SignSettings) (exit : Nat) : Arrow :=
  match exit with
  | 0 => g.arrow0
  | 1 => g.arrow1
  | 2 => g.arrow2
  | _ => g.arrow3

/-- A COUNT image of a number, shown as 999 above that, with leading blanks (R104). -/
def SignImage.ofCount (number : Nat) (arrow : Option Arrow) : SignImage :=
  let n := min number 999
  { display := .count
    hundreds := if n < 100 then none else some (n / 100)
    tens := if n < 10 then none else some (n / 10 % 10)
    units := some (n % 10)
    arrow }

/-- An image that shows a word or nothing (R103). -/
def SignImage.word (d : DisplayState) : SignImage :=
  { display := d, hundreds := none, tens := none, units := none, arrow := none }

/-- The image of a sign (R103, R104). -/
def State.signImage (s : State) (g : SignSettings) : SignImage :=
  if s.station ≠ .normal then .word .blank
  else if s.guide.closed then .word .closed
  else match g.mode with
    | .zone =>
      if s.bays.freeCount g.cls = 0 then .word .full else .ofCount (s.bays.freeCount g.cls) none
    | .total => if s.bays.totalFree = 0 then .word .full else .ofCount s.bays.totalFree none
    | .route =>
      let row := s.guide.rows.get g.cls
      if row.cost = 15 then .word .full
      else .ofCount row.free
        (match row.exit with
          | .by e => some (g.arrow e)
          | _ => none)

/-- A sign takes an image: a changed one sets its due mark (R105, R106). -/
def Sign.show (g : Sign) (image : SignImage) : Sign :=
  if g.image = image then g else { g with image := image, due := true }

/-- Every sign image formed afresh (R105). -/
def State.formImages (s : State) : State :=
  s.setGuide { s.guide with signs := s.guide.signs.map (fun g => g.show (s.signImage g.settings)) }

/-! ### The Guidance Unit is told -/

/-- The rows after an evaluation, made in NORMAL only (R96). -/
def State.rowsEvaluated (s : State) : State :=
  if s.station = .normal then s.setGuide { s.guide with rows := s.evaluateRoutes } else s

/-- The Guidance Unit is told of a change: it forms the closure state from its sources; on a cause of evaluation or
a change of closure it evaluates its routes, then forms its images, then, but for an evaluation made at a capture,
tells the Bus Interface once of a significant change (R91, R93, R96, R100, R101, R105). The lamps follow closure
by R62 (`State.lamp`). -/
def State.guidanceTold (s : State) (cause atCapture : Bool) : State :=
  let closed := s.closureHolds
  let formed := s.setGuide { s.guide with closed := closed }
  if cause || closed != s.guide.closed then
    let shown := formed.rowsEvaluated.formImages
    if !atCapture && s.guide.rows.significant shown.guide.rows then shown.tellSignificant else shown
  else formed

/-! ### The sign link -/

/-- The answer window: 50 ms after the last byte of the SIGN frame (R107, R108, R144). -/
def answerWindow : Nat := 50

/-- The time an exchange may last: the SIGN frame of 99 bit times at 19,200 bit/s, 5.2 ms, taken as 6 ms, and the
answer window (R107, R144; log 12). -/
def exchangeWindow : Nat := 6 + answerWindow

/-- An exchange with a sign begins: the SIGN frame carries the image, no character has been received (R107, R144). -/
def Exchange.begin (sign : Nat) (image : SignImage) : Exchange :=
  { sign, frame := signFrameBytes sign image, window := exchangeWindow, received := [] }

/-- The next due sign in ascending address order, counting cyclically from the address after the sign last served
(R107). -/
def Guidance.nextDue (g : Guidance) : Option Sign :=
  let due := g.signs.filter Sign.due
  match due.find? (fun x => decide (g.lastServed < x.settings.number)) with
  | some x => some x
  | none => due.head?

/-- A BLANK frame to the next address of the round in FALLBACK, if one is left (R112). -/
def Guidance.sendFallback (g : Guidance) : Guidance :=
  match g.fallbackDue with
  | [] => { g with exchange := none }
  | a :: rest =>
    { g with fallbackDue := rest
             exchange := some (Exchange.begin a .blank) }

/-- SIGN_REFRESH_TIMER_EXPIRY: a sign's refresh timer expires and sets its due mark; the timer is not restarted
until an exchange begins (R106). -/
def execSignRefreshTimerExpiry (n : Nat) (s : State) : Host.Outcome State Fault Refusal :=
  match s.working, s.guide.sign? n with
  | true, some g =>
    if g.refresh = none then .next s
    else .next (s.setGuide (s.guide.mapSign n (fun x => { x with due := true, refresh := none })))
  | _, _ => .next s

/-- SIGN_EXCHANGE_START: with the link free and a sign due, the next due sign is sent its image as it stands; its
due mark is cleared and its refresh timer restarts (R106, R107). -/
def execSignExchangeStart (s : State) : Host.Outcome State Fault Refusal :=
  match s.working, s.guide.exchange, s.guide.nextDue with
  | true, none, some g =>
    let n := g.settings.number
    let served := s.guide.mapSign n (fun x => { x with due := false, refresh := some 5000 })
    .next (s.setGuide
      { served with
        lastServed := n
        exchange := some (Exchange.begin n g.image) })
  | _, _, _ => .next s

/-- The SIGN frame has been sent and the answer window is open: what remains of the exchange is no more than the answer
window (R107, R108, R144; log 12). -/
def Exchange.listens (e : Exchange) : Bool := decide (e.window ≤ answerWindow)

/-- The characters received after the SIGN frame once more have come: the first five are the answer, and any that follow
are discarded (R144). -/
def Exchange.receive (e : Exchange) (characters : List RxChar) : Exchange :=
  { e with received := (e.received ++ characters).take 5 }

/-- The status of the answer an exchange has now received whole, if it is well formed and carries the address the
frame named (R108, R144). -/
def Exchange.answer (e : Exchange) : Option SignStatus :=
  match signAnswerOf e.received with
  | some (n, status) => if n = e.sign then some status else none
  | none => none

/-- A taken answer at its sign: miss count 0, fault mark clear, status stored (R108). -/
def Sign.answered (g : Sign) (status : SignStatus) : Sign :=
  { g with misses := 0, faultMark := false, lastStatus := some status }

/-- SIGN_ANSWER: characters arrive on the sign link. When they complete a well-formed answer from the sign the frame
named, it is taken and the exchange ends; in FALLBACK a taken answer only ends the exchange. Otherwise the window runs
on. Outside an exchange, and while its SIGN frame is still being sent, the characters are discarded (R108, R112,
R144). -/
def execSignAnswer (characters : List RxChar) (s : State) : Host.Outcome State Fault Refusal :=
  match s.guide.exchange with
  | none => .next s
  | some e =>
    if e.listens then
      match (e.receive characters).answer with
      | none => .next (s.setGuide { s.guide with exchange := some (e.receive characters) })
      | some status =>
        if s.station = .fallback then .next (s.setGuide s.guide.sendFallback)
        else
          .next (s.setGuide { s.guide.mapSign e.sign (fun g => g.answered status) with exchange := none })
    else .next s

/-- A sign that has not answered: the miss count stays at 3, and reaching 3 sets the fault mark (R108). -/
def Sign.missed (g : Sign) : Sign :=
  let misses := saturatingSucc 3 g.misses
  { g with misses := misses, faultMark := g.faultMark || decide (misses = 3) }

/-- SIGN_ANSWER_WINDOW_EXPIRY: the exchange ends without an answer taken; in FALLBACK nothing is counted (R108,
R112). -/
def execSignAnswerWindowExpiry (s : State) : Host.Outcome State Fault Refusal :=
  match s.guide.exchange with
  | some e =>
    if s.station = .fallback then .next (s.setGuide s.guide.sendFallback)
    else .next ((s.setGuide { s.guide.mapSign e.sign Sign.missed with exchange := none }).count .signMiss)
  | none => .next s

/-- FALLBACK_SIGN_TIMER_EXPIRY: every 5 s in FALLBACK a BLANK frame goes to each of the addresses 1..4; the first
begins at once when the link is free (R107, R112). -/
def execFallbackSignTimerExpiry (s : State) : Host.Outcome State Fault Refusal :=
  if s.station = .fallback then
    let due := { s.guide with fallbackTimer := some 5000, fallbackDue := [1, 2, 3, 4] }
    match s.guide.exchange with
    | none => .next (s.setGuide due.sendFallback)
    | some _ => .next (s.setGuide due)
  else .next s

end Sys2Proof.Machine
end

