-- ==== Sys2Proof/Machine/Ventilation.lean ====
section
/-! DEFINITION. The Ventilation Controller (R23..R49): floor, demand, commanded demand, fans, allocation. -/

namespace Sys2Proof.Machine

/-! ### The effective index, the terms and the floor -/

/-- The index an entry offers: a FRESH static entry with weight above 0 and an index present (R24). -/
def Peer.upstreamIndex (p : Peer) : Option Nat :=
  match p.origin, p.state, p.heard.airIndex with
  | .static set, .fresh, some i => if 0 < set.weight then some (i * set.weight / 100) else none
  | _, _, _ => none

/-- The effective index E (R24). -/
def State.effectiveIndex (s : State) : Option Nat :=
  largest (s.air.ownIndex.toList ++ s.peers.slots.filterMap (fun slot => slot.bind Peer.upstreamIndex))

/-- The pollution term P (R25). -/
def pollutionTerm (lo hi : Nat) : Option Nat → Nat
  | none => 0
  | some e => if e ≤ lo then 0 else if hi ≤ e then 100 else ceilDiv ((e - lo) * 100) (hi - lo)

/-- The traffic count: the sum of the six buckets (R69). -/
def TrafficRing.total (r : TrafficRing) : Nat :=
  r.oldest + r.second + r.third + r.fourth + r.fifth + r.current

/-- The traffic term T (R26). -/
def State.trafficTerm (s : State) : Nat := min s.settings.trafficCap (s.bays.ring.total * s.settings.trafficGain)

/-- The level floor of an alarm level (R27). -/
def Settings.levelFloor (c : Settings) : AlarmLevel → Nat
  | .clear => c.floorClear
  | .watch => c.floorWatch
  | .warning => c.floorWarning
  | .alarm => c.floorAlarm

/-- The floor as its four terms now stand (R27). -/
def State.floorNow (s : State) : Nat :=
  max (s.settings.levelFloor s.air.level)
    (max (if s.air.ownIndex = none then s.settings.blindFloor else 0)
      (max (if s.peers.sympathy then s.settings.sympathyFloor else 0) (if s.inputs.purge.filtered then 100 else 0)))

/-- The demand D as it now stands: the override in place of P and T when present, never below the floor (R31). -/
def State.demandNow (s : State) : Nat :=
  match s.vent.override with
  | some o => max o.value s.floorNow
  | none =>
    max (pollutionTerm s.settings.eLo s.settings.eHi s.effectiveIndex) (max s.trafficTerm s.floorNow)

/-- C stepped toward D by the rates of an air sample (R32). -/
def stepCommanded (c : Settings) (demand commanded : Nat) : Nat :=
  if commanded < demand then min demand (commanded + c.upRate)
  else if demand < commanded then
    match c.fallMode with
    | .ramp => max demand (commanded - c.downRate)
    | .coast => demand
  else commanded

/-! ### Fans -/

/-- A fan whose timers are all discarded, in a state (R34). -/
def Fan.inState (f : Fan) (st : FanState) : Fan :=
  { f with state := st, confirm := none, fallbackStart := none, loss := none, coast := none }

/-- STOPPING with a full coast (R34). -/
def Fan.toStopping (f : Fan) (c : Settings) : Fan :=
  { f.inState .stopping with coast := some (seconds c.coastTime) }

/-- STARTING: the confirm timer starts, or in FALLBACK the 20 s after which the fan is RUNNING (R34, R41). -/
def Fan.toStarting (f : Fan) (c : Settings) (inFallback : Bool) : Fan :=
  if inFallback then { f.inState .starting with fallbackStart := some (seconds 20) }
  else { f.inState .starting with confirm := some (seconds c.confirmTimeout) }

/-- Not in FAULT or LOCKED_OUT (R36). -/
def Fan.healthy (f : Fan) : Bool := decide (f.state ≠ .fault) && decide (f.state ≠ .lockedOut)

/-- The healthy count h (R36). -/
def Ventilation.healthyCount (v : Ventilation) : Nat := (v.fans.filter Fan.healthy).length

/-- The planned running count n (R36). -/
def plannedCount (commanded healthy : Nat) : Nat :=
  if commanded = 0 ∨ healthy = 0 then 0 else ceilDiv (commanded * healthy) 100

/-- The speed s of `m` running fans, `m` above 0 (R36). -/
def fanSpeed (c : Settings) (commanded healthy m : Nat) : Nat :=
  clampTo c.minSpeed 100 (ceilDiv (commanded * healthy) m)

/-- The drive output of a fan (R34). -/
def Ventilation.output (v : Ventilation) (f : Fan) : Nat :=
  match f.state with
  | .starting => v.speed
  | .running => v.speed
  | _ => 0

/-- The drive output of a fan number; always 0 for a number not configured (R23, R34). -/
def Ventilation.outputOf (v : Ventilation) (n : Nat) : Nat :=
  match v.fan? n with
  | some f => v.output f
  | none => 0

/-- The duty pointer moved to the next configured fan above it, or to the lowest (R39). -/
def Ventilation.advanceDuty (v : Ventilation) : Ventilation :=
  match v.dutyPointer with
  | none => v
  | some p =>
    match v.fans.find? (fun f => decide (p < f.number)) with
    | some f => { v with dutyPointer := some f.number }
    | none => { v with dutyPointer := v.fans.head?.map Fan.number }

/-- The run list replaced; the duty pointer advances when the list becomes empty, whatever the cause (R39). -/
def Ventilation.setRunList (v : Ventilation) (list : List Nat) : Ventilation :=
  if v.runList ≠ [] ∧ list = [] then { v with runList := list }.advanceDuty else { v with runList := list }

/-- The fan leaves the run list and the start queue from wherever it stands. -/
def Ventilation.dropFan (v : Ventilation) (n : Nat) : Ventilation :=
  { v with startQueue := v.startQueue.filter (fun k => k ≠ n) }.setRunList (v.runList.filter (fun k => k ≠ n))

/-- Every fan whose number stands in a list changed. -/
def Ventilation.mapFans (v : Ventilation) (list : List Nat) (f : Fan → Fan) : Ventilation :=
  { v with fans := v.fans.map (fun x => if x.number ∈ list then f x else x) }

/-- Removal when running and queued fans are more than `n`: first the most recently queued return to STOPPED, then
the most recently started enter STOPPING with a full coast (R37). -/
def Ventilation.removeExcess (v : Ventilation) (c : Settings) (n : Nat) : Ventilation :=
  let keep := n - v.runList.length
  let unqueued := { v.mapFans (v.startQueue.drop keep) (fun f => f.inState .stopped) with
    startQueue := v.startQueue.take keep }
  (unqueued.mapFans (unqueued.runList.drop n) (fun f => f.toStopping c)).setRunList (unqueued.runList.take n)

/-- The configured fans in duty order (R23, "The run list, the start queue and the duty order"). -/
def Ventilation.dutyOrder (v : Ventilation) : List Fan :=
  match v.dutyPointer with
  | none => v.fans
  | some p => v.fans.filter (fun f => decide (p ≤ f.number)) ++ v.fans.filter (fun f => decide (f.number < p))

/-- Adding when running and queued fans are fewer than `n`: STOPPED fans in duty order join the end of the start
queue (R38). -/
def Ventilation.addShort (v : Ventilation) (n : Nat) : Ventilation :=
  let short := n - (v.runList.length + v.startQueue.length)
  let chosen := ((v.dutyOrder.filter (fun f => decide (f.state = .stopped))).take short).map Fan.number
  { v.mapFans chosen (fun f => f.inState .queued) with startQueue := v.startQueue ++ chosen }

/-- The start stagger: with no fan in STARTING, the head of the start queue enters STARTING and joins the run list
(R40). -/
def Ventilation.startNext (v : Ventilation) (c : Settings) (inFallback : Bool) : Ventilation :=
  match v.startQueue with
  | [] => v
  | n :: rest =>
    if v.fans.any (fun f => decide (f.state = .starting)) then v
    else
      { v.mapFan n (fun f => f.toStarting c inFallback) with startQueue := rest, runList := v.runList ++ [n] }

/-- The end of a pass: the speed, and the flags VENT_DEGRADED and VENT_LOST (R36, R47). R36 gives s for m above 0;
when no fan is left in the run list the last s stands (DESIGN CHOICE, log 30). -/
def Ventilation.finishPass (v : Ventilation) (c : Settings) : Ventilation :=
  let h := v.healthyCount
  let m := v.runList.length
  { v with
    speed := if m = 0 then v.speed else fanSpeed c v.commanded h m
    ventDegraded := decide (h < v.fans.length)
    ventLost := decide (h = 0) && decide (0 < v.fans.length) }

/-- A STARTING fan whose filtered run-confirm input is active; in FALLBACK the inputs are ignored (R35, R41). -/
def Ventilation.confirmed (v : Ventilation) (i : Inputs) (inFallback : Bool) : Option Nat :=
  if inFallback then none
  else (v.fans.find? (fun f => decide (f.state = .starting) && filteredAt i.runConfirm f.number)).map Fan.number

/-- Allocation passes: removal, adding, a start, the speed and the flags; a fan that enters STARTING with its
confirm already active is RUNNING and another pass follows, at most one for each fan (R36..R41). -/
def Ventilation.passes (c : Settings) (i : Inputs) (inFallback : Bool) : Nat → Ventilation → Ventilation
  | 0, v => v.finishPass c
  | more + 1, v =>
    let n := plannedCount v.commanded v.healthyCount
    let started := ((v.removeExcess c n).addShort n).startNext c inFallback
    match started.confirmed i inFallback with
    | some k => (started.mapFan k (fun f => f.inState .running)).passes c i inFallback more
    | none => started.finishPass c

/-- An allocation pass; a change of VENT_LOST is reported to the Guidance Unit (R36, R47). -/
def State.allocate (s : State) : State :=
  let v := s.vent.passes s.settings s.inputs (decide (s.station = .fallback)) (s.vent.fans.length + 1)
  let allocated := s.setVent v
  if v.ventLost = s.vent.ventLost then allocated else allocated.guidanceTold true false

/-- Demand recomputed: the floor and D formed afresh, C stepped at an air sample and then lifted to the floor, and an
allocation pass. Made in LISTENING and NORMAL; in FALLBACK C is fixed (R31, R32, R33, R49). -/
def State.recompute (s : State) (atAirSample : Bool) : State :=
  if s.working then
    let stepped := if atAirSample then stepCommanded s.settings s.demandNow s.vent.commanded else s.vent.commanded
    (s.setVent { s.vent with
      floor := s.floorNow, demand := s.demandNow, commanded := max stepped s.floorNow }).allocate
  else s

/-! ### Entering the station states -/

/-- The fan records of a set of fan numbers, each STOPPING with a full coast, and the duty pointer at the lowest
(R23, R49). -/
def Ventilation.fresh (c : Settings) : Ventilation :=
  { Ventilation.afterReset with
    fans := c.fans.map (fun n =>
      { number := n, state := .stopping, confirm := none, fallbackStart := none, loss := none
        coast := some (seconds c.coastTime) })
    dutyPointer := c.fans.head? }

/-- Entry to LISTENING: coasts start, the floor is formed, D and C are set to it, and a pass follows (R49). -/
def State.ventilationListens (s : State) : State :=
  let fresh := s.setVent (.fresh s.settings)
  (fresh.setVent { fresh.vent with
    floor := fresh.floorNow, demand := fresh.floorNow, commanded := fresh.floorNow }).allocate

/-- Entry to FALLBACK: six fans, C fixed at 70 (R49, R178). -/
def State.ventilationFallsBack (s : State) : State :=
  (s.setVent { Ventilation.fresh s.settings with commanded := 70 }).allocate

/-! ### Commands -/

/-- RUN_CONFIRM_ACTIVE: a filtered run-confirm input becomes active. A STARTING fan enters RUNNING and a pass follows;
a RUNNING fan's loss timer is discarded; in FALLBACK and in every other fan state the input is only kept (R35, R41,
R42). -/
def execRunConfirmActive (n : Nat) (s : State) : Host.Outcome State Fault Refusal :=
  match decide (s.station = .heldInReset), inputAt? s.inputs.runConfirm n with
  | false, some i =>
    if i.filtered then .next s
    else
      let taken := s.setInputs { s.inputs with runConfirm := takeAt s.inputs.runConfirm n true }
      match s.working, s.vent.fan? n with
      | true, some f =>
        if f.state = .starting then
          .next (taken.setVent (s.vent.mapFan n (fun x => x.inState .running))).allocate
        else if f.state = .running then .next (taken.setVent (s.vent.mapFan n (fun x => { x with loss := none })))
        else .next taken
      | _, _ => .next taken
  | _, _ => .next s

/-- RUN_CONFIRM_LOST: a filtered run-confirm input becomes inactive; a RUNNING fan's loss timer starts at 2 s (R35,
R42). -/
def execRunConfirmLost (n : Nat) (s : State) : Host.Outcome State Fault Refusal :=
  match decide (s.station = .heldInReset), inputAt? s.inputs.runConfirm n with
  | false, some i =>
    if i.filtered then
      let taken := s.setInputs { s.inputs with runConfirm := takeAt s.inputs.runConfirm n false }
      match s.working, s.vent.fan? n with
      | true, some f =>
        if f.state = .running then
          .next (taken.setVent (s.vent.mapFan n (fun x => { x with loss := some (seconds 2) })))
        else .next taken
      | _, _ => .next taken
    else .next s
  | _, _ => .next s

/-- The fan enters FAULT and leaves the run list (R41, R42). -/
def Ventilation.failFan (v : Ventilation) (n : Nat) : Ventilation :=
  (v.mapFan n (fun f => f.inState .fault)).dropFan n

/-- CONFIRM_TIMER_EXPIRY: a STARTING fan's confirm timer expires with its input inactive (R41). -/
def execConfirmTimerExpiry (n : Nat) (s : State) : Host.Outcome State Fault Refusal :=
  match s.working, s.vent.fan? n with
  | true, some f =>
    if f.state = .starting ∧ f.confirm ≠ none then .next (s.setVent (s.vent.failFan n)).allocate else .next s
  | _, _ => .next s

/-- FALLBACK_START_TIMER_EXPIRY: in FALLBACK a STARTING fan is RUNNING after 20 s (R41). -/
def execFallbackStartTimerExpiry (n : Nat) (s : State) : Host.Outcome State Fault Refusal :=
  match decide (s.station = .fallback), s.vent.fan? n with
  | true, some f =>
    if f.state = .starting ∧ f.fallbackStart ≠ none then
      .next (s.setVent (s.vent.mapFan n (fun x => x.inState .running))).allocate
    else .next s
  | _, _ => .next s

/-- LOSS_TIMER_EXPIRY: a RUNNING fan's loss timer expires (R42). -/
def execLossTimerExpiry (n : Nat) (s : State) : Host.Outcome State Fault Refusal :=
  match s.working, s.vent.fan? n with
  | true, some f =>
    if f.state = .running ∧ f.loss ≠ none then .next (s.setVent (s.vent.failFan n)).allocate else .next s
  | _, _ => .next s

/-- COAST_TIMER_EXPIRY: a STOPPING fan comes to rest and a pass follows (R43). -/
def execCoastTimerExpiry (n : Nat) (s : State) : Host.Outcome State Fault Refusal :=
  match s.receiving, s.vent.fan? n with
  | true, some f =>
    if f.state = .stopping ∧ f.coast ≠ none then
      .next (s.setVent (s.vent.mapFan n (fun x => x.inState .stopped))).allocate
    else .next s
  | _, _ => .next s

/-- The override ends and demand is recomputed (R30). -/
def State.endFanOverride (s : State) : State := (s.setVent { s.vent with override := none }).recompute false

/-- FAN_OVERRIDE_EXPIRY: the override timer expires; an override "until cleared" does not (R29, R30). -/
def execFanOverrideExpiry (s : State) : Host.Outcome State Fault Refusal :=
  match s.working, s.vent.override with
  | true, some o => if o.limit.runs then .next s.endFanOverride else .next s
  | _, _ => .next s

end Sys2Proof.Machine
end

