-- ==== Sys2Proof/Machine/Air.lean ====
section
/-! DEFINITION. The Air Monitor (R1..R22) and the purge line's filtered state (R28, R179), whose changes reach the same
blocks. -/

namespace Sys2Proof.Machine

/-! ### From raw reading to sub-index -/

/-- The concentration of a raw reading (R8). -/
def concentration (raw fullScale : Nat) : Nat := raw * fullScale / 4095

/-- The step of the filter for a difference d: d divided by 2 to the power k, truncated toward zero, and at least 1
in size unless d is 0 (R10). -/
def filterStep (d : Int) (k : Nat) : Int :=
  let step := Int.tdiv d (2 ^ k)
  if d ≠ 0 ∧ step = 0 then (if 0 < d then 1 else -1) else step

/-- The accumulator after an OK answer: seeded when absent, else one filter step toward 16 c (R9, R10). -/
def nextAccumulator (k c : Nat) : Option Nat → Nat
  | none => 16 * c
  | some a => ((a : Int) + filterStep (16 * (c : Int) - a) k).toNat

/-- The sub-index of an accumulator (R11). -/
def subIndexOf (a limit : Nat) : Nat := min 999 (a * 100 / (16 * limit))

/-! ### One head -/

/-- A FAULT answer (R5). -/
def Head.answerFault (h : Head) : Head :=
  { h with state := .fault, misses := 0, accumulator := none, subIndex := none }

/-- A WARMUP answer (R6). -/
def Head.answerWarmup (h : Head) : Head :=
  { h with state := .warmup, misses := 0, accumulator := none, subIndex := none }

/-- An OK answer with its raw reading (R7..R11). -/
def Head.answerOk (h : Head) (raw : Nat) : Head :=
  let a := nextAccumulator h.settings.shift (concentration raw h.settings.fullScale) h.accumulator
  { h with
    state := if raw ≤ 4094 then .valid else .over
    misses := 0
    accumulator := some a
    subIndex := some (subIndexOf a h.settings.limit) }

/-- A taken answer (R5, R6, R7). -/
def Head.answer (h : Head) (status : HeadStatus) (raw : Nat) : Head :=
  match status with
  | .ok => h.answerOk raw
  | .warmup => h.answerWarmup
  | .fault => h.answerFault

/-- A poll without an answer: at the third in a row the head enters FAULT (R4). -/
def Head.miss (h : Head) : Head :=
  if 3 ≤ h.misses + 1 then { h with state := .fault, misses := 3, accumulator := none, subIndex := none }
  else { h with misses := h.misses + 1 }

/-! ### The own index and the alarm level -/

/-- What a head offers to the own index (R12). -/
def Head.offers (h : Head) : Option Nat :=
  match h.state with
  | .valid => h.subIndex
  | .over => h.subIndex
  | .warmup => none
  | .fault => none

/-- What the other blocks are to read of a head as it stands (R13). -/
def Head.sampled (h : Head) : SampledHead := { number := h.settings.number, state := h.state, subIndex := h.subIndex }

/-- The own index of the heads as they stand (R12). -/
def AirMonitor.indexNow (a : AirMonitor) : Option Nat := largest (a.heads.filterMap Head.offers)

/-- The threshold of a level above CLEAR (R14). -/
def Settings.threshold (c : Settings) : AlarmLevel → Nat
  | .clear => 0
  | .watch => c.tWatch
  | .warning => c.tWarning
  | .alarm => c.tAlarm

/-- The release point of a level: the threshold less H, at least 1; CLEAR has none, given as 0 (R14). -/
def Settings.releasePoint (c : Settings) (l : AlarmLevel) : Nat :=
  match l with
  | .clear => 0
  | _ => max 1 (c.threshold l - c.hysteresis)

/-- The clear hold in seconds of a hold code (Part 1). -/
def clearHold (code : Nat) : Nat := [0, 30, 60, 120, 300, 600, 900, 1800].getD code 0

/-- One level lower (R17). -/
def AlarmLevel.lower : AlarmLevel → AlarmLevel
  | .clear => .clear
  | .watch => .clear
  | .warning => .watch
  | .alarm => .warning

/-- The highest level whose threshold an index meets (R15). -/
def Settings.levelMet (c : Settings) (i : Nat) : AlarmLevel :=
  if c.tAlarm ≤ i then .alarm else if c.tWarning ≤ i then .warning else if c.tWatch ≤ i then .watch else .clear

/-- The alarm level and hold timer after a fall of one level at an index (R17). -/
def Settings.fallOne (c : Settings) (i : Nat) (l : AlarmLevel) : AlarmLevel × Option Nat :=
  (l.lower, if i < c.releasePoint l.lower then some 0 else none)

/-- The alarm level and the hold timer stepped at an air sample, row by row of "The alarm level at a glance"
(R15..R19). -/
def Settings.alarmStep (c : Settings) (index : Option Nat) (l : AlarmLevel) (hold : Option Nat) :
    AlarmLevel × Option Nat :=
  match index with
  | none => (l, none)
  | some i =>
    if l.code < (c.levelMet i).code then (c.levelMet i, none)
    else if l = .clear then (.clear, none)
    else if c.releasePoint l ≤ i then (l, none)
    else if clearHold c.holdCode = 0 then (l.lower, none)
    else match hold with
      | none => (l, some 0)
      | some e => if e + 1 < clearHold c.holdCode then (l, some (e + 1)) else c.fallOne i l

/-- The results of an air sample reach the other blocks: a change of alarm level queues an ALERT; then the Ventilation
Controller is told of the sample, and of a change of level the Guidance Unit and the Lighting Controller (R13, R20). -/
def State.airSettled (s : State) (air : AirMonitor) : State :=
  let settled := s.setAir air
  if air.level = s.air.level then settled.recompute true
  else ((settled.queueAlert.recompute true).guidanceTold true false).formForcing

/-- The air sample, the end of a round: the own index, then the alarm level, become readable together with the head
states, and the other blocks are told (R2, R12, R13, R15..R20). -/
def State.airSample (s : State) : State :=
  let index := s.air.indexNow
  let (level, hold) := s.settings.alarmStep index s.air.level s.air.holdTimer
  s.airSettled { s.air with
    sampled := s.air.heads.map Head.sampled, ownIndex := index, level := level, holdTimer := hold
    expiring := false }

/-- At an air sample of the head records as they stand the hold timer expires: the own index is present, the level does
not rise, the index is below the release point, and the count reaches the clear hold (R16, R17). -/
def State.sampleExpiresHold (s : State) : Bool :=
  match s.air.holdTimer, s.air.indexNow with
  | some e, some i =>
    decide ((s.settings.levelMet i).code ≤ s.air.level.code) && decide (i < s.settings.releasePoint s.air.level) &&
      decide (0 < clearHold s.settings.holdCode) && decide (clearHold s.settings.holdCode ≤ e + 1)
  | _, _ => false

/-! ### Rounds -/

/-- The answer window of a poll (R2). -/
def pollWindow : Nat := 100

/-- The poll of a head is sent. -/
def State.pollHead (s : State) (n : Nat) : State :=
  s.setAir { s.air with poll := some { head := n, window := pollWindow } }

/-- The configured head polled after head `n`: the next in ascending order (R2). -/
def AirMonitor.headAfter (a : AirMonitor) (n : Nat) : Option Head :=
  a.heads.find? (fun h => decide (n < h.settings.number))

/-- The sender has put ALARM_HOLD_TIMER_EXPIRY next in the queue, so that no other command and no time can come before
it. -/
def State.holdExpiryIsNext (s : State) : Bool := decide (s.pending.head? = some .alarmHoldTimerExpiry)

/-- The polls of a round are done: the round ends at once with its one air sample (R2, R13), the fall by the hold timer
within it (R17). Only where the hold timer expires at that sample and the very next command is the expiry itself,
ALARM_HOLD_TIMER_EXPIRY, is that command this same sample, as spec/95_what_each_step_holds.md has a step of that name:
no command and no tick comes between the two (DEDUCED, log 13). -/
def State.roundEnds (s : State) : State :=
  if s.sampleExpiresHold && s.holdExpiryIsNext then s.setAir { s.air with expiring := true } else s.airSample

/-- After the poll of head `n`: the next configured head is polled, or the round ends (R2). -/
def State.afterPoll (s : State) (n : Nat) : State :=
  match s.air.headAfter n with
  | some h => s.pollHead h.settings.number
  | none => (s.setAir { s.air with poll := none }).roundEnds

/-- A poll round starts: the lowest configured head is polled; with none configured the round ends at once. The
one-second timer runs on. Should the sample of the round before be due still, which no run brings about, it comes first,
so that every round has its one sample (R2; log 13). -/
def State.startRound (s : State) : State :=
  let started := s.setAir { s.air with roundTimer := some (seconds 1), poll := none }
  if s.air.expiring then
    match s.air.headAfter 0 with
    | some h => started.airSample.pollHead h.settings.number
    | none => started.airSample
  else started.afterPoll 0

/-- The record a head has after a reset (R1). -/
def Head.fresh (h : HeadSettings) : Head :=
  { settings := h, state := .warmup, misses := 0, accumulator := none, subIndex := none }

/-- Entry to LISTENING: a head record for each configured head; until the first air sample the other blocks read the
heads as the reset left them (R1, R13, R22). -/
def AirMonitor.fresh (c : Settings) : AirMonitor :=
  { AirMonitor.afterReset with
    heads := c.heads.map Head.fresh, sampled := c.heads.map (fun h => (Head.fresh h).sampled) }

/-! ### Commands -/

/-- POLL_ROUND_START: the one-second timer starts a poll round (R2, R22). -/
def execPollRoundStart (s : State) : Host.Outcome State Fault Refusal :=
  if s.working then .next s.startRound else .next s

/-- HEAD_ANSWER: a well-formed answer is taken if its head is the one polled, within its window; any other is
discarded (R2, R3, R5..R11). -/
def execHeadAnswer (head : Nat) (status : HeadStatus) (raw : Nat) (s : State) : Host.Outcome State Fault Refusal :=
  match s.working, s.air.poll with
  | true, some p =>
    if p.head = head ∧ raw ≤ 4095 then
      .next ((s.setAir (s.air.mapHead head (fun h => h.answer status raw))).afterPoll head)
    else .next s
  | _, _ => .next s

/-- HEAD_ANSWER_WINDOW_EXPIRY: the answer window runs out with no answer taken (R2, R4). -/
def execHeadAnswerWindowExpiry (s : State) : Host.Outcome State Fault Refusal :=
  match s.working, s.air.poll with
  | true, some p =>
    .next (((s.setAir (s.air.mapHead p.head Head.miss)).count .headMiss).afterPoll p.head)
  | _, _ => .next s

/-- ALARM_HOLD_TIMER_EXPIRY: the air sample of the round that has just ended, at which the hold timer expires: the alarm
level falls by one, an ALERT is queued, and the timer restarts or becomes absent. It is that round's one sample; after a
round that has had its sample the timer does not expire again, and nothing happens (R2, R13, R17, R20; DEDUCED, log
13). -/
def execAlarmHoldTimerExpiry (s : State) : Host.Outcome State Fault Refusal :=
  if s.working && s.air.expiring then .next s.airSample else .next s

/-- PURGE_FILTER_CHANGE: the filtered purge state changes. In LISTENING and NORMAL an ALERT is queued, demand is
recomputed, closure and forcing are formed; in STARTING and FALLBACK the state is kept and closure formed from it; held in
reset the filter does not run (R28, R91, R122, R179). -/
def execPurgeFilterChange (asserted : Bool) (s : State) : Host.Outcome State Fault Refusal :=
  if s.station = .heldInReset ∨ s.inputs.purge.filtered = asserted then .next s
  else
    let taken := s.setInputs { s.inputs with purge := s.inputs.purge.take asserted }
    if s.working then .next (((taken.queueAlert).recompute false).guidanceTold false false).formForcing
    else .next (taken.guidanceTold false false)

end Sys2Proof.Machine
end

