-- ==== Sys2Proof/Machine/Bays.lean ====
section
/-! DEFINITION. The bays of the Bay Monitor (R50..R62, R71). -/

namespace Sys2Proof.Machine

/-! ### One bay -/

/-- A bay leaves its state for another; the reservation timer is present only in RESERVED (R50). -/
def Bay.enter (b : Bay) (st : BayState) : Bay := { b with state := st, reservation := none }

/-- A FAULT answer (R52). -/
def Bay.answerFault (b : Bay) : Bay :=
  let counted := { b with onCount := 0, offCount := 0, faultCount := saturatingSucc 3 b.faultCount }
  if counted.faultCount = 3 ∧ b.state ≠ .fault ∧ b.state ≠ .outOfService then counted.enter .fault else counted

/-- A PRESENT or ABSENT answer clears the fault count and takes a bay in FAULT to UNKNOWN with its runs at 0 (R53). -/
def Bay.answered (b : Bay) : Bay :=
  if b.state = .fault then { b.enter .unknown with onCount := 0, offCount := 0, faultCount := 0 }
  else { b with faultCount := 0 }

/-- A PRESENT answer (R53, R54). -/
def Bay.answerPresent (nOn : Nat) (b : Bay) : Bay :=
  let r := { b.answered with offCount := 0, onCount := saturatingSucc 16 b.answered.onCount }
  if nOn ≤ r.onCount ∧ (r.state = .unknown ∨ r.state = .free ∨ r.state = .reserved) then r.enter .occupied else r

/-- An ABSENT answer (R53, R55). -/
def Bay.answerAbsent (nOff : Nat) (b : Bay) : Bay :=
  let r := { b.answered with onCount := 0, offCount := saturatingSucc 16 b.answered.offCount }
  if nOff ≤ r.offCount ∧ (r.state = .unknown ∨ r.state = .occupied) then r.enter .free else r

/-- An answer acted on; a bay out of service takes none (R51..R55). -/
def Bay.answer (c : Settings) (a : BayAnswer) (b : Bay) : Bay :=
  if b.state = .outOfService then b
  else match a with
    | .present => b.answerPresent c.nOn
    | .absent => b.answerAbsent c.nOff
    | .fault => b.answerFault

/-- A change between FREE and OCCUPIED, either way, is a presence event (R56). -/
def presenceChange (old new : BayState) : Bool :=
  (decide (old = .free) && decide (new = .occupied)) || (decide (old = .occupied) && decide (new = .free))

/-- The state a bay has at a reset (R50). -/
def Bay.fresh (b : BaySettings) : Bay :=
  { settings := b, state := if b.inService then .unknown else .outOfService
    onCount := 0, offCount := 0, faultCount := 0, reservation := none }

/-! ### Lamps (R62) -/

inductive Lamp where
  | off | green | red | blue
  deriving DecidableEq, Repr

/-- The lamp of a bay state in an open or closed zone (R62). -/
def lampOf (closed : Bool) : BayState → Lamp
  | .free => if closed then .red else .green
  | .occupied => .red
  | .reserved => if closed then .red else .blue
  | .unknown => .off
  | .fault => .off
  | .outOfService => .off

/-- The lamp output of a bay number; off for one not configured, and in STARTING and FALLBACK (R50, R62). -/
def State.lamp (s : State) (n : Nat) : Lamp :=
  if s.working then
    match s.bays.bay? n with
    | some b => lampOf s.guide.closed b.state
    | none => .off
  else .off

/-! ### A bay changes -/

/-- The free count of some guided class differs (R61). -/
def BayMonitor.freeCountsDiffer (a b : BayMonitor) : Bool :=
  decide (a.freeCount .standard ≠ b.freeCount .standard) ||
    decide (a.freeCount .accessible ≠ b.freeCount .accessible) ||
    decide (a.freeCount .charging ≠ b.freeCount .charging)

/-- One bay changed; the Guidance Unit is told when a free count has changed (R61, R96). -/
def State.changeBay (s : State) (n : Nat) (f : Bay → Bay) : State :=
  let changed := s.setBays (s.bays.mapBay n f)
  if changed.bays.freeCountsDiffer s.bays then changed.guidanceTold true false else changed

/-- The answer of the bay read is acted on; a change between FREE and OCCUPIED hands a presence event to the bay's
channel (R51..R56). -/
def State.bayAnswered (s : State) (n : Nat) (a : BayAnswer) : State :=
  match s.bays.bay? n with
  | none => s
  | some b =>
    let acted := s.changeBay n (Bay.answer s.settings a)
    if presenceChange b.state (b.answer s.settings a).state then acted.presenceAt b.settings.channel else acted

/-! ### Scanning -/

/-- The answer window of a read (R51). -/
def bayWindow : Nat := 4

/-- The read after bay `n`: the next configured bay in service, or none when the scan ends (R51). -/
def State.readAfter (s : State) (n : Nat) : State :=
  match s.bays.bays.find? (fun b => decide (n < b.settings.number) && decide (b.state ≠ .outOfService)) with
  | some b =>
    s.setBays { s.bays with reading := some { bay := b.settings.number, window := bayWindow, discarded := false } }
  | none => s.setBays { s.bays with reading := none }

/-- A read ends with an answer, or with what counts as one, and the next bay is read; the answer of a bay put out of
service since its read was sent is discarded, whether or not the bay is back in service (R51). -/
def State.endRead (s : State) (r : BayRead) (a : BayAnswer) : State :=
  (if r.discarded then s else s.bayAnswered r.bay a).readAfter r.bay

/-- A bay scan starts (R51). -/
def State.startScan (s : State) : State :=
  (s.setBays { s.bays with scanTimer := some 500 }).readAfter 0

/-! ### Commands -/

/-- BAY_SCAN_START: the 500 ms timer starts a bay scan (R51, R71). -/
def execBayScanStart (s : State) : Host.Outcome State Fault Refusal :=
  if s.working then .next s.startScan else .next s

/-- BAY_ANSWER: an answer that names the bay read is taken as it stands, one that names another bay as a FAULT answer
for the bay read, and the next bay is read (R51..R56). -/
def execBayAnswer (bay : Nat) (answer : BayAnswer) (s : State) : Host.Outcome State Fault Refusal :=
  match s.working, s.bays.reading with
  | true, some r => .next (s.endRead r (if r.bay = bay then answer else .fault))
  | _, _ => .next s

/-- BAY_READ_NO_ANSWER: a read's window ends without a proper answer, taken as a FAULT answer (R51, R52). -/
def execBayReadNoAnswer (s : State) : Host.Outcome State Fault Refusal :=
  match s.working, s.bays.reading with
  | true, some r => .next (s.endRead r .fault)
  | _, _ => .next s

/-- RESERVATION_EXPIRY: the reservation timer of a RESERVED bay runs out and the bay enters FREE; one marked "until
released" never does (R60). -/
def execReservationExpiry (n : Nat) (s : State) : Host.Outcome State Fault Refusal :=
  match s.working, s.bays.bay? n with
  | true, some b =>
    match b.state, b.reservation with
    | .reserved, some (.remaining _) => .next (s.changeBay n (fun x => x.enter .free))
    | _, _ => .next s
  | _, _ => .next s

end Sys2Proof.Machine
end

