-- ==== Sys2Proof/Machine/Gates.lean ====
section
/-! DEFINITION. The passage gates and the traffic ring of the Bay Monitor (R63..R69, R71). -/

namespace Sys2Proof.Machine

/-- The direction of a completed passage (R64, R65). -/
inductive Passage where
  | inward | outward
  deriving DecidableEq, Repr

/-- The gate machine at a change of a filtered loop: the next state and the passage it completes. A loop event that
cannot reach the state leaves it; in BLOCKED the event that leaves both loops off returns to CLEAR (R64, R65, R66). -/
def GateState.next (g : GateState) (loop : Loop) (on bothOff : Bool) : GateState × Option Passage :=
  match g, loop, on with
  | .clear, .outer, true => (.armedIn, none)
  | .clear, .inner, true => (.armedOut, none)
  | .armedIn, .inner, true => (.spanningIn, none)
  | .armedIn, .outer, false => (.clear, none)
  | .spanningIn, .outer, false => (.exitingIn, none)
  | .spanningIn, .inner, false => (.armedIn, none)
  | .exitingIn, .inner, false => (.clear, some .inward)
  | .exitingIn, .outer, true => (.spanningIn, none)
  | .armedOut, .outer, true => (.spanningOut, none)
  | .armedOut, .inner, false => (.clear, none)
  | .spanningOut, .inner, false => (.exitingOut, none)
  | .spanningOut, .outer, false => (.armedOut, none)
  | .exitingOut, .outer, false => (.clear, some .outward)
  | .exitingOut, .inner, true => (.spanningOut, none)
  | .blocked, _, _ => (if bothOff then .clear else .blocked, none)
  | st, _, _ => (st, none)

/-- The gate timer when the state passes from `old` to `new`: it starts at 10 s on leaving CLEAR, runs on, and is
discarded on return to CLEAR (R64). -/
def gateTimerAfter (old new : GateState) (t : Timer) : Timer :=
  if new = .clear then none else if old = .clear then some (seconds 10) else t

/-- The current bucket rises by one and stays at 255 (R67). -/
def TrafficRing.passed (r : TrafficRing) : TrafficRing := { r with current := saturatingSucc 255 r.current }

/-- The oldest bucket is dropped and a new current bucket at 0 joins (R69). -/
def TrafficRing.rotate (r : TrafficRing) : TrafficRing :=
  { oldest := r.second, second := r.third, third := r.fourth, fourth := r.fifth, fifth := r.current, current := 0 }

/-- What a completed passage does: the bucket, the presence event for the gate's channels, and on OUT toward a
station the PASSAGE bulletin (R67, R68). -/
def State.passage (s : State) (g : GateSettings) (p : Passage) : State :=
  let lit := (s.setBays { s.bays with ring := s.bays.ring.passed }).presence g.channels
  match p, g.farSide with
  | .outward, some station => lit.queuePassage station
  | _, _ => lit

/-- The filtered state of a gate's loop. -/
def Inputs.loopOn (i : Inputs) (n : Nat) : Loop → Bool
  | .outer => filteredAt i.outerLoops n
  | .inner => filteredAt i.innerLoops n

/-- A filtered loop change is taken. -/
def Inputs.takeLoop (i : Inputs) (n : Nat) (loop : Loop) (on : Bool) : Inputs :=
  match loop with
  | .outer => { i with outerLoops := takeAt i.outerLoops n on }
  | .inner => { i with innerLoops := takeAt i.innerLoops n on }

/-- LOOP_CHANGE: a filtered gate loop changes and the gate machine steps; the loops of a gate not configured are
ignored (R63..R67, R71). -/
def execLoopChange (n : Nat) (loop : Loop) (on : Bool) (s : State) : Host.Outcome State Fault Refusal :=
  match s.working, s.bays.gate? n with
  | true, some g =>
    if s.inputs.loopOn n loop = on then .next s
    else
      let inputs := s.inputs.takeLoop n loop on
      let bothOff := !inputs.loopOn n .outer && !inputs.loopOn n .inner
      let (st, passage) := g.state.next loop on bothOff
      let moved := (s.setInputs inputs).setBays
        (s.bays.mapGate n (fun x => { x with state := st, timer := gateTimerAfter g.state st x.timer }))
      match passage with
      | some p => .next (moved.passage g.settings p)
      | none => .next moved
  | _, _ => .next s

/-- GATE_TIMER_EXPIRY: the gate enters BLOCKED and GATE_STUCK is counted (R66). -/
def execGateTimerExpiry (n : Nat) (s : State) : Host.Outcome State Fault Refusal :=
  match s.working, s.bays.gate? n with
  | true, some g =>
    if g.timer = none then .next s
    else
      .next ((s.setBays (s.bays.mapGate n (fun x => { x with state := .blocked, timer := none }))).count .gateStuck)
  | _, _ => .next s

/-- TRAFFIC_RING_ROTATION: every 10 s (R69). -/
def execTrafficRingRotation (s : State) : Host.Outcome State Fault Refusal :=
  if s.working then
    .next (s.setBays { s.bays with ring := s.bays.ring.rotate, ringTimer := some (seconds 10) })
  else .next s

/-- Entry to LISTENING: a record for each configured bay and gate, a first scan at once, the loop filters and the
ring timer started (R50, R63, R69, R71). -/
def State.baysListen (s : State) : State :=
  let fresh := s.setBays
    { BayMonitor.afterReset with
      bays := s.settings.bays.map Bay.fresh
      gates := s.settings.gates.map (fun g => { settings := g, state := .clear, timer := none })
      ringTimer := some (seconds 10) }
  fresh.startScan

end Sys2Proof.Machine
end

