-- ==== Sys2Proof/Machine/Peers.lean ====
section
/-! DEFINITION. The Peer Table (R72..R90). -/

namespace Sys2Proof.Machine

/-! ### Bulletins -/

/-- The content of a bulletin as the Bus Interface hands it on (R75, R137). -/
inductive Bulletin where
  | status (content : StatusPayload)
  | alert (content : AlertPayload)
  | passage (named : Byte)
  deriving DecidableEq, Repr

/-- An air index as an entry holds it: absent, or at most 999 (R74). -/
def heardIndex (h : Half) : Option Nat := (indexOfHalf h).map (min 999)

/-- An advert brought into range as it is taken: cost at most 15, free at most 999, via outside 1..62 held as 0
(R74). -/
def heardAdvert (a : AdvertPayload) : Advert :=
  { cost := min 15 a.cost.toNat, free := min 999 a.free.toNat
    via := if a.via.toNat ≤ 62 then a.via.toNat else 0 }

/-- The heard fields after a bulletin (R74, R77). -/
def Heard.take (h : Heard) : Bulletin → Heard
  | .status p =>
    { airIndex := heardIndex p.index, alarm := some (alarmOfCode p.alarm), purge := some (purgeFlag p.flags)
      closed := some (closedFlag p.flags)
      adverts := some
        { standard := heardAdvert p.standard, accessible := heardAdvert p.accessible
          charging := heardAdvert p.charging } }
  | .alert p =>
    { h with airIndex := heardIndex p.index, alarm := some (alarmOfCode p.alarm), purge := some (purgeFlag p.flags) }
  | .passage _ => h

/-- The level number after a bulletin: a STATUS gives it to a learned entry, at most 15; a static entry keeps its
settings' (R77, R78, R137). -/
def levelAfter (origin : Origin) (old : Option Nat) : Bulletin → Option Nat
  | .status p =>
    match origin with
    | .static _ => old
    | .learned => some (min 15 p.level.toNat)
  | _ => old

/-! ### Entries -/

/-- A bulletin renews the entry of its source (R77). -/
def Peer.renew (p : Peer) (b : Bulletin) : Peer :=
  { p with age := 0, state := .fresh, heard := p.heard.take b, level := levelAfter p.origin p.level b }

/-- A learned entry as it is admitted (R78). -/
def Peer.learn (source : Nat) (b : Bulletin) : Peer :=
  { address := source, origin := .learned, level := levelAfter .learned none b, age := 0, state := .fresh
    heard := Heard.absent.take b }

/-- A static entry as a reset leaves it (R72, R73). -/
def Peer.ofStatic (c : StaticSettings) : Peer :=
  { address := c.address, origin := .static c, level := some c.level, age := 3, state := .silent
    heard := .absent }

/-- The settings of a static entry. -/
def Peer.static? (p : Peer) : Option StaticSettings :=
  match p.origin with
  | .static c => some c
  | .learned => none

/-- The drive settings of a static drive neighbour. -/
def Peer.drive? (p : Peer) : Option DriveSettings := p.static?.bind StaticSettings.drive

/-- The entry of a source address. -/
def PeerTable.entry? (t : PeerTable) (source : Nat) : Option Peer :=
  (t.slots.find? (fun slot => slot.any (fun p => p.address == source))).join

/-- The slots with the lowest-numbered empty one filled (R78). -/
def fillFirstEmpty (p : Peer) : List (Option Peer) → List (Option Peer)
  | [] => []
  | none :: rest => some p :: rest
  | some q :: rest => some q :: fillFirstEmpty p rest

/-- A learned entry of age 1 or more may be evicted (R79). -/
def Peer.evictable (p : Peer) : Bool := decide (p.origin = .learned) && decide (1 ≤ p.age)

/-- `a` is evicted before `b`: the higher age stamp, then the lower address (R79). -/
def Peer.evictedBefore (a b : Peer) : Bool :=
  decide (b.age < a.age) || (decide (a.age = b.age) && decide (a.address < b.address))

/-- The entry chosen for eviction among candidates (R79). -/
def chooseVictim : List Peer → Option Peer
  | [] => none
  | p :: ps =>
    match chooseVictim ps with
    | none => some p
    | some q => if p.evictedBefore q then some p else some q

/-- The slots once a bulletin of a source is taken: renewed, admitted in the lowest empty slot, admitted in the slot of
an evicted entry, or none when it can make no entry (R77, R78, R79). -/
def PeerTable.taken (t : PeerTable) (source : Nat) (b : Bulletin) : Option (List (Option Peer)) :=
  match t.entry? source with
  | some _ => some (t.slots.map (Option.map (fun p => if p.address = source then p.renew b else p)))
  | none =>
    if t.slots.any Option.isNone then some (fillFirstEmpty (.learn source b) t.slots)
    else match chooseVictim (t.slots.filterMap (fun slot => slot.filter Peer.evictable)) with
      | some v => some (t.slots.map (Option.map (fun p => if p.address = v.address then .learn source b else p)))
      | none => none

/-! ### What the other blocks are told -/

/-- The sympathy condition over the slots (R84). -/
def sympathyHolds (own : Nat) (slots : List (Option Peer)) : Bool :=
  slots.any (fun slot => slot.any (fun p =>
    decide (p.state = .fresh) && decide (p.level = some own) &&
      (decide (p.heard.alarm = some .alarm) || decide (p.heard.purge = some true))))

/-- A static neighbour with weight above 0 has changed its state or its air index (R86). -/
def upstreamChanged (old new : List (Option Peer)) : Bool :=
  (old.zip new).any (fun pair =>
    match pair with
    | (some a, some b) =>
      a.static?.any (fun c => decide (0 < c.weight)) &&
        (decide (a.state ≠ b.state) || decide (a.heard.airIndex ≠ b.heard.airIndex))
    | _ => false)

/-- A static drive neighbour's entry has changed its state (R87). -/
def driveStateChanged (old new : List (Option Peer)) : Bool :=
  (old.zip new).any (fun pair =>
    match pair with
    | (some a, some b) => a.drive?.isSome && decide (a.state ≠ b.state)
    | _ => false)

/-- The table changed and sympathy formed again, complete before any block is told; then the Ventilation Controller
once for sympathy and upstream entries, and the Guidance Unit once for drive neighbours (R84, R86, R87, R88).
`statusFromDrive` says that a STATUS of a static drive neighbour was taken. -/
def State.peersChanged (s : State) (slots : List (Option Peer)) (statusFromDrive : Bool) : State :=
  let sympathy := sympathyHolds s.settings.levelNumber slots
  let changed := s.setPeers { s.peers with slots := slots, sympathy := sympathy }
  let ventilated :=
    if sympathy != s.peers.sympathy || upstreamChanged s.peers.slots slots then changed.recompute false
    else changed
  if statusFromDrive || driveStateChanged s.peers.slots slots then ventilated.guidanceTold true false
  else ventilated

/-- The entry channels a PASSAGE lights: it names this station and its sender is a static drive neighbour (R80). -/
def State.passageLights (s : State) (source : Nat) (b : Bulletin) : ChannelSet :=
  match b, s.peers.entry? source with
  | .passage named, some p =>
    if named.toNat = s.settings.ownAddress ∧ p.drive?.isSome then
      (p.static?.map StaticSettings.entryChannels).getD 0#8
    else 0#8
  | _, _ => 0#8

/-- The bulletin is a STATUS of a static drive neighbour (R87). -/
def State.statusOfDrive (s : State) (source : Nat) (b : Bulletin) : Bool :=
  match b, s.peers.entry? source with
  | .status _, some p => p.drive?.isSome
  | _, _ => false

/-- A bulletin handed to the Peer Table (R75..R80). -/
def State.takeBulletin (s : State) (sourceByte : Byte) (b : Bulletin) : State :=
  let source := sourceByte.toNat
  if source = 0 ∨ 62 < source then s.count .peerReject
  else if source = s.settings.ownAddress then s.count .addressClash
  else match s.peers.taken source b with
    | none => s.count .peerReject
    | some slots => (s.peersChanged slots (s.statusOfDrive source b)).presence (s.passageLights source b)

/-! ### The sweep -/

/-- An entry at a sweep (R81, R82). -/
def Peer.sweep (p : Peer) : Option Peer :=
  if p.age < 3 then
    some { p with
      age := p.age + 1
      state := if p.state = .fresh ∧ 2 ≤ p.age + 1 then .stale else p.state }
  else match p.origin, p.state with
    | .learned, _ => none
    | .static _, .stale => some { p with state := .silent, heard := .absent }
    | .static _, _ => some p

/-- SWEEP: the sweep timer expires; every entry is aged (R81, R82, R84). -/
def execSweep (s : State) : Host.Outcome State Fault Refusal :=
  if s.working then
    let timed := s.setPeers { s.peers with sweepTimer := some (seconds s.settings.sweepInterval) }
    .next (timed.peersChanged (s.peers.slots.map (fun slot => slot.bind Peer.sweep)) false)
  else .next s

/-- Entry to LISTENING: the static entries in slots 1..S and the sweep timer (R72, R73, R90). -/
def State.peersListen (s : State) : State :=
  let statics := s.settings.statics.map (fun c => some (Peer.ofStatic c))
  s.setPeers
    { slots := statics ++ List.replicate (16 - statics.length) none
      sweepTimer := some (seconds s.settings.sweepInterval)
      sympathy := false }

end Sys2Proof.Machine
end

