-- ==== Sys2Proof/Machine/SettingsRecord.lean ====
section
/-! DEFINITION. The settings record: its layout, its check and its correction (R72, R173, R174, R175). -/

namespace Sys2Proof.Machine

/-- A value brought into range and how many corrections that took. -/
structure Corrected (α : Type) where
  value : α
  corrections : Nat
  deriving DecidableEq, Repr

/-- The byte at an offset of the record; an offset past its end reads 0. -/
def recordByte (r : List Byte) (base : Nat) : Nat := (r.getD base 0#8).toNat

/-- The two-byte number at an offset, high byte first (R173). -/
def recordHalf (r : List Byte) (base : Nat) : Nat := recordByte r base * 256 + recordByte r (base + 1)

/-- A number clamped to the nearer limit, counted once if that changed it (R174). -/
def clampField (lo hi v : Nat) : Corrected Nat :=
  { value := clampTo lo hi v, corrections := if lo ≤ v ∧ v ≤ hi then 0 else 1 }

/-- The records of numbers 1..`n` that are configured, and the corrections of all of them. -/
def collect {α : Type} (n : Nat) (f : Nat → Corrected (Option α)) : Corrected (List α) :=
  let all := (List.range n).map (fun i => f (i + 1))
  { value := all.filterMap Corrected.value, corrections := (all.map Corrected.corrections).sum }

/-- Head `n`, bytes 17..52, six bytes each. A gas byte above 2 is taken as not configured and counted; the fields
of a head not configured are neither corrected nor counted (R174). -/
def headOfRecord (r : List Byte) (n : Nat) : Corrected (Option HeadSettings) :=
  let base := 17 + 6 * (n - 1)
  let fs := clampField 1 1000 (recordHalf r (base + 1))
  let k := clampField 0 4 (recordByte r (base + 3))
  let lref := clampField 1 1000 (recordHalf r (base + 4))
  let head (gas : Gas) : Corrected (Option HeadSettings) :=
    { value := some { number := n, gas, fullScale := fs.value, shift := k.value, limit := lref.value }
      corrections := fs.corrections + k.corrections + lref.corrections }
  match recordByte r base with
  | 0 => { value := none, corrections := 0 }
  | 1 => head .co
  | 2 => head .no2
  | _ => { value := none, corrections := 1 }

/-- The configured fans, bits 0..5 of byte 53. -/
def fansOfRecord (r : List Byte) : List Nat :=
  [1, 2, 3, 4, 5, 6].filter (fun n => bit (r.getD 53 0#8) (n - 1))

/-- A class code in two bits. -/
def classOfCode (code : Nat) : BayClass :=
  match code with
  | 0 => .standard
  | 1 => .accessible
  | 2 => .charging
  | _ => .staff

/-- Bay `n`, bytes 74..137, one byte each. A channel of 9..15 is taken as 8 (R174). -/
def bayOfRecord (r : List Byte) (n : Nat) : Corrected (Option BaySettings) :=
  let b := r.getD (73 + n) 0#8
  let channel := clampField 0 8 (field b 0 4)
  if bit b 7 then
    { value := some
        { number := n, cls := classOfCode (field b 4 2), channel := channel.value, inService := bit b 6 }
      corrections := channel.corrections }
  else { value := none, corrections := 0 }

/-- Gate `n`, bytes 138..149, three bytes each. A far side above 62 or equal to the own address is STREET and is
counted (R174). -/
def gateOfRecord (own : Nat) (r : List Byte) (n : Nat) : Corrected (Option GateSettings) :=
  let base := 138 + 3 * (n - 1)
  let far := recordByte r (base + 1)
  let faulty := decide (62 < far) || decide (far = own)
  if bit (r.getD base 0#8) 0 then
    { value := some
        { number := n, farSide := if faulty || far = 0 then none else some far, channels := r.getD (base + 2) 0#8 }
      corrections := if faulty then 1 else 0 }
  else { value := none, corrections := 0 }

/-- Static slot `n`, bytes 154..193, five bytes each (R72). An address of 63 or more, the own address, or that of an
earlier slot sets the slot aside and is counted once; address 0 is an unused slot. -/
def staticOfRecord (own : Nat) (r : List Byte) (n : Nat) : Corrected (Option StaticSettings) :=
  let base := 154 + 5 * (n - 1)
  let address := recordByte r base
  let earlier := (List.range (n - 1)).map (fun i => recordByte r (154 + 5 * i))
  let level := clampField 0 15 (recordByte r (base + 1))
  let weight := clampField 0 100 (recordByte r (base + 2))
  let drive := r.getD (base + 3) 0#8
  let cost := clampField 1 4 (field drive 0 3)
  let isDrive := bit drive 7
  if address = 0 then { value := none, corrections := 0 }
  else if 63 ≤ address ∨ address = own ∨ address ∈ earlier then { value := none, corrections := 1 }
  else
    { value := some
        { address, level := level.value, weight := weight.value
          drive := if isDrive then some { exit := field drive 4 2, linkCost := cost.value } else none
          entryChannels := r.getD (base + 4) 0#8 }
      corrections := level.corrections + weight.corrections + if isDrive then cost.corrections else 0 }

/-- An arrow code 1 LEFT .. 6 BACK, clamped (R174). -/
def arrowOfCode (code : Nat) : Corrected Arrow :=
  { value :=
      match code with
      | 0 => .left
      | 1 => .left
      | 2 => .ahead
      | 3 => .right
      | 4 => .rampDown
      | 5 => .rampUp
      | _ => .back
    corrections := if 1 ≤ code ∧ code ≤ 6 then 0 else 1 }

/-- Sign `n`, bytes 194..209, four bytes each. A class of STAFF is taken as STANDARD and counted; a mode of 3 is
clamped to TOTAL (R174). -/
def signOfRecord (r : List Byte) (n : Nat) : Corrected (Option SignSettings) :=
  let base := 194 + 4 * (n - 1)
  let b := r.getD base 0#8
  let a01 := r.getD (base + 1) 0#8
  let a23 := r.getD (base + 2) 0#8
  let mode := clampField 0 2 (field b 0 2)
  let arrow0 := arrowOfCode (field a01 4 4)
  let arrow1 := arrowOfCode (field a01 0 4)
  let arrow2 := arrowOfCode (field a23 4 4)
  let arrow3 := arrowOfCode (field a23 0 4)
  if bit b 7 then
    { value := some
        { number := n
          mode := match mode.value with
            | 0 => .zone
            | 1 => .route
            | _ => .total
          cls := match field b 4 2 with
            | 0 => .standard
            | 1 => .accessible
            | 2 => .charging
            | _ => .standard
          arrow0 := arrow0.value, arrow1 := arrow1.value, arrow2 := arrow2.value, arrow3 := arrow3.value }
      corrections := mode.corrections + (if field b 4 2 = 3 then 1 else 0) + arrow0.corrections +
        arrow1.corrections + arrow2.corrections + arrow3.corrections }
  else { value := none, corrections := 0 }

/-- Channel `n`, bytes 210..257, six bytes each. -/
def channelOfRecord (r : List Byte) (n : Nat) : Corrected (Option ChannelSettings) :=
  let base := 210 + 6 * (n - 1)
  let active := clampField 0 100 (recordByte r base)
  let idle := clampField 0 100 (recordByte r (base + 1))
  let flags := r.getD (base + 2) 0#8
  let hold := clampField 10 3600 (recordHalf r (base + 3))
  let slew := clampField 1 50 (recordByte r (base + 5))
  { value := some
      { active := active.value, idle := idle.value, sleep := bit flags 0
        dimMode := if bit flags 1 then .step else .slew, holdSeconds := hold.value, slew := slew.value }
    corrections := active.corrections + idle.corrections + hold.corrections + slew.corrections }

/-- The record passes the check: read whole, signature, length, CRC, own address (R173). -/
def recordPasses (r : List Byte) : Bool :=
  decide (260 ≤ r.length) && decide (recordByte r 0 = 0x4C) && decide (recordByte r 1 = 0x18) &&
    decide (recordHalf r 2 = 254) && decide (crc16 ((r.drop 2).take 256) = halfFrom (r.getD 258 0#8) (r.getD 259 0#8)) &&
    decide (1 ≤ recordByte r 4) && decide (recordByte r 4 ≤ 62)

/-- The thresholds, or the defaults if they are not strictly ascending, counted once (R175). -/
def revertThresholds (w n a : Nat) : Corrected (Nat × Nat × Nat) :=
  if w < n ∧ n < a then { value := (w, n, a), corrections := 0 } else { value := (60, 100, 150), corrections := 1 }

/-- E_lo and E_hi, or the defaults if E_hi is not greater, counted once (R175). -/
def revertEffective (lo hi : Nat) : Corrected (Nat × Nat) :=
  if lo < hi then { value := (lo, hi), corrections := 0 } else { value := (40, 120), corrections := 1 }

/-- The corrected settings of a record that has passed its check, and the number of corrections (R174, R175). -/
def settingsOfRecord (r : List Byte) : Corrected Settings :=
  let own := recordByte r 4
  let level := clampField 0 15 (recordByte r 5)
  let period := clampField 1 30 (recordByte r 6)
  let sweep := clampField 1 30 (recordByte r 7)
  let selection := clampField 0 1 (recordByte r 8)
  let tWatch := clampField 1 999 (recordHalf r 9)
  let tWarning := clampField 1 999 (recordHalf r 11)
  let tAlarm := clampField 1 999 (recordHalf r 13)
  let thresholds := revertThresholds tWatch.value tWarning.value tAlarm.value
  let hysteresis := clampField 0 50 (recordByte r 15)
  let holdCode := clampField 0 7 (recordByte r 16)
  let heads := collect 6 (headOfRecord r)
  let eLo := clampField 0 999 (recordHalf r 54)
  let eHi := clampField 0 999 (recordHalf r 56)
  let effective := revertEffective eLo.value eHi.value
  let gain := clampField 0 20 (recordByte r 58)
  let cap := clampField 0 100 (recordByte r 59)
  let fClear := clampField 0 100 (recordByte r 60)
  let fWatch := clampField 0 100 (recordByte r 61)
  let fWarning := clampField 0 100 (recordByte r 62)
  let fAlarm := clampField 0 100 (recordByte r 63)
  let blind := clampField 0 100 (recordByte r 64)
  let sympathy := clampField 0 100 (recordByte r 65)
  let up := clampField 1 100 (recordByte r 66)
  let down := clampField 1 100 (recordByte r 67)
  let fall := clampField 0 1 (recordByte r 68)
  let minSpeed := clampField 10 60 (recordByte r 69)
  let confirm := clampField 5 60 (recordByte r 70)
  let coast := clampField 10 120 (recordByte r 71)
  let nOn := clampField 1 16 (recordByte r 72)
  let nOff := clampField 1 16 (recordByte r 73)
  let bays := collect 64 (bayOfRecord r)
  let gates := collect 4 (gateOfRecord own r)
  let statics := collect 8 (staticOfRecord own r)
  let signs := collect 4 (signOfRecord r)
  let channels := collect 8 (channelOfRecord r)
  { value :=
      { ownAddress := own, levelNumber := level.value, statusPeriod := period.value, sweepInterval := sweep.value
        selection := if selection.value = 0 then .strict else .weighted
        tWatch := thresholds.value.1, tWarning := thresholds.value.2.1, tAlarm := thresholds.value.2.2
        hysteresis := hysteresis.value, holdCode := holdCode.value, heads := heads.value, fans := fansOfRecord r
        eLo := effective.value.1, eHi := effective.value.2, trafficGain := gain.value, trafficCap := cap.value
        floorClear := fClear.value, floorWatch := fWatch.value, floorWarning := fWarning.value
        floorAlarm := fAlarm.value, blindFloor := blind.value, sympathyFloor := sympathy.value
        upRate := up.value, downRate := down.value, fallMode := if fall.value = 0 then .ramp else .coast
        minSpeed := minSpeed.value, confirmTimeout := confirm.value, coastTime := coast.value
        nOn := nOn.value, nOff := nOff.value, bays := bays.value, gates := gates.value
        motion := [150, 151, 152, 153].map (fun i => r.getD i 0#8), statics := statics.value
        signs := signs.value, channels := channels.value }
    corrections := level.corrections + period.corrections + sweep.corrections + selection.corrections +
      tWatch.corrections + tWarning.corrections + tAlarm.corrections + thresholds.corrections +
      hysteresis.corrections + holdCode.corrections + heads.corrections + eLo.corrections + eHi.corrections +
      effective.corrections + gain.corrections + cap.corrections + fClear.corrections + fWatch.corrections +
      fWarning.corrections + fAlarm.corrections + blind.corrections + sympathy.corrections + up.corrections +
      down.corrections + fall.corrections + minSpeed.corrections + confirm.corrections + coast.corrections +
      nOn.corrections + nOff.corrections + bays.corrections + gates.corrections + statics.corrections +
      signs.corrections + channels.corrections }

end Sys2Proof.Machine
end

