-- ==== Sys2Proof/Machine/Startup.lean ====
section
/-! DEFINITION. The Start-up Unit: resets, the settings check, the station states (R172..R180). -/

namespace Sys2Proof.Machine

/-! ### Resets -/

/-- Every piece of state at its value after reset, the station in a state, with a Start-up Unit and counters. The
lines of the contact inputs stay where the outside holds them, and so does the queue of commands (R172, R179). -/
def State.afterReset (s : State) (station : Station) (startup : StartUp) (counters : Counters) : State :=
  { station := station, settings := .unread, startup := startup, inputs := s.inputs.afterReset
    air := .afterReset, vent := .afterReset, bays := .afterReset, peers := .afterReset, guide := .afterReset
    light := .afterReset, bus := .afterReset, counters := counters, pending := s.pending }

/-- The Start-up Unit while the part is held in reset: no timer of it runs but the power-on hold, and the image of the
settings memory is the empty list (DESIGN CHOICE: the spec gives it no value after a reset; log 34). -/
def StartUp.held (supplyInRange resetLineLow : Bool) (powerOnTimer : Timer) : StartUp :=
  { supplyInRange, resetLineLow, powerOnTimer, readTimer := none, listeningTimer := none, image := []
    clampedCount := 0 }

/-- A restart: taken at once, the counters kept, and STARTING entered at once (R165, R172). -/
def State.restartTaken (s : State) : State := s.afterReset .starting (.starting s.startup.supplyInRange) s.counters

/-- POWER_ON_RESET: the supply enters its working range and the part is held in reset; every piece of state takes its
value after reset and the counters are cleared; RESET_END follows after 20 ms of steady supply (R169, R172; the rows
POWER_ON_RESET and RESET_END of spec/opcode_table.json). -/
def execPowerOnReset (s : State) : Host.Outcome State Fault Refusal :=
  .next (s.afterReset .heldInReset (.held true s.startup.resetLineLow (some 20)) .zero)

/-- LINE_RESET: a low period of the reset line reaches 2 ms; the part is held in reset while the line stays low; the
counters are cleared (R169, R172). -/
def execLineReset (s : State) : Host.Outcome State Fault Refusal :=
  .next (s.afterReset .heldInReset
    (.held s.startup.supplyInRange true s.startup.powerOnTimer) .zero)

/-- RESET_END: the reset ends and the station enters STARTING; with the supply below its range it does not (R172). -/
def execResetEnd (s : State) : Host.Outcome State Fault Refusal :=
  if s.station = .heldInReset ∧ s.startup.supplyInRange = true then
    .next (s.afterReset .starting (.starting true) s.counters)
  else .next s

/-- SUPPLY_FALLS_BELOW_RANGE: the part is held in reset, all work abandoned, until a fresh power-on reset (R172). -/
def execSupplyFallsBelowRange (s : State) : Host.Outcome State Fault Refusal :=
  .next (s.afterReset .heldInReset (.held false s.startup.resetLineLow none) s.counters)

/-! ### The station states -/

/-- Entry to LISTENING with corrected settings: each block begins its working by its own Part (R176). -/
def State.enterListening (s : State) (image : List Byte) (c : Settings) (corrections : Nat) : State :=
  let listening := (s.setStation .listening).setSettings c
  let started := listening.setStartup { s.startup with
    readTimer := none, listeningTimer := some (seconds (2 * c.sweepInterval)), image := image
    clampedCount := min 255 corrections }
  let filtered := started.setInputs { s.inputs with
    outerLoops := s.inputs.outerLoops.map FilteredInput.afterReset
    innerLoops := s.inputs.innerLoops.map FilteredInput.afterReset
    motion := s.inputs.motion.map FilteredInput.afterReset }
  let heads := filtered.setAir (.fresh c)
  let peers := heads.peersListen
  let fans := peers.ventilationListens
  let bays := fans.baysListen
  let signs := (bays.setGuide { bays.guide with
    signs := c.signs.map (fun g =>
      { settings := g, image := .blank, due := true, refresh := some 5000, misses := 0, faultMark := false
        lastStatus := none }) }).formImages
  let lights := signs.lightingListens
  let bus := (lights.setBus { lights.bus with
    jitter := c.ownAddress % 16, periodTimer := some (seconds c.statusPeriod) }).queueStatus
  bus.startRound

/-- The settings of FALLBACK: six fans, min speed 30 and coast 30 s; no setting of the record is used (R49, R178). -/
def Settings.fallback : Settings :=
  { Settings.unread with fans := [1, 2, 3, 4, 5, 6], minSpeed := 30, coastTime := 30 }

/-- Entry to FALLBACK (R178). The record read is not used and not kept: the image of the settings memory stays the empty
list that the reset left (DESIGN CHOICE: the spec gives it no value in FALLBACK; log 34). -/
def State.enterFallback (s : State) : State :=
  let entered := (s.setStation .fallback).setSettings .fallback
  let timed := entered.setStartup { s.startup with readTimer := none }
  let signs := timed.setGuide { timed.guide with fallbackTimer := some 5000 }
  signs.ventilationFallsBack

/-- SETTINGS_READ_COMPLETE: the record is checked in STARTING; one that passes is corrected and the station enters
LISTENING, one that fails is not used and the station enters FALLBACK. The record is the first 260 bytes read. The
memory is read once, so in any other state nothing happens (R173..R176, R178). -/
def execSettingsReadComplete (record : List Byte) (s : State) : Host.Outcome State Fault Refusal :=
  let image := record.take 260
  if s.station = .starting then
    if recordPasses image then
      .next (s.enterListening image (settingsOfRecord image).value (settingsOfRecord image).corrections)
    else .next s.enterFallback
  else .next s

/-- SETTINGS_READ_TIMEOUT: the read is not completed within 100 ms of entry to STARTING (R173, R178). -/
def execSettingsReadTimeout (s : State) : Host.Outcome State Fault Refusal :=
  if s.station = .starting then .next s.enterFallback else .next s

/-- LISTENING_TIMER_EXPIRY: the station enters NORMAL; the Guidance Unit evaluates its routes and forms its images
(R111, R177). -/
def execListeningTimerExpiry (s : State) : Host.Outcome State Fault Refusal :=
  if s.station = .listening then
    .next (((s.setStation .normal).setStartup { s.startup with listeningTimer := none }).guidanceTold true false)
  else .next s

end Sys2Proof.Machine
end

