-- ==== Sys2Proof/Machine/Send.lean ====
section
/-! DEFINITION. The sending side from the gap to the end of an attempt, and the timers of STATUS (R149..R157). -/

namespace Sys2Proof.Machine

/-- The content of a STATUS captured: closure formed, routes evaluated in NORMAL without telling, images and lamps
applied, and then the fields as they stand (R101, R155). -/
def State.captureStatus (s : State) : State := s.guidanceTold (decide (s.station = .normal)) true

/-- The attempt with the head frame of a class begins (R138, R155). -/
def State.beginHead (s : State) (cls : TxClass) : State :=
  match (s.bus.queues.get cls).head? with
  | none => s.setBus { s.bus with transmitter := .atRest }
  | some f =>
    match f.content with
    | .alert => s.beginAlert
    | .status =>
      let captured := s.captureStatus
      captured.beginAttempt .status 1#8 63#8 (statusBytes captured.statusContent)
    | .passage named => s.beginAttempt cls 3#8 63#8 [named]
    | .report destination payload _ => s.beginAttempt cls 5#8 destination payload

/-- The head frame of a class leaves its queue (R145). -/
def BusInterface.dropHead (b : BusInterface) (cls : TxClass) : BusInterface :=
  { b with queues := b.queues.put cls (b.queues.get cls).tail }

/-- The head frame of a class is the REPORT a pending restart waits for (R165). -/
def BusInterface.headRestarts (b : BusInterface) (cls : TxClass) : Bool :=
  match (b.queues.get cls).head? with
  | some f =>
    match f.content with
    | .report _ _ restart => restart
    | _ => false
  | none => false

/-- The frames of the class hold no content while they wait: it is captured at each attempt (R145). -/
def TxClass.capturesContent : TxClass → Bool
  | .alert => true
  | .passage => false
  | .status => true
  | .report => false

/-- The queue of a class whose head has met a collision: the attempt count of the head rises by one. In class 0 or 2
the head is pending again, and a newer frame that waited behind it is absorbed into it (R145, R146, R156; log 29). -/
def retryHead (cls : TxClass) : List QueuedFrame → List QueuedFrame
  | [] => []
  | f :: rest => { f with attempts := f.attempts + 1 } :: (if cls.capturesContent then [] else rest)

/-- The head frame of a class has used its eighth attempt (R156). -/
def BusInterface.lastAttempt (b : BusInterface) (cls : TxClass) : Bool :=
  match (b.queues.get cls).head? with
  | some f => decide (7 ≤ f.attempts)
  | none => false

/-! ### Commands -/

/-- STATUS_PERIOD_TIMER_EXPIRY: a STATUS is queued and the period timer starts again (R149). -/
def execStatusPeriodTimerExpiry (s : State) : Host.Outcome State Fault Refusal :=
  if s.working && s.bus.periodTimer.isSome then
    .next (s.setBus { s.bus with periodTimer := some (seconds s.settings.statusPeriod) }).queueStatus
  else .next s

/-- SPACING_TIMER_EXPIRY: the spacing timer ends; an owed STATUS is queued (R150). -/
def execSpacingTimerExpiry (s : State) : Host.Outcome State Fault Refusal :=
  if s.working && s.bus.spacingTimer.isSome then
    let ended := s.setBus { s.bus with spacingTimer := none, owed := false }
    if s.bus.owed then .next ended.queueStatus else .next ended
  else .next s

/-- LINE_BUSY_IN_GAP: a SPACE sample while the gap is counted; the jitter value taken is spent (R131, R153). -/
def execLineBusyInGap (s : State) : Host.Outcome State Fault Refusal :=
  match s.bus.transmitter with
  | .gap _ _ => .next s.lineBusy
  | _ => .next s

/-- GAP_COUNTED_OUT: the gap is counted out with the line at MARK and the attempt begins (R153, R155). -/
def execGapCountedOut (s : State) : Host.Outcome State Fault Refusal :=
  match s.bus.transmitter with
  | .gap cls _ => .next (s.beginHead cls)
  | _ => .next s

/-- COLLISION: a readback mismatch stops the attempt. At the eighth attempt the frame is dropped, and a restart
waiting for it is taken; else it keeps its place with its attempt count risen, and in class 0 or 2 absorbs a newer
frame behind it (R146, R156, R165). -/
def execCollision (s : State) : Host.Outcome State Fault Refusal :=
  match s.bus.transmitter with
  | .sending cls _ =>
    let stopped := s.count .txCollision
    if s.bus.lastAttempt cls then
      let dropped := (stopped.count .txDrop).setBus { s.bus.dropHead cls with transmitter := .backoff }
      if s.bus.headRestarts cls then .next dropped.restartTaken else .next dropped
    else
      .next (stopped.setBus { s.bus with
        queues := s.bus.queues.put cls (retryHead cls (s.bus.queues.get cls)), transmitter := .backoff })
  | _ => .next s

/-- TX_COMPLETE: the last stop bit is read back. TX_GOOD is counted, the frame leaves its queue, under WEIGHTED
selection the credit is spent, and a restart waiting for the frame is taken (R157, R165). -/
def execTxComplete (s : State) : Host.Outcome State Fault Refusal :=
  match s.bus.transmitter with
  | .sending cls _ =>
    let sent := s.bus.dropHead cls
    let next := if sent.queues.nonEmpty = [] then Transmitter.atRest else .waitingIdle
    let credits := if s.settings.selection = .weighted then s.bus.credits.spend cls else s.bus.credits
    let left := (s.count .txGood).setBus { sent with transmitter := next, credits := credits }
    if s.bus.headRestarts cls then .next left.restartTaken else .next left
  | _ => .next s

end Sys2Proof.Machine
end

