-- ==== Sys2Proof/Machine/Reports.lean ====
section
/-! DEFINITION. The bodies of the reports (R142, R143, R166..R170). -/

namespace Sys2Proof.Machine

/-- Head `n` in a section 1 report: state and sub-index as of the latest air sample, 0 and FFFFH when not configured
(R13, R21, R142, R166). -/
def AirMonitor.headItem (a : AirMonitor) (n : Nat) : List Byte :=
  match a.sampled? n with
  | some h => h.state.byte :: halfBytes (indexHalf h.subIndex)
  | none => 0#8 :: halfBytes 0xFFFF#16

/-- Fan `n` in a section 1 report (R142, R166). -/
def Ventilation.fanItem (v : Ventilation) (n : Nat) : Byte :=
  match v.fan? n with
  | some f => f.state.byte
  | none => 0#8

/-- The section 1 body of QUERY ZONE (R142, R166). -/
def State.sectionOne (s : State) : List Byte :=
  [1#8, s.station.byte, s.closureSources, byteOf s.air.level.code] ++ halfBytes (indexHalf s.air.ownIndex) ++
    [byteOf s.vent.floor, byteOf s.vent.demand, byteOf s.vent.commanded, byteOf s.startup.clampedCount] ++
    [1, 2, 3, 4, 5, 6].flatMap s.air.headItem ++ [1, 2, 3, 4, 5, 6].map s.vent.fanItem

/-- A route row in a section 2 report (R142). -/
def Row.bytes (r : Row) : List Byte := byteOf r.cost :: halfBytes (halfOf r.free) ++ [byteOf r.via, r.exit.byte]

/-- Sign `n` in a section 2 report: display state of the image held, and marks (R142, R166). -/
def Guidance.signItem (g : Guidance) (n : Nat) : List Byte :=
  match g.sign? n with
  | some x => [x.image.display.byte, x.marks]
  | none => [0xFF#8, 0#8]

/-- Channel `n` in a section 2 report (R127, R142). -/
def Lighting.channelItem (l : Lighting) (n : Nat) : List Byte :=
  match l.channel? n with
  | some c => [c.state.byte, byteOf c.output]
  | none => [0#8, 0#8]

/-- The section 2 body of QUERY ZONE (R142, R166). -/
def State.sectionTwo (s : State) : List Byte :=
  [2#8, s.station.byte, s.closureSources, byteOf (s.bays.freeCount .standard), byteOf (s.bays.freeCount .accessible),
    byteOf (s.bays.freeCount .charging)] ++
    s.guide.rows.standard.bytes ++ s.guide.rows.accessible.bytes ++ s.guide.rows.charging.bytes ++
    [1, 2, 3, 4].flatMap s.guide.signItem ++ [1, 2, 3, 4, 5, 6, 7, 8].flatMap s.light.channelItem

/-- The reservation time of a bay in a report: whole minutes rounded up, 1..240, or 0 for "until released" (R143;
a timer at 0 whose expiry has not been taken yet shows 1, log 15). -/
def reservationMinutes : Option TimeLimit → Byte
  | some (.remaining ms) => byteOf (max 1 (ceilDiv ms 60000))
  | _ => 0#8

/-- The item of a bay number in a bay report (R143, R167). -/
def BayMonitor.bayItem (b : BayMonitor) (n : Nat) : List Byte :=
  match b.bay? n with
  | some x =>
    let first := byteOf (x.state.code * 16 + x.settings.cls.code)
    if x.state = .reserved then [first, reservationMinutes x.reservation] else [first]
  | none => [0#8]

/-- The items of up to `count` bays from bay `n`: as many as stay before bay 65 and within `room` bytes (R143). -/
def BayMonitor.bayItems (b : BayMonitor) : Nat → Nat → Nat → List (List Byte)
  | 0, _, _ => []
  | count + 1, n, room =>
    if 64 < n ∨ room < (b.bayItem n).length then []
    else b.bayItem n :: b.bayItems count (n + 1) (room - (b.bayItem n).length)

/-- The body of QUERY BAYS: the first bay, the number carried, the items; the payload holds 48 bytes, of which code,
result, first bay and number take four (R143, R167). -/
def BayMonitor.report (b : BayMonitor) (first count : Nat) : List Byte :=
  let items := b.bayItems count first 44
  [byteOf first, byteOf items.length] ++ items.flatten

/-- The item of a peer slot (R143, R168). -/
def peerItem : Option Peer → List Byte
  | some p => [byteOf p.address, p.statusByte, alarmByte p.heard.alarm] ++ halfBytes (indexHalf p.heard.airIndex)
  | none => [0#8, 0#8, 0xFF#8] ++ halfBytes 0xFFFF#16

/-- The body of QUERY PEERS: eight slots from the first, stopping after slot 16 (R143, R168). -/
def PeerTable.report (t : PeerTable) (first : Nat) : List Byte :=
  byteOf first :: ((t.slots.drop (first - 1)).take 8).flatMap peerItem

/-- The body of QUERY COUNTERS: the clear argument, the sixteen counts, the overflow flags (R143, R170). -/
def Counters.report (c : Counters) (clear : Byte) : List Byte :=
  clear :: CounterName.all.flatMap (fun n => halfBytes (halfOf (c.get n).count)) ++ c.overflowBytes

end Sys2Proof.Machine
end

