-- ==== Sys2Proof/Machine/Service.lean ====
section
/-! DEFINITION. Service commands: taking a COMMAND, checking it, executing it and queuing its REPORT (R141..R143,
R148, R160..R171). -/

namespace Sys2Proof.Machine

/-- What executing a command gives: the state after it, its result, and the body a query reports (R162, R163). -/
structure Executed where
  state : State
  result : CommandResult
  body : List Byte := []

/-- The command changed nothing and gives a result. -/
def Executed.refuse (s : State) (r : CommandResult) : Executed := { state := s, result := r }

/-- The command is DONE and leaves a state. -/
def Executed.did (s : State) : Executed := { state := s, result := .done }

/-! ### Each command after the code has been looked up: argument count, ranges, owner (R162) -/

/-- QUERY ZONE (R166). -/
def queryZone (args : List Byte) (s : State) : Executed :=
  match args with
  | [section_] =>
    if section_ = 1#8 then { state := s, result := .done, body := s.sectionOne }
    else if section_ = 2#8 then { state := s, result := .done, body := s.sectionTwo }
    else .refuse s .badArgument
  | _ => .refuse s .badArgument

/-- QUERY BAYS (R167). -/
def queryBays (args : List Byte) (s : State) : Executed :=
  match args with
  | [first, count] =>
    if 1 ≤ first.toNat ∧ first.toNat ≤ 64 ∧ 1 ≤ count.toNat ∧ count.toNat ≤ 40 then
      { state := s, result := .done, body := s.bays.report first.toNat count.toNat }
    else .refuse s .badArgument
  | _ => .refuse s .badArgument

/-- QUERY PEERS (R168). -/
def queryPeers (args : List Byte) (s : State) : Executed :=
  match args with
  | [first] =>
    if 1 ≤ first.toNat ∧ first.toNat ≤ 16 then
      { state := s, result := .done, body := s.peers.report first.toNat }
    else .refuse s .badArgument
  | _ => .refuse s .badArgument

/-- QUERY COUNTERS: read, then cleared if asked (R170). -/
def queryCounters (args : List Byte) (s : State) : Executed :=
  match args with
  | [clear] =>
    if clear = 0#8 then { state := s, result := .done, body := s.counters.report clear }
    else if clear = 1#8 then
      { state := s.setCounters .zero, result := .done, body := s.counters.report clear }
    else .refuse s .badArgument
  | _ => .refuse s .badArgument

/-- SET FAN OVERRIDE (R29). -/
def setFanOverride (args : List Byte) (s : State) : Executed :=
  match args with
  | [value, minutes] =>
    if value.toNat ≤ 100 ∧ minutes.toNat ≤ 240 then
      .did ((s.setVent { s.vent with
        override := some { value := value.toNat, limit := limitOfMinutes minutes.toNat } }).recompute false)
    else .refuse s .badArgument
  | _ => .refuse s .badArgument

/-- CLEAR FAN OVERRIDE (R30). -/
def clearFanOverride (args : List Byte) (s : State) : Executed :=
  match args with
  | [] => if s.vent.override = none then .did s else .did s.endFanOverride
  | _ => .refuse s .badArgument

/-- LOCK OUT FAN (R44). -/
def lockOutFan (args : List Byte) (s : State) : Executed :=
  match args with
  | [fan] =>
    match s.vent.fan? fan.toNat with
    | some _ =>
      .did (s.setVent ((s.vent.mapFan fan.toNat (fun f => f.inState .lockedOut)).dropFan fan.toNat)).allocate
    | none => .refuse s .badArgument
  | _ => .refuse s .badArgument

/-- A fan in a state enters STOPPING with a full coast; in any other state the command is refused (R45, R46). -/
def returnFan (from_ : FanState) (args : List Byte) (s : State) : Executed :=
  match args with
  | [fan] =>
    match s.vent.fan? fan.toNat with
    | some f =>
      if f.state = from_ then
        .did (s.setVent (s.vent.mapFan fan.toNat (fun x => x.toStopping s.settings))).allocate
      else .refuse s .refusedState
    | none => .refuse s .badArgument
  | _ => .refuse s .badArgument

/-- UNLOCK FAN (R45). -/
def unlockFan (args : List Byte) (s : State) : Executed := returnFan .lockedOut args s

/-- CLEAR FAN FAULT (R46). -/
def clearFanFault (args : List Byte) (s : State) : Executed := returnFan .fault args s

/-- RESERVE BAY (R58). -/
def reserveBay (args : List Byte) (s : State) : Executed :=
  match args with
  | [bay, minutes] =>
    match s.bays.bay? bay.toNat with
    | some b =>
      if 240 < minutes.toNat then .refuse s .badArgument
      else if b.state = .free ∨ b.state = .reserved then
        .did (s.changeBay bay.toNat (fun x =>
          { x with state := .reserved, reservation := some (limitOfMinutes minutes.toNat) }))
      else .refuse s .refusedState
    | none => .refuse s .badArgument
  | _ => .refuse s .badArgument

/-- RELEASE BAY (R59). -/
def releaseBay (args : List Byte) (s : State) : Executed :=
  match args with
  | [bay] =>
    match s.bays.bay? bay.toNat with
    | some b =>
      if b.state = .reserved then .did (s.changeBay bay.toNat (fun x => x.enter .free))
      else .refuse s .refusedState
    | none => .refuse s .badArgument
  | _ => .refuse s .badArgument

/-- A bay's record as it goes out of service (R57). -/
def Bay.goOut (b : Bay) : Bay :=
  { b.enter .outOfService with onCount := 0, offCount := 0, faultCount := 0 }

/-- A bay returned to service; one already in service is unchanged (R57). -/
def Bay.comeIn (b : Bay) : Bay :=
  if b.state = .outOfService then { b.enter .unknown with onCount := 0, offCount := 0, faultCount := 0 } else b

/-- A bay is taken out of service; a read of it in progress will have its answer discarded (R51, R57). -/
def State.bayGoesOut (s : State) (n : Nat) : State :=
  (s.setBays (s.bays.discardRead n)).changeBay n Bay.goOut

/-- SET BAY SERVICE: 0 out, 1 in (R57). -/
def setBayService (args : List Byte) (s : State) : Executed :=
  match args with
  | [bay, word] =>
    if word = 0#8 ∨ word = 1#8 then
      match s.bays.bay? bay.toNat with
      | some _ => .did (if word = 0#8 then s.bayGoesOut bay.toNat else s.changeBay bay.toNat Bay.comeIn)
      | none => .refuse s .badArgument
    else .refuse s .badArgument
  | _ => .refuse s .badArgument

/-- CLOSE ZONE (R92). -/
def closeZone (args : List Byte) (s : State) : Executed :=
  match args with
  | [] => .did ((s.setGuide { s.guide with serviceClose := true }).guidanceTold false false)
  | _ => .refuse s .badArgument

/-- OPEN ZONE (R92). -/
def openZone (args : List Byte) (s : State) : Executed :=
  match args with
  | [] => .did ((s.setGuide { s.guide with serviceClose := false }).guidanceTold false false)
  | _ => .refuse s .badArgument

/-- The channels an argument names: one, or all for 0 (R124, R125, R162). -/
def Lighting.mapNamed (l : Lighting) (channel : Nat) (f : Channel → Channel) : Lighting :=
  if channel = 0 then { l with channels := l.channels.map f } else l.mapChannel channel f

/-- SET LIGHT OVERRIDE (R124). -/
def setLightOverride (args : List Byte) (s : State) : Executed :=
  match args with
  | [channel, level, minutes] =>
    if channel.toNat ≤ 8 ∧ level.toNat ≤ 100 ∧ minutes.toNat ≤ 240 then
      .did (s.setLight (s.light.mapNamed channel.toNat (fun c =>
        c.setOverride { level := level.toNat, limit := limitOfMinutes minutes.toNat })))
    else .refuse s .badArgument
  | _ => .refuse s .badArgument

/-- CLEAR LIGHT OVERRIDE (R125). -/
def clearLightOverride (args : List Byte) (s : State) : Executed :=
  match args with
  | [channel] =>
    if channel.toNat ≤ 8 then .did (s.setLight (s.light.mapNamed channel.toNat Channel.endOverride))
    else .refuse s .badArgument
  | _ => .refuse s .badArgument

/-- RESTART passes its checks with no argument; when it is taken is R165's, in `serviceCommand`. -/
def restartCommand (args : List Byte) (s : State) : Executed :=
  match args with
  | [] => .did s
  | _ => .refuse s .badArgument

/-- The code of RESTART. -/
def restartCode : Byte := 0x7F#8

/-- A command checked and executed: the code is looked up in the table of R141 first (R162). -/
def executeCommand (code : Byte) (args : List Byte) (s : State) : Executed :=
  match code.toNat with
  | 0x01 => queryZone args s
  | 0x02 => queryBays args s
  | 0x03 => queryPeers args s
  | 0x04 => queryCounters args s
  | 0x10 => setFanOverride args s
  | 0x11 => clearFanOverride args s
  | 0x12 => lockOutFan args s
  | 0x13 => unlockFan args s
  | 0x14 => clearFanFault args s
  | 0x20 => reserveBay args s
  | 0x21 => releaseBay args s
  | 0x22 => setBayService args s
  | 0x30 => closeZone args s
  | 0x31 => openZone args s
  | 0x40 => setLightOverride args s
  | 0x41 => clearLightOverride args s
  | 0x7F => restartCommand args s
  | _ => .refuse s .unknownCommand

/-! ### Taking a command -/

/-- A RESTART that passed its checks. -/
def Executed.restarts (e : Executed) (code : Byte) : Bool := decide (code = restartCode) && decide (e.result = .done)

/-- The payload of a REPORT: the code as received, the result, and for a query that is DONE its body (R142, R163). -/
def Executed.payload (e : Executed) (code : Byte) : List Byte := code :: e.result.byte :: e.body

/-- The command is answered: its destination is the own address and its source an address 1..62 (R161). -/
def State.answers (s : State) (source destination : Byte) : Bool :=
  decide (destination.toNat = s.settings.ownAddress) && decide (1 ≤ source.toNat) && decide (source.toNat ≤ 62)

/-- A COMMAND handed to the command handling (R148, R160, R161, R163, R165). -/
def State.serviceCommand (s : State) (source destination code : Byte) (args : List Byte) : State :=
  if s.working then
    if s.bus.restartPending ∧ ¬(code = restartCode ∧ destination = 63#8) then s.count .serviceOverrun
    else if s.answers source destination then
      if 4 ≤ s.bus.queues.report.length then s.count .serviceOverrun
      else
        let e := executeCommand code args s
        let queued := e.state.join .report (.report source (e.payload code) (e.restarts code))
        if e.restarts code then queued.setBus { queued.bus with restartPending := true } else queued
    else
      let e := executeCommand code args s
      if e.restarts code then e.state.restartTaken else e.state
  else if s.station = .fallback ∧ destination = 63#8 ∧ code = restartCode ∧ args = [] then s.restartTaken
  else s

/-! ### Frames, whole -/

/-- The station is not sending, so what its receiver takes can be a frame of another party (R138). -/
def State.hears (s : State) : Bool :=
  s.receiving &&
    (match s.bus.transmitter with
      | .sending _ _ => false
      | _ => true)

/-- A frame has ended at the assembler: it is in AWAIT_IDLE, and the line has just been busy (R131, R132). -/
def State.frameEnded (s : State) : State :=
  let busy := s.lineBusy
  busy.setBus { busy.bus with receiver := .hunting, assembler := .awaitIdle }

/-- The frame is accepted: counted in RX_GOOD, the assembler already in AWAIT_IDLE (R136, R137). -/
def State.frameAccepted (s : State) : State := s.frameEnded.count .rxGood

/-- The address filter turns a frame away: a REPORT, or a COMMAND whose destination is neither the own address nor 63;
in FALLBACK a COMMAND passes only to 63 (R135). -/
def State.filterRejects (s : State) (kind destination : Byte) : Bool :=
  decide (kind = 5#8) ||
    (decide (kind = 4#8) && decide (destination ≠ 63#8) &&
      (decide (s.station = .fallback) || decide (destination.toNat ≠ s.settings.ownAddress)))

/-- The assembler can take a frame: the station is not sending, and an idle event has come since the last frame or
attempt, so that the assembler is not in AWAIT_IDLE (R132, R138). -/
def State.takesFrames (s : State) : Bool := s.hears && decide (s.bus.assembler ≠ .awaitIdle)

/-- The characters of a frame pass over an assembler that discards them: the line has been busy, and nothing more
(R131, R132, R138). -/
def State.frameDiscarded (s : State) : State :=
  if s.receiving then
    let busy := s.lineBusy
    busy.setBus { busy.bus with receiver := .hunting }
  else s

/-- A frame, or the part of one, that a command stands for: taken, or discarded (R132, R138; log 16). -/
def State.onFrame (s taken : State) : State := if s.takesFrames then taken else s.frameDiscarded

/-- A COMMAND frame whose content is known, taken as the receiving side takes it: filter, length, acceptance, command
handling (R133, R135, R136, R137). -/
def State.commandFrame (s : State) (source destination code : Byte) (args : List Byte) : State :=
  s.onFrame
    (if s.filterRejects 4#8 destination then s.frameEnded.count .rxForeign
    else if 47 < args.length then s.frameEnded.count .rxLength
    else s.frameAccepted.serviceCommand source destination code args)

/-! ### Commands -/

/-- QUERY_ZONE (R166). -/
def execQueryZone (source destination : Byte) (args : List Byte) (s : State) : Host.Outcome State Fault Refusal :=
  .next (s.commandFrame source destination 0x01#8 args)

/-- QUERY_BAYS (R167). -/
def execQueryBays (source destination : Byte) (args : List Byte) (s : State) : Host.Outcome State Fault Refusal :=
  .next (s.commandFrame source destination 0x02#8 args)

/-- QUERY_PEERS (R168). -/
def execQueryPeers (source destination : Byte) (args : List Byte) (s : State) : Host.Outcome State Fault Refusal :=
  .next (s.commandFrame source destination 0x03#8 args)

/-- QUERY_COUNTERS (R170). -/
def execQueryCounters (source destination : Byte) (args : List Byte) (s : State) :
    Host.Outcome State Fault Refusal :=
  .next (s.commandFrame source destination 0x04#8 args)

/-- SET_FAN_OVERRIDE (R29). -/
def execSetFanOverride (source destination : Byte) (args : List Byte) (s : State) :
    Host.Outcome State Fault Refusal :=
  .next (s.commandFrame source destination 0x10#8 args)

/-- CLEAR_FAN_OVERRIDE (R30). -/
def execClearFanOverride (source destination : Byte) (args : List Byte) (s : State) :
    Host.Outcome State Fault Refusal :=
  .next (s.commandFrame source destination 0x11#8 args)

/-- LOCK_OUT_FAN (R44). -/
def execLockOutFan (source destination : Byte) (args : List Byte) (s : State) : Host.Outcome State Fault Refusal :=
  .next (s.commandFrame source destination 0x12#8 args)

/-- UNLOCK_FAN (R45). -/
def execUnlockFan (source destination : Byte) (args : List Byte) (s : State) : Host.Outcome State Fault Refusal :=
  .next (s.commandFrame source destination 0x13#8 args)

/-- CLEAR_FAN_FAULT (R46). -/
def execClearFanFault (source destination : Byte) (args : List Byte) (s : State) :
    Host.Outcome State Fault Refusal :=
  .next (s.commandFrame source destination 0x14#8 args)

/-- RESERVE_BAY (R58). -/
def execReserveBay (source destination : Byte) (args : List Byte) (s : State) : Host.Outcome State Fault Refusal :=
  .next (s.commandFrame source destination 0x20#8 args)

/-- RELEASE_BAY (R59). -/
def execReleaseBay (source destination : Byte) (args : List Byte) (s : State) : Host.Outcome State Fault Refusal :=
  .next (s.commandFrame source destination 0x21#8 args)

/-- SET_BAY_SERVICE (R57). -/
def execSetBayService (source destination : Byte) (args : List Byte) (s : State) :
    Host.Outcome State Fault Refusal :=
  .next (s.commandFrame source destination 0x22#8 args)

/-- CLOSE_ZONE (R92). -/
def execCloseZone (source destination : Byte) (args : List Byte) (s : State) : Host.Outcome State Fault Refusal :=
  .next (s.commandFrame source destination 0x30#8 args)

/-- OPEN_ZONE (R92). -/
def execOpenZone (source destination : Byte) (args : List Byte) (s : State) : Host.Outcome State Fault Refusal :=
  .next (s.commandFrame source destination 0x31#8 args)

/-- SET_LIGHT_OVERRIDE (R124). -/
def execSetLightOverride (source destination : Byte) (args : List Byte) (s : State) :
    Host.Outcome State Fault Refusal :=
  .next (s.commandFrame source destination 0x40#8 args)

/-- CLEAR_LIGHT_OVERRIDE (R125). -/
def execClearLightOverride (source destination : Byte) (args : List Byte) (s : State) :
    Host.Outcome State Fault Refusal :=
  .next (s.commandFrame source destination 0x41#8 args)

/-- RESTART (R165). -/
def execRestart (source destination : Byte) (args : List Byte) (s : State) : Host.Outcome State Fault Refusal :=
  .next (s.commandFrame source destination restartCode args)

/-- UNKNOWN_COMMAND: a COMMAND whose code is not in the table (R162). -/
def execUnknownCommand (source destination code : Byte) (args : List Byte) (s : State) :
    Host.Outcome State Fault Refusal :=
  .next (s.commandFrame source destination code args)

end Sys2Proof.Machine
end

