-- ==== Sys2Proof/Machine/Receive.lean ====
section
/-! DEFINITION. The receiving side: characters, the frame assembler, the address filter, the check of a complete frame,
bulletins (R130..R138). -/

namespace Sys2Proof.Machine

/-! ### Handing a frame on -/

/-- An accepted bulletin is handed to the Peer Table in LISTENING and NORMAL, and in FALLBACK to no block (R137). -/
def State.bulletinAccepted (s : State) (source : Byte) (b : Bulletin) : State :=
  if s.working then s.frameAccepted.takeBulletin source b else s.frameAccepted

/-- A complete frame whose CRC agrees: the kind, then the length for the kind, then acceptance (R136, R137). -/
def State.checkedFrame (s : State) (kind source destination : Byte) (payload : List Byte) : State :=
  match kind.toNat with
  | 1 =>
    match statusOfBytes payload with
    | some p => s.bulletinAccepted source (.status p)
    | none => s.frameEnded.count .rxLength
  | 2 =>
    match alertOfBytes payload with
    | some p => s.bulletinAccepted source (.alert p)
    | none => s.frameEnded.count .rxLength
  | 3 =>
    match payload with
    | [named] => s.bulletinAccepted source (.passage named)
    | _ => s.frameEnded.count .rxLength
  | 4 =>
    match payload with
    | code :: args => s.frameAccepted.serviceCommand source destination code args
    | [] => s.frameEnded.count .rxLength
  | 5 => s.frameAccepted
  | _ => s.frameEnded.count .rxForeign

/-- The bytes after the marker once one more has been taken: the filter at the destination, the limit at the length
byte, the check at the second CRC byte (R133, R135, R136). -/
def State.takeByte (s : State) (taken : List Byte) : State :=
  match taken with
  | kind :: source :: destination :: rest =>
    match rest with
    | [] =>
      if s.filterRejects kind destination then s.frameEnded.count .rxForeign
      else s.setBus { s.bus with assembler := .inFrame taken }
    | length :: tail =>
      if 48 < length.toNat then s.frameEnded.count .rxLength
      else if tail.length < length.toNat + 2 then s.setBus { s.bus with assembler := .inFrame taken }
      else
        let payload := tail.take length.toNat
        let check := tail.drop length.toNat
        if crc16 (kind :: source :: destination :: length :: payload) = halfFrom (check.getD 0 0#8) (check.getD 1 0#8)
        then s.checkedFrame kind source destination payload
        else s.frameEnded.count .rxCrc
  | _ => s.setBus { s.bus with assembler := .inFrame taken }

/-! ### Commands -/

/-- START_OF_CHARACTER: a SPACE sample after a MARK sample starts a character, sets the idle count to 0 and ends the
idle state of the line (R130, R131, R153). -/
def execStartOfCharacter (s : State) : Host.Outcome State Fault Refusal :=
  if s.receiving then
    let busy := s.lineBusy
    .next (busy.setBus { busy.bus with receiver := .receiving })
  else .next s

/-- GOOD_CHARACTER: a character with the verdict good is handed to the frame assembler (R130, R132, R133). While the
station sends, its own characters are discarded (R138). -/
def execGoodCharacter (b : Byte) (s : State) : Host.Outcome State Fault Refusal :=
  if s.receiving then
    let busy := s.lineBusy
    let ready := busy.setBus { busy.bus with receiver := .hunting }
    if s.hears then
      match s.bus.assembler with
      | .awaitIdle => .next ready
      | .awaitMarker =>
        .next (ready.setBus { ready.bus with assembler := if b = 0xC5#8 then .inFrame [] else .awaitIdle })
      | .inFrame taken => .next (ready.takeByte (taken ++ [b]))
    else .next ready
  else .next s

/-- The counter of a bad character (R132). -/
def CharError.counter : CharError → CounterName
  | .parity => .rxParity
  | .framing => .rxFraming

/-- BAD_CHARACTER: a character with a parity or framing error ends a marker wait or a frame and is counted; in
AWAIT_IDLE it is discarded. After a framing error the receiver waits for MARK (R130, R132). -/
def execBadCharacter (e : CharError) (s : State) : Host.Outcome State Fault Refusal :=
  if s.receiving then
    let busy := s.lineBusy
    let after := busy.setBus { busy.bus with
      receiver := if e = .framing then .awaitingMark else .hunting, assembler := .awaitIdle }
    if s.hears then
      match s.bus.assembler with
      | .awaitIdle => .next after
      | .awaitMarker => .next (after.count (CharError.counter e))
      | .inFrame _ => .next (after.count (CharError.counter e))
    else .next after
  else .next s

/-- IDLE_EVENT: the idle count passes 352 samples. The assembler goes to AWAIT_MARKER, counting a frame cut short in
RX_LENGTH; the transmitter leaves WAITING_IDLE or BACKOFF by a selection. While the station sends, nothing changes
but the count (R131, R132, R138, R153, R156). -/
def execIdleEvent (s : State) : Host.Outcome State Fault Refusal :=
  if s.hears then
    let idle := s.setBus { s.bus with idleCount := 353, receiver := .hunting, assembler := .awaitMarker }
    let counted := match s.bus.assembler with
      | .inFrame _ => idle.count .rxLength
      | _ => idle
    match s.bus.transmitter with
    | .waitingIdle => .next counted.enterGap
    | .backoff => .next counted.enterGap
    | _ => .next counted
  else .next s

/-- ADDRESS_FILTER_REJECT: at the destination byte a REPORT, or a COMMAND for another station, is counted in
RX_FOREIGN and discarded; a frame that passes the filter is not touched (R135). -/
def execAddressFilterReject (kind destination : Byte) (s : State) : Host.Outcome State Fault Refusal :=
  .next (s.onFrame (if s.filterRejects kind destination then s.frameEnded.count .rxForeign else s))

/-- LENGTH_BYTE_REJECT: a length byte above 48 is counted in RX_LENGTH and the rest of the frame is discarded; a frame
of another length is not touched (R133). -/
def execLengthByteReject (length : Byte) (s : State) : Host.Outcome State Fault Refusal :=
  .next (s.onFrame (if 48 < length.toNat then s.frameEnded.count .rxLength else s))

/-- A length that suits a kind (R136). -/
def lengthSuits (kind : Byte) (length : Nat) : Bool :=
  match kind.toNat with
  | 1 => decide (length = 19)
  | 2 => decide (length = 4)
  | 3 => decide (length = 1)
  | 4 => decide (1 ≤ length)
  | _ => true

/-- FRAME_CHECK_FAIL: a complete frame fails its CRC, kind or length check, tried in that order; one that fails none
is not such a frame (R136). -/
def execFrameCheckFail (kind length : Byte) (crcGood : Bool) (s : State) : Host.Outcome State Fault Refusal :=
  .next (s.onFrame
    (if crcGood = false then s.frameEnded.count .rxCrc
    else if kind.toNat = 0 ∨ 5 < kind.toNat then s.frameEnded.count .rxForeign
    else if lengthSuits kind length.toNat = false then s.frameEnded.count .rxLength
    else s))

/-- STATUS_RECEIVED: an accepted STATUS of another station (R75..R79, R136, R137). -/
def execStatusReceived (source : Byte) (content : StatusPayload) (s : State) : Host.Outcome State Fault Refusal :=
  .next (s.onFrame (s.bulletinAccepted source (.status content)))

/-- ALERT_RECEIVED: an accepted ALERT (R75..R79, R136, R137). -/
def execAlertReceived (source : Byte) (content : AlertPayload) (s : State) : Host.Outcome State Fault Refusal :=
  .next (s.onFrame (s.bulletinAccepted source (.alert content)))

/-- PASSAGE_RECEIVED: an accepted PASSAGE (R75..R80, R136, R137). -/
def execPassageReceived (source named : Byte) (s : State) : Host.Outcome State Fault Refusal :=
  .next (s.onFrame (s.bulletinAccepted source (.passage named)))

end Sys2Proof.Machine
end

