-- ==== Sys2Proof/Machine/Clock.lean ====
section
/-! DEFINITION. The block's own clock, which `step` runs when no command waits: one millisecond of every timer, and the
commands whose timers have run out (log 1). Times below a millisecond are not counted here (log 10). -/

namespace Sys2Proof.Machine

/-! ### One millisecond -/

/-- One millisecond of a timer; it stays at 0 until its expiry is taken. -/
def Timer.tick (t : Timer) : Timer := t.map (· - 1)

/-- One millisecond of a limit; the mark "until ended" stands. -/
def TimeLimit.tick : TimeLimit → TimeLimit
  | .untilEnded => .untilEnded
  | .remaining ms => .remaining (ms - 1)

/-- One millisecond of a 60 ms filter: how long the line has stood at the value not yet shown (R28, R35, R63, R116). -/
def FilteredInput.tick (i : FilteredInput) : FilteredInput :=
  if i.line = i.filtered then { i with steadyMs := 0 } else { i with steadyMs := saturatingSucc 60 i.steadyMs }

/-- The filter has seen its line at the new value for 60 ms. -/
def FilteredInput.changes (i : FilteredInput) : Bool := i.line != i.filtered && decide (60 ≤ i.steadyMs)

/-- The purge and run-confirm filters run from the end of any reset; those of loops and motion inputs in LISTENING and
NORMAL (R28, R35, R63, R116). -/
def Inputs.tick (i : Inputs) (working : Bool) : Inputs :=
  let always := { i with purge := i.purge.tick, runConfirm := i.runConfirm.map FilteredInput.tick }
  if working then
    { always with
      outerLoops := i.outerLoops.map FilteredInput.tick
      innerLoops := i.innerLoops.map FilteredInput.tick
      motion := i.motion.map FilteredInput.tick }
  else always

/-- One millisecond of the Air Monitor's timers. -/
def AirMonitor.tick (a : AirMonitor) : AirMonitor :=
  { a with roundTimer := a.roundTimer.tick, poll := a.poll.map (fun p => { p with window := p.window - 1 }) }

/-- One millisecond of a fan's timers. -/
def Fan.tick (f : Fan) : Fan :=
  { f with confirm := f.confirm.tick, fallbackStart := f.fallbackStart.tick, loss := f.loss.tick
           coast := f.coast.tick }

/-- One millisecond of the Ventilation Controller's timers. -/
def Ventilation.tick (v : Ventilation) : Ventilation :=
  { v with fans := v.fans.map Fan.tick
           override := v.override.map (fun o => { o with limit := o.limit.tick }) }

/-- One millisecond of the Bay Monitor's timers. -/
def BayMonitor.tick (b : BayMonitor) : BayMonitor :=
  { b with
    bays := b.bays.map (fun x => { x with reservation := x.reservation.map TimeLimit.tick })
    scanTimer := b.scanTimer.tick
    reading := b.reading.map (fun r => { r with window := r.window - 1 })
    gates := b.gates.map (fun g => { g with timer := g.timer.tick })
    ringTimer := b.ringTimer.tick }

/-- One millisecond of the Guidance Unit's timers. -/
def Guidance.tick (g : Guidance) : Guidance :=
  { g with
    signs := g.signs.map (fun x => { x with refresh := x.refresh.tick })
    exchange := g.exchange.map (fun e => { e with window := e.window - 1 })
    fallbackTimer := g.fallbackTimer.tick }

/-- One millisecond of a channel's timers. -/
def Channel.tick (c : Channel) : Channel :=
  { c with hold := c.hold.tick, dim := c.dim.tick
           override := c.override.map (fun o => { o with limit := o.limit.tick }) }

/-- One millisecond of the Lighting Controller's timers. -/
def Lighting.tick (l : Lighting) : Lighting :=
  { l with channels := l.channels.map Channel.tick, repeatTimers := l.repeatTimers.map Timer.tick }

/-- One millisecond of the Bus Interface's timers. -/
def BusInterface.tick (b : BusInterface) : BusInterface :=
  { b with periodTimer := b.periodTimer.tick, spacingTimer := b.spacingTimer.tick }

/-- One millisecond of the Start-up Unit's timers outside a reset. -/
def StartUp.tick (u : StartUp) : StartUp :=
  { u with readTimer := u.readTimer.tick, listeningTimer := u.listeningTimer.tick }

/-- One millisecond of the block. While the part is held in reset, only the power-on hold counts (R172). -/
def State.tick (s : State) : State :=
  if s.station = .heldInReset then
    s.setStartup { s.startup with powerOnTimer := s.startup.powerOnTimer.tick }
  else
    { s with
      startup := s.startup.tick, inputs := s.inputs.tick s.working, air := s.air.tick, vent := s.vent.tick
      bays := s.bays.tick, peers := { s.peers with sweepTimer := s.peers.sweepTimer.tick }
      guide := s.guide.tick, light := s.light.tick, bus := s.bus.tick }

/-! ### What has become due -/

/-- The command once, if it is due. -/
def whenDue (due : Bool) (c : Instr) : List Instr := if due then [c] else []

/-- The timer has run out. -/
def Timer.out (t : Timer) : Bool := decide (t = some 0)

/-- The limit has run out; "until ended" never does. -/
def TimeLimit.out (t : TimeLimit) : Bool := decide (t = .remaining 0)

/-- The changes of a list of inputs whose numbers begin at 1. -/
def filterChanges (inputs : List FilteredInput) (command : Nat → Bool → Instr) : List Instr :=
  (inputs.zipIdx.filter (fun p => p.1.changes)).map (fun p => command (p.2 + 1) p.1.line)

/-- The loop changes due, of configured gates only (R63). -/
def State.loopChanges (s : State) (inputs : List FilteredInput) (loop : Loop) : List Instr :=
  ((inputs.zipIdx.filter (fun p => p.1.changes && (s.bays.gate? (p.2 + 1)).isSome)).map
    (fun p => Instr.loopChange (p.2 + 1) loop p.1.line))

/-- The expiries of the Start-up Unit (R172, R173, R177); no two can be due at once. -/
def State.startupDue (s : State) : List Instr :=
  whenDue (decide (s.station = .heldInReset) && s.startup.powerOnTimer.out && !s.startup.resetLineLow &&
      s.startup.supplyInRange) .resetEnd ++
    whenDue (decide (s.station = .starting) && s.startup.readTimer.out) .settingsReadTimeout ++
    whenDue (decide (s.station = .listening) && s.startup.listeningTimer.out) .listeningTimerExpiry

/-- The filtered changes due (R28, R35, R63, R116), in the order purge, run confirm, OUTER loops, INNER loops, motion,
each by number. DESIGN CHOICE (log 18): where both loops of a gate change at one millisecond, R65 lets the two changes be
taken in either order, and this clock takes OUTER first: both on from CLEAR is then a crossing IN, and both off from
SPANNING_IN a passage IN, from SPANNING_OUT none. The commands themselves may be sent in either order. -/
def State.filtersDue (s : State) : List Instr :=
  (if s.station = .heldInReset then []
   else
     whenDue s.inputs.purge.changes (.purgeFilterChange s.inputs.purge.line) ++
       filterChanges s.inputs.runConfirm (fun n on => if on then .runConfirmActive n else .runConfirmLost n)) ++
    (if s.working then
      s.loopChanges s.inputs.outerLoops .outer ++ s.loopChanges s.inputs.innerLoops .inner ++
        filterChanges s.inputs.motion .motionChange
     else [])

/-- The fan expiries due (R41, R42, R43), fan by fan in number order (DESIGN CHOICE, log 18). -/
def State.fansDue (s : State) : List Instr :=
  s.vent.fans.flatMap (fun f =>
    whenDue (s.working && decide (f.state = .starting) && f.confirm.out) (.confirmTimerExpiry f.number) ++
      whenDue (decide (s.station = .fallback) && decide (f.state = .starting) && f.fallbackStart.out)
        (.fallbackStartTimerExpiry f.number) ++
      whenDue (s.working && decide (f.state = .running) && f.loss.out) (.lossTimerExpiry f.number) ++
      whenDue (s.receiving && decide (f.state = .stopping) && f.coast.out) (.coastTimerExpiry f.number))

/-- An air sample that is due is due at once, before any timer (R2, R17; log 13). -/
def State.roundEndDue (s : State) : List Instr := whenDue (s.working && s.air.expiring) .alarmHoldTimerExpiry

/-- The expiries of the Air Monitor and the fan override (R2, R30), in this order (DESIGN CHOICE, log 18). -/
def State.airDue (s : State) : List Instr :=
  whenDue (s.working && s.air.roundTimer.out) .pollRoundStart ++
    whenDue (s.working && s.air.poll.any (fun p => decide (p.window = 0))) .headAnswerWindowExpiry ++
    whenDue (s.working && s.vent.override.any (fun o => o.limit.out)) .fanOverrideExpiry

/-- The expiries of the Bay Monitor and the sweep (R51, R60, R66, R69, R81): scan, read, reservations and gate timers by
number, ring, sweep, in this order (DESIGN CHOICE, log 18). -/
def State.baysDue (s : State) : List Instr :=
  if s.working then
    whenDue s.bays.scanTimer.out .bayScanStart ++
      whenDue (s.bays.reading.any (fun r => decide (r.window = 0))) .bayReadNoAnswer ++
      s.bays.bays.flatMap (fun b =>
        whenDue (decide (b.state = .reserved) && b.reservation.any TimeLimit.out)
          (.reservationExpiry b.settings.number)) ++
      s.bays.gates.flatMap (fun g => whenDue g.timer.out (.gateTimerExpiry g.settings.number)) ++
      whenDue s.bays.ringTimer.out .trafficRingRotation ++ whenDue s.peers.sweepTimer.out .sweep
  else []

/-- What the sign link calls for: refreshes, the next exchange when the link is free, the answer window, and the 5 s
of FALLBACK (R106, R107, R112), in this order (DESIGN CHOICE, log 18). -/
def State.signsDue (s : State) : List Instr :=
  (if s.working then
    s.guide.signs.flatMap (fun g => whenDue g.refresh.out (.signRefreshTimerExpiry g.settings.number)) ++
      whenDue (s.guide.exchange.isNone && s.guide.nextDue.isSome) .signExchangeStart
   else []) ++
    whenDue (s.guide.exchange.any (fun e => decide (e.window = 0))) .signAnswerWindowExpiry ++
    whenDue (decide (s.station = .fallback) && s.guide.fallbackTimer.out) .fallbackSignTimerExpiry

/-- The expiries of the Lighting Controller (R116, R119, R121, R125): the motion repeats by number, then channel by channel
hold, dim and override (DESIGN CHOICE, log 18). -/
def State.lightDue (s : State) : List Instr :=
  if s.working then
    [1, 2, 3, 4].flatMap (fun n =>
      whenDue (filteredAt s.inputs.motion n && (s.light.repeatTimers.getD (n - 1) none).out)
        (.motionRepeatTimerExpiry n)) ++
      s.light.channels.flatMap (fun c =>
        whenDue (decide (c.state = .active) && c.hold.out) (.channelHoldTimerExpiry c.number) ++
          whenDue (decide (c.state = .dimming) && c.dim.out) (.dimTimerExpiry c.number) ++
          whenDue (c.override.any (fun o => o.limit.out)) (.lightOverrideExpiry c.number))
  else []

/-- The timers of STATUS (R149, R150), the period before the spacing (DESIGN CHOICE, log 18). -/
def State.statusDue (s : State) : List Instr :=
  if s.working then
    whenDue s.bus.periodTimer.out .statusPeriodTimerExpiry ++ whenDue s.bus.spacingTimer.out .spacingTimerExpiry
  else []

/-- The commands due, in the order the clock takes them (DESIGN CHOICE: the spec gives no order to expiries that meet;
log 18). -/
def State.dueCommands (s : State) : List Instr :=
  s.roundEndDue ++ s.startupDue ++ s.filtersDue ++ s.airDue ++ s.fansDue ++ s.baysDue ++ s.signsDue ++ s.lightDue ++
    s.statusDue

end Sys2Proof.Machine
end

