-- ==== Sys2Proof/Machine/Dispatch.lean ====
section
/-! DEFINITION. One arm per command: each is one call of its meaning. -/

namespace Sys2Proof.Machine

/-- The effect of a command on everything but the queue. -/
def exec (i : Instr) (s : State) : Host.Outcome State Fault Refusal :=
  match i with
  | .powerOnReset => Sys2Proof.Machine.execPowerOnReset s
  | .lineReset => Sys2Proof.Machine.execLineReset s
  | .resetEnd => Sys2Proof.Machine.execResetEnd s
  | .settingsReadComplete record => Sys2Proof.Machine.execSettingsReadComplete record s
  | .settingsReadTimeout => Sys2Proof.Machine.execSettingsReadTimeout s
  | .listeningTimerExpiry => Sys2Proof.Machine.execListeningTimerExpiry s
  | .pollRoundStart => Sys2Proof.Machine.execPollRoundStart s
  | .headAnswer head status raw => Sys2Proof.Machine.execHeadAnswer head status raw s
  | .headAnswerWindowExpiry => Sys2Proof.Machine.execHeadAnswerWindowExpiry s
  | .alarmHoldTimerExpiry => Sys2Proof.Machine.execAlarmHoldTimerExpiry s
  | .purgeFilterChange asserted => Sys2Proof.Machine.execPurgeFilterChange asserted s
  | .runConfirmActive fan => Sys2Proof.Machine.execRunConfirmActive fan s
  | .runConfirmLost fan => Sys2Proof.Machine.execRunConfirmLost fan s
  | .confirmTimerExpiry fan => Sys2Proof.Machine.execConfirmTimerExpiry fan s
  | .fallbackStartTimerExpiry fan => Sys2Proof.Machine.execFallbackStartTimerExpiry fan s
  | .lossTimerExpiry fan => Sys2Proof.Machine.execLossTimerExpiry fan s
  | .coastTimerExpiry fan => Sys2Proof.Machine.execCoastTimerExpiry fan s
  | .fanOverrideExpiry => Sys2Proof.Machine.execFanOverrideExpiry s
  | .setFanOverride source destination args => Sys2Proof.Machine.execSetFanOverride source destination args s
  | .clearFanOverride source destination args => Sys2Proof.Machine.execClearFanOverride source destination args s
  | .lockOutFan source destination args => Sys2Proof.Machine.execLockOutFan source destination args s
  | .unlockFan source destination args => Sys2Proof.Machine.execUnlockFan source destination args s
  | .clearFanFault source destination args => Sys2Proof.Machine.execClearFanFault source destination args s
  | .bayScanStart => Sys2Proof.Machine.execBayScanStart s
  | .bayAnswer bay answer => Sys2Proof.Machine.execBayAnswer bay answer s
  | .bayReadNoAnswer => Sys2Proof.Machine.execBayReadNoAnswer s
  | .setBayService source destination args => Sys2Proof.Machine.execSetBayService source destination args s
  | .reserveBay source destination args => Sys2Proof.Machine.execReserveBay source destination args s
  | .releaseBay source destination args => Sys2Proof.Machine.execReleaseBay source destination args s
  | .reservationExpiry bay => Sys2Proof.Machine.execReservationExpiry bay s
  | .loopChange gate loop on => Sys2Proof.Machine.execLoopChange gate loop on s
  | .gateTimerExpiry gate => Sys2Proof.Machine.execGateTimerExpiry gate s
  | .trafficRingRotation => Sys2Proof.Machine.execTrafficRingRotation s
  | .statusReceived source content => Sys2Proof.Machine.execStatusReceived source content s
  | .alertReceived source content => Sys2Proof.Machine.execAlertReceived source content s
  | .passageReceived source named => Sys2Proof.Machine.execPassageReceived source named s
  | .sweep => Sys2Proof.Machine.execSweep s
  | .closeZone source destination args => Sys2Proof.Machine.execCloseZone source destination args s
  | .openZone source destination args => Sys2Proof.Machine.execOpenZone source destination args s
  | .signRefreshTimerExpiry sign => Sys2Proof.Machine.execSignRefreshTimerExpiry sign s
  | .signExchangeStart => Sys2Proof.Machine.execSignExchangeStart s
  | .signAnswer characters => Sys2Proof.Machine.execSignAnswer characters s
  | .signAnswerWindowExpiry => Sys2Proof.Machine.execSignAnswerWindowExpiry s
  | .fallbackSignTimerExpiry => Sys2Proof.Machine.execFallbackSignTimerExpiry s
  | .motionChange input active => Sys2Proof.Machine.execMotionChange input active s
  | .motionRepeatTimerExpiry input => Sys2Proof.Machine.execMotionRepeatTimerExpiry input s
  | .channelHoldTimerExpiry channel => Sys2Proof.Machine.execChannelHoldTimerExpiry channel s
  | .dimTimerExpiry channel => Sys2Proof.Machine.execDimTimerExpiry channel s
  | .setLightOverride source destination args => Sys2Proof.Machine.execSetLightOverride source destination args s
  | .clearLightOverride source destination args => Sys2Proof.Machine.execClearLightOverride source destination args s
  | .lightOverrideExpiry channel => Sys2Proof.Machine.execLightOverrideExpiry channel s
  | .idleEvent => Sys2Proof.Machine.execIdleEvent s
  | .badCharacter error => Sys2Proof.Machine.execBadCharacter error s
  | .addressFilterReject kind destination => Sys2Proof.Machine.execAddressFilterReject kind destination s
  | .lengthByteReject length => Sys2Proof.Machine.execLengthByteReject length s
  | .frameCheckFail kind length crcGood => Sys2Proof.Machine.execFrameCheckFail kind length crcGood s
  | .unknownCommand source destination code args => Sys2Proof.Machine.execUnknownCommand source destination code args s
  | .queryZone source destination args => Sys2Proof.Machine.execQueryZone source destination args s
  | .queryBays source destination args => Sys2Proof.Machine.execQueryBays source destination args s
  | .queryPeers source destination args => Sys2Proof.Machine.execQueryPeers source destination args s
  | .queryCounters source destination args => Sys2Proof.Machine.execQueryCounters source destination args s
  | .restart source destination args => Sys2Proof.Machine.execRestart source destination args s
  | .statusPeriodTimerExpiry => Sys2Proof.Machine.execStatusPeriodTimerExpiry s
  | .spacingTimerExpiry => Sys2Proof.Machine.execSpacingTimerExpiry s
  | .lineBusyInGap => Sys2Proof.Machine.execLineBusyInGap s
  | .gapCountedOut => Sys2Proof.Machine.execGapCountedOut s
  | .collision => Sys2Proof.Machine.execCollision s
  | .txComplete => Sys2Proof.Machine.execTxComplete s
  | .goodCharacter byte => Sys2Proof.Machine.execGoodCharacter byte s
  | .startOfCharacter => Sys2Proof.Machine.execStartOfCharacter s
  | .supplyFallsBelowRange => Sys2Proof.Machine.execSupplyFallsBelowRange s

end Sys2Proof.Machine
end

