-- ==== Sys2Proof/Machine/Idle.lean ====
section
/-! DEFINITION. What the block does with no command waiting. -/

namespace Sys2Proof.Machine

/-- The block with no command waiting: the first expiry that is due is taken, or one millisecond passes. DESIGN
CHOICE, log 1. -/
def State.idleStep (s : State) : Host.Outcome State Fault Refusal :=
  match s.dueCommands with
  | c :: _ => exec c s
  | [] => .next s.tick

end Sys2Proof.Machine
end

