-- ==== Sys2Proof/Machine/Frames.lean ====
section
/-! DEFINITION. The frame on the zone bus that each frame-level command stands for (R137, R139, R140, R141). -/

namespace Sys2Proof.Machine

/-- A bulletin's frame: destination 63 (R139, R140). -/
def bulletinFrame (kind source : Byte) (payload : List Byte) : List Byte := frameBytes kind source 63#8 payload

/-- A COMMAND's frame: the code, then the argument bytes (R141). -/
def commandBytes (source destination code : Byte) (args : List Byte) : List Byte :=
  frameBytes 4#8 source destination (code :: args)

/-- What the COMMAND frame of a service command carries. -/
structure CommandFrame where
  source : Byte
  destination : Byte
  code : Byte
  args : List Byte
  deriving DecidableEq, Repr

/-- The COMMAND frame a service command stands for, with its code of the table of R141; none for the other commands. -/
def commandOf : Instr → Option CommandFrame
  | .queryZone source destination args => some { source, destination, code := 0x01#8, args }
  | .queryBays source destination args => some { source, destination, code := 0x02#8, args }
  | .queryPeers source destination args => some { source, destination, code := 0x03#8, args }
  | .queryCounters source destination args => some { source, destination, code := 0x04#8, args }
  | .setFanOverride source destination args => some { source, destination, code := 0x10#8, args }
  | .clearFanOverride source destination args => some { source, destination, code := 0x11#8, args }
  | .lockOutFan source destination args => some { source, destination, code := 0x12#8, args }
  | .unlockFan source destination args => some { source, destination, code := 0x13#8, args }
  | .clearFanFault source destination args => some { source, destination, code := 0x14#8, args }
  | .reserveBay source destination args => some { source, destination, code := 0x20#8, args }
  | .releaseBay source destination args => some { source, destination, code := 0x21#8, args }
  | .setBayService source destination args => some { source, destination, code := 0x22#8, args }
  | .closeZone source destination args => some { source, destination, code := 0x30#8, args }
  | .openZone source destination args => some { source, destination, code := 0x31#8, args }
  | .setLightOverride source destination args => some { source, destination, code := 0x40#8, args }
  | .clearLightOverride source destination args => some { source, destination, code := 0x41#8, args }
  | .restart source destination args => some { source, destination, code := 0x7F#8, args }
  | .unknownCommand source destination code args => some { source, destination, code, args }
  | _ => none

/-- The bytes of the frame a command stands for; the commands that are no whole frame have none. -/
def frameOf (c : Instr) : Option (List Byte) :=
  match c with
  | .statusReceived source content => some (bulletinFrame 1#8 source (statusBytes content))
  | .alertReceived source content => some (bulletinFrame 2#8 source (alertBytes content))
  | .passageReceived source named => some (bulletinFrame 3#8 source [named])
  | _ => (commandOf c).map (fun f => commandBytes f.source f.destination f.code f.args)

end Sys2Proof.Machine
end

