-- ==== Sys2Proof/Safety.lean ====
section
/-! DEFINITION. What a sound state is, block by block, in the terms the statements use. Each predicate is meant to hold
of every state a run reaches and to be kept by every step. -/

namespace Sys2Proof.Machine

/-! ### Several commands in a row -/

/-- Commands taken one after another, each finished before the next is looked at; the first stop ends it. -/
def execAll : List Instr → State → Host.Outcome State Fault Refusal
  | [], s => .next s
  | c :: cs, s =>
    match exec c s with
    | .next t => execAll cs t
    | .fault f => .fault f
    | .refused r => .refused r

/-! ### What a command answers, and what it leaves alone -/

/-- The outcome is a next state, and that state has a property. -/
abbrev Answers (o : Host.Outcome State Fault Refusal) (p : State → Prop) : Prop := ∃ t, o = .next t ∧ p t

/-- The parts of State. -/
inductive Block where
  | station | settings | startup | inputs | air | vent | bays | peers | guide | light | bus | counters | pending
  deriving DecidableEq, Repr

/-- Every part of State. -/
def Block.all : List Block :=
  [.station, .settings, .startup, .inputs, .air, .vent, .bays, .peers, .guide, .light, .bus, .counters, .pending]

/-- Strictly ascending numbers. -/
abbrev Ascending (l : List Nat) : Prop := l.Pairwise (· < ·)

/-- The two states have this part in common. -/
def Block.same (s t : State) : Block → Bool
  | .station => decide (s.station = t.station)
  | .settings => decide (s.settings = t.settings)
  | .startup => decide (s.startup = t.startup)
  | .inputs => decide (s.inputs = t.inputs)
  | .air => decide (s.air = t.air)
  | .vent => decide (s.vent = t.vent)
  | .bays => decide (s.bays = t.bays)
  | .peers => decide (s.peers = t.peers)
  | .guide => decide (s.guide = t.guide)
  | .light => decide (s.light = t.light)
  | .bus => decide (s.bus = t.bus)
  | .counters => decide (s.counters = t.counters)
  | .pending => decide (s.pending = t.pending)

/-- From `s` to `t` no part but those listed has changed. -/
abbrev OnlyChanges (parts : List Block) (s t : State) : Prop :=
  ∀ b ∈ Block.all, b ∉ parts → b.same s t = true

/-- From `s` to `t` every block but the Start-up Unit and the counters has taken its values after reset; the lines of
the contact inputs stay where the outside holds them (R172, R179). -/
abbrev HoldsResetValues (s t : State) : Prop :=
  t.settings = .unread ∧ t.inputs = s.inputs.afterReset ∧ t.air = .afterReset ∧ t.vent = .afterReset ∧
    t.bays = .afterReset ∧ t.peers = .afterReset ∧ t.guide = .afterReset ∧ t.light = .afterReset ∧
    t.bus = .afterReset ∧ t.pending = s.pending

/-- A COMMAND from this source to this destination is taken, answered and granted its place: the station is in
LISTENING or NORMAL and not sending, its assembler takes frames, the destination is the own address, the source is a
panel's address, no restart is pending and class queue 3 has room (R132, R138, R148, R160, R161). -/
def State.grants (s : State) (source destination : Byte) : Bool :=
  s.working && s.takesFrames && s.answers source destination && decide (destination ≠ 63#8) &&
    !s.bus.restartPending && decide (s.bus.queues.report.length < 4)

/-- The REPORT queue with one REPORT more: code, result and body to a panel, with no attempt made yet (R142, R163). -/
def State.reportsWith (s : State) (destination code result : Byte) (body : List Byte) : List QueuedFrame :=
  s.bus.queues.report ++ [{ content := .report destination (code :: result :: body) false, attempts := 0 }]

/-- The counters once the frame of a command has been accepted (R136). -/
def State.countersAccepted (s : State) : Counters := s.counters.bump .rxGood

/-- The number of ALERTs on the line: one in SENDING is not pending (R145). -/
def State.alertsOnTheLine (s : State) : Nat :=
  match s.bus.transmitter with
  | .sending .alert _ => 1
  | _ => 0

/-- From `s` to `t` an ALERT has been queued: a pending one stands for it, and without one it joins at the end, behind
one on the line, with no attempt made yet (R20, R145, R146). -/
abbrev State.AlertQueued (s t : State) : Prop :=
  t.bus.queues.alert =
    if s.alertsOnTheLine < s.bus.queues.alert.length then s.bus.queues.alert
    else s.bus.queues.alert ++ [{ content := .alert, attempts := 0 }]

/-- The alarm levels that have a threshold (R14). -/
def AlarmLevel.withThreshold : List AlarmLevel := [.watch, .warning, .alarm]

/-- The commands at which an air sample may happen: those that may end a round (R2, R13; ALARM_HOLD_TIMER_EXPIRY by log
13). -/
def maySample : Instr → Bool
  | .pollRoundStart => true
  | .headAnswer _ _ _ => true
  | .headAnswerWindowExpiry => true
  | .alarmHoldTimerExpiry => true
  | _ => false

/-- The two tables of the gate machine: state, loop, on or off, next state (R64, R65). -/
def gateRows : List (GateState × Loop × Bool × GateState) :=
  [(.clear, .outer, true, .armedIn), (.armedIn, .inner, true, .spanningIn), (.armedIn, .outer, false, .clear),
    (.spanningIn, .outer, false, .exitingIn), (.spanningIn, .inner, false, .armedIn),
    (.exitingIn, .inner, false, .clear), (.exitingIn, .outer, true, .spanningIn),
    (.clear, .inner, true, .armedOut), (.armedOut, .outer, true, .spanningOut), (.armedOut, .inner, false, .clear),
    (.spanningOut, .inner, false, .exitingOut), (.spanningOut, .outer, false, .armedOut),
    (.exitingOut, .outer, false, .clear), (.exitingOut, .inner, true, .spanningOut)]

/-- The number of argument bytes of each command code (R162). -/
def argumentCounts : List (Nat × Nat) :=
  [(0x01, 1), (0x02, 2), (0x03, 1), (0x04, 1), (0x10, 2), (0x11, 0), (0x12, 1), (0x13, 1), (0x14, 1), (0x20, 2),
    (0x21, 1), (0x22, 2), (0x30, 0), (0x31, 0), (0x40, 3), (0x41, 1), (0x7F, 0)]

/-- The range of each argument byte of each command code; an argument word or a "0 for all" is the range of its codes
(the table of R141, R162). -/
def argumentRanges : List (Nat × List (Nat × Nat)) :=
  [(0x01, [(1, 2)]), (0x02, [(1, 64), (1, 40)]), (0x03, [(1, 16)]), (0x04, [(0, 1)]), (0x10, [(0, 100), (0, 240)]),
    (0x11, []), (0x12, [(1, 6)]), (0x13, [(1, 6)]), (0x14, [(1, 6)]), (0x20, [(1, 64), (0, 240)]), (0x21, [(1, 64)]),
    (0x22, [(1, 64), (0, 1)]), (0x30, []), (0x31, []), (0x40, [(0, 8), (0, 100), (0, 240)]), (0x41, [(0, 8)]),
    (0x7F, [])]

/-- The commands that name a fan, each with the fan states in which it is not refused (R44, R45, R46). -/
def fanCommands : List (Nat × List FanState) :=
  [(0x12, [.stopped, .queued, .starting, .running, .stopping, .fault, .lockedOut]), (0x13, [.lockedOut]),
    (0x14, [.fault])]

/-- The commands that name a bay, each with the bay states in which it is not refused (R57, R58, R59). -/
def bayCommands : List (Nat × List BayState) :=
  [(0x20, [.free, .reserved]), (0x21, [.reserved]),
    (0x22, [.unknown, .free, .occupied, .reserved, .fault, .outOfService])]

/-- Check 4, the owner's: a fan or bay that is not configured is BAD_ARGUMENT, one in a state in which the command is
refused is REFUSED_STATE, and anything else is DONE (R44..R46, R57..R59, R162, "The commands that act"). -/
def State.ownerResult (s : State) (code first : Nat) : CommandResult :=
  match fanCommands.lookup code, bayCommands.lookup code with
  | some states, _ =>
    match s.vent.fan? first with
    | some f => if f.state ∈ states then .done else .refusedState
    | none => .badArgument
  | none, some states =>
    match s.bays.bay? first with
    | some b => if b.state ∈ states then .done else .refusedState
    | none => .badArgument
  | none, none => .done

/-- The result of a command by the four checks of R162 in their order: code, argument count, ranges, owner. -/
def State.resultByChecks (s : State) (code : Byte) (args : List Byte) : CommandResult :=
  match argumentRanges.lookup code.toNat with
  | none => .unknownCommand
  | some ranges =>
    if args.length ≠ ranges.length then .badArgument
    else if (ranges.zip args).all (fun p => decide (p.1.1 ≤ p.2.toNat) && decide (p.2.toNat ≤ p.1.2)) = false then
      .badArgument
    else s.ownerResult code.toNat (args.headD 0#8).toNat

/-- A channel brought up by a presence event: ACTIVE at its active level with a full hold (R117); FORCED and
OVERRIDDEN absorb it (R118). -/
def Channel.raised (c : Channel) : Channel :=
  if c.state = .forced ∨ c.state = .overridden then c
  else { c with state := .active, output := c.settings.active, hold := some (1000 * c.settings.holdSeconds), dim := none }

/-- The channels of a set brought up, the others left. -/
def Lighting.raised (l : Lighting) (set : ChannelSet) : List Channel :=
  l.channels.map (fun c => if inChannelSet set c.number then c.raised else c)

/-! ### What an air sample and a significant change bring -/

/-- An index that enters the effective index: the own index, or floor(I × w / 100) of a static entry that is FRESH, has
a weight w above 0 and holds an index I (R24). -/
abbrev State.IndexOffered (s : State) (x : Nat) : Prop :=
  s.air.ownIndex = some x ∨ ∃ p ∈ s.peers.slots.filterMap id, p.state = .fresh ∧ ∃ c ∈ p.static?.toList,
    0 < c.weight ∧ p.heard.airIndex.map (fun i => i * c.weight / 100) = some x

/-- From `s` to `t` demand has been formed at an air sample: the floor and D afresh, C by one rate step toward D by its
mode and then up to the floor (R27, R31, R32). -/
abbrev State.DemandStepped (s t : State) : Prop :=
  t.vent.floor = t.floorNow ∧ t.vent.demand = t.demandNow ∧
    (s.vent.commanded < t.vent.demand → t.vent.commanded =
      max t.vent.floor (min t.vent.demand (s.vent.commanded + s.settings.upRate))) ∧
    (t.vent.demand < s.vent.commanded → s.settings.fallMode = .ramp → t.vent.commanded =
      max t.vent.demand (s.vent.commanded - s.settings.downRate)) ∧
    (t.vent.demand < s.vent.commanded → s.settings.fallMode = .coast → t.vent.commanded = t.vent.demand) ∧
    (t.vent.demand = s.vent.commanded → t.vent.commanded = s.vent.commanded)

/-- From `s` to `t` an air sample has been taken over the head records of `t`: own index, alarm level, hold timer and
the head states others read are of that sample, a change of level has queued an ALERT and no other sample queues one,
and demand has been stepped (R12, R13, R15, R20). -/
abbrev State.Sampled (s t : State) : Prop :=
  t.air.sampled = t.air.heads.map (fun h =>
      { number := h.settings.number, state := h.state, subIndex := h.subIndex }) ∧
    t.air.ownIndex = largest (t.air.heads.filterMap Head.offers) ∧
    (t.air.level, t.air.holdTimer) = s.settings.alarmStep t.air.ownIndex s.air.level s.air.holdTimer ∧
    (t.air.level ≠ s.air.level → s.AlertQueued t) ∧
    (t.air.level = s.air.level → t.bus.queues.alert = s.bus.queues.alert) ∧ s.DemandStepped t

/-- The hold timer expires at an air sample over these heads: its count, one more, reaches the clear hold, the index lies
below the release point, and it meets no threshold above the level (R15, R16, R17). -/
abbrev Settings.HoldExpires (c : Settings) (level : AlarmLevel) (hold : Option Nat) (heads : List Head) : Prop :=
  ∃ e ∈ hold.toList, ∃ i ∈ (largest (heads.filterMap Head.offers)).toList,
    0 < clearHold c.holdCode ∧ clearHold c.holdCode ≤ e + 1 ∧ i < c.releasePoint level ∧
      ∀ m ∈ AlarmLevel.withThreshold, level.code < m.code → i < c.threshold m

/-- From `s` to `t` the polls of a round have been done, with the head records of `t`: the air sample has been taken. Only
where the hold timer expires at it and the very next command waiting is ALARM_HOLD_TIMER_EXPIRY is the sample left to that
command, and no result of the Air Monitor and no other block has changed yet (R2, R13, R17; log 13). -/
abbrev State.RoundEnds (s t : State) : Prop :=
  if s.settings.HoldExpires s.air.level s.air.holdTimer t.air.heads ∧
      s.pending.head? = some .alarmHoldTimerExpiry then
    t.air.expiring = true ∧ t.air.sampled = s.air.sampled ∧ t.air.ownIndex = s.air.ownIndex ∧
      t.air.level = s.air.level ∧ t.air.holdTimer = s.air.holdTimer ∧ OnlyChanges [.air, .counters] s t
  else t.air.expiring = false ∧ s.Sampled t

/-- From `s` to `t` demand has been formed at another event than an air sample: the floor and D afresh, C lifted to the
floor and not stepped (R27, R31, R32). -/
abbrev State.DemandFormed (s t : State) : Prop :=
  t.vent.floor = t.floorNow ∧ t.vent.demand = t.demandNow ∧ t.vent.commanded = max s.vent.commanded t.vent.floor

/-- From `s` to `t` the state or the air index of a static neighbour of weight above 0 has changed (R86). -/
abbrev State.UpstreamEntryChanged (s t : State) : Prop :=
  ∃ slot ∈ s.peers.slots.zip t.peers.slots, ∃ p ∈ slot.1.toList, ∃ q ∈ slot.2.toList, ∃ c ∈ p.static?.toList,
    0 < c.weight ∧ (p.state ≠ q.state ∨ p.heard.airIndex ≠ q.heard.airIndex)

/-- From `s` to `t` the Ventilation Controller has been told of what changed in the Peer Table: demand has been formed
when sympathy or an upstream entry has changed, and otherwise nothing of it has changed (R84, R86). -/
abbrev State.TellsVentilation (s t : State) : Prop :=
  if s.peers.sympathy ≠ t.peers.sympathy ∨ s.UpstreamEntryChanged t then s.DemandFormed t else t.vent = s.vent

/-- The commands at which the Guidance Unit may evaluate its routes other than at a capture (R96, R100; the steps of
R100 in spec/95_what_each_step_holds.md but GAP_COUNTED_OUT). -/
def mayEvaluate : Instr → Bool
  | .bayAnswer _ _ => true
  | .bayReadNoAnswer => true
  | .setBayService _ _ _ => true
  | .reserveBay _ _ _ => true
  | .releaseBay _ _ _ => true
  | .reservationExpiry _ => true
  | .pollRoundStart => true
  | .headAnswer _ _ _ => true
  | .headAnswerWindowExpiry => true
  | .alarmHoldTimerExpiry => true
  | .purgeFilterChange _ => true
  | .closeZone _ _ _ => true
  | .openZone _ _ _ => true
  | .confirmTimerExpiry _ => true
  | .lossTimerExpiry _ => true
  | .lockOutFan _ _ _ => true
  | .unlockFan _ _ _ => true
  | .clearFanFault _ _ _ => true
  | .statusReceived _ _ => true
  | .alertReceived _ _ => true
  | .passageReceived _ _ => true
  | .sweep => true
  | .listeningTimerExpiry => true
  | _ => false

/-- Some row has changed significantly: its cost has passed between 15 and below, or its exit between HERE and anything
else (R100). -/
abbrev SignificantChange (old new : Rows) : Prop :=
  ∃ g ∈ [GuidedClass.standard, .accessible, .charging],
    ¬((old.get g).cost < 15 ↔ (new.get g).cost < 15) ∨ ¬((old.get g).exit = .here ↔ (new.get g).exit = .here)

/-- From `s` to `t` a significant change of the rows has been told, and no other: with a STATUS pending nothing is done;
without one, a STATUS is queued when the spacing timer does not run, and the owed mark is set when it does (R100,
R150). -/
abbrev State.TellsSignificantChange (s t : State) : Prop :=
  if SignificantChange s.guide.rows t.guide.rows ∧ s.bus.hasPending .status = false then
    (s.bus.spacingTimer = none → t.bus.queues.status = s.bus.queues.status ++ [{ content := .status, attempts := 0 }] ∧
      t.bus.spacingTimer = some 1000 ∧ t.bus.owed = false) ∧
    (s.bus.spacingTimer ≠ none → t.bus.queues.status = s.bus.queues.status ∧
      t.bus.spacingTimer = s.bus.spacingTimer ∧ t.bus.owed = true)
  else t.bus.queues.status = s.bus.queues.status ∧ t.bus.spacingTimer = s.bus.spacingTimer ∧ t.bus.owed = s.bus.owed

/-! ### The clock (log 1) -/

/-- A timer with one millisecond less to run. -/
def lessOne (t : Timer) : Timer := t.map (fun n => n - 1)

/-- A limit with one millisecond less to run; "until ended" stands. -/
def limitLessOne : TimeLimit → TimeLimit
  | .untilEnded => .untilEnded
  | .remaining n => .remaining (n - 1)

/-- An input's line has stood one millisecond more at a level not yet shown, up to the 60 that its filter needs; a line
at the level shown leaves nothing counted (R28, R35, R63, R116). -/
def FilteredInput.stoodOneMore (i : FilteredInput) : FilteredInput :=
  { i with steadyMs := if i.line = i.filtered then 0 else if i.steadyMs < 60 then i.steadyMs + 1 else 60 }

/-- From `s` to `t` one millisecond has passed: in the hold of a reset for the power-on hold alone; in every other station
state for every running timer, window and limit, for the filters of the purge line and of run confirm, and in LISTENING
and NORMAL for those of loops and motion inputs. Nothing else has changed (log 1; R28, R35, R63, R116, R172). -/
abbrev State.OneMillisecond (s t : State) : Prop :=
  (s.station = .heldInReset →
    t = { s with startup := { s.startup with powerOnTimer := lessOne s.startup.powerOnTimer } }) ∧
  (s.station ≠ .heldInReset →
    OnlyChanges [.startup, .inputs, .air, .vent, .bays, .peers, .guide, .light, .bus] s t ∧
    t.startup = { s.startup with
      readTimer := lessOne s.startup.readTimer, listeningTimer := lessOne s.startup.listeningTimer } ∧
    t.inputs.purge = s.inputs.purge.stoodOneMore ∧
    t.inputs.runConfirm = s.inputs.runConfirm.map FilteredInput.stoodOneMore ∧
    (if s.working then
      t.inputs.outerLoops = s.inputs.outerLoops.map FilteredInput.stoodOneMore ∧
        t.inputs.innerLoops = s.inputs.innerLoops.map FilteredInput.stoodOneMore ∧
        t.inputs.motion = s.inputs.motion.map FilteredInput.stoodOneMore
    else
      t.inputs.outerLoops = s.inputs.outerLoops ∧ t.inputs.innerLoops = s.inputs.innerLoops ∧
        t.inputs.motion = s.inputs.motion) ∧
    t.air = { s.air with
      roundTimer := lessOne s.air.roundTimer
      poll := s.air.poll.map (fun p => { head := p.head, window := p.window - 1 }) } ∧
    t.vent = { s.vent with
      fans := s.vent.fans.map (fun f =>
        { number := f.number, state := f.state, confirm := lessOne f.confirm
          fallbackStart := lessOne f.fallbackStart, loss := lessOne f.loss, coast := lessOne f.coast })
      override := s.vent.override.map (fun o => { value := o.value, limit := limitLessOne o.limit }) } ∧
    t.bays = { s.bays with
      bays := s.bays.bays.map (fun b => { b with reservation := b.reservation.map limitLessOne })
      scanTimer := lessOne s.bays.scanTimer
      reading := s.bays.reading.map (fun r => { r with window := r.window - 1 })
      gates := s.bays.gates.map (fun g => { g with timer := lessOne g.timer })
      ringTimer := lessOne s.bays.ringTimer } ∧
    t.peers = { s.peers with sweepTimer := lessOne s.peers.sweepTimer } ∧
    t.guide = { s.guide with
      signs := s.guide.signs.map (fun g => { g with refresh := lessOne g.refresh })
      exchange := s.guide.exchange.map (fun e => { e with window := e.window - 1 })
      fallbackTimer := lessOne s.guide.fallbackTimer } ∧
    t.light = { s.light with
      channels := s.light.channels.map (fun c => { c with
        hold := lessOne c.hold, dim := lessOne c.dim
        override := c.override.map (fun o => { level := o.level, limit := limitLessOne o.limit }) })
      repeatTimers := s.light.repeatTimers.map lessOne } ∧
    t.bus = { s.bus with
      periodTimer := lessOne s.bus.periodTimer, spacingTimer := lessOne s.bus.spacingTimer })

/-- An input's line has stood for 60 ms at this level, which is not the one shown (R28, R35, R63, R116). -/
abbrev FilteredInput.Settled (i : FilteredInput) (level : Bool) : Prop :=
  i.line = level ∧ i.filtered ≠ level ∧ 60 ≤ i.steadyMs

/-- A command is due by the clock: an expiry when its timer stands at 0 in a station state in which it runs, a filtered
change when its line has stood for 60 ms, a sign exchange when the link is free and a sign is due, and an air sample that
is due. No other command is (log 1, log 18; R2, R28, R30, R35, R41..R43, R51, R60, R63, R66, R69, R81, R106, R107, R112,
R116, R119, R121, R125, R149, R150, R172, R173, R177). -/
def State.IsDue (s : State) : Instr → Prop
  | .resetEnd => s.station = .heldInReset ∧ s.startup.powerOnTimer = some 0 ∧ s.startup.resetLineLow = false ∧
      s.startup.supplyInRange = true
  | .settingsReadTimeout => s.station = .starting ∧ s.startup.readTimer = some 0
  | .listeningTimerExpiry => s.station = .listening ∧ s.startup.listeningTimer = some 0
  | .purgeFilterChange on => s.station ≠ .heldInReset ∧ s.inputs.purge.Settled on
  | .runConfirmActive n => s.station ≠ .heldInReset ∧ ∃ i ∈ (inputAt? s.inputs.runConfirm n).toList, i.Settled true
  | .runConfirmLost n => s.station ≠ .heldInReset ∧ ∃ i ∈ (inputAt? s.inputs.runConfirm n).toList, i.Settled false
  | .loopChange n .outer on => s.working = true ∧ (s.bays.gate? n).isSome = true ∧
      ∃ i ∈ (inputAt? s.inputs.outerLoops n).toList, i.Settled on
  | .loopChange n .inner on => s.working = true ∧ (s.bays.gate? n).isSome = true ∧
      ∃ i ∈ (inputAt? s.inputs.innerLoops n).toList, i.Settled on
  | .motionChange n on => s.working = true ∧ ∃ i ∈ (inputAt? s.inputs.motion n).toList, i.Settled on
  | .pollRoundStart => s.working = true ∧ s.air.roundTimer = some 0
  | .headAnswerWindowExpiry => s.working = true ∧ ∃ p ∈ s.air.poll.toList, p.window = 0
  | .alarmHoldTimerExpiry => s.working = true ∧ s.air.expiring = true
  | .fanOverrideExpiry => s.working = true ∧ ∃ o ∈ s.vent.override.toList, o.limit = .remaining 0
  | .confirmTimerExpiry n => s.working = true ∧
      ∃ f ∈ s.vent.fans, f.number = n ∧ f.state = .starting ∧ f.confirm = some 0
  | .fallbackStartTimerExpiry n => s.station = .fallback ∧
      ∃ f ∈ s.vent.fans, f.number = n ∧ f.state = .starting ∧ f.fallbackStart = some 0
  | .lossTimerExpiry n => s.working = true ∧ ∃ f ∈ s.vent.fans, f.number = n ∧ f.state = .running ∧ f.loss = some 0
  | .coastTimerExpiry n => s.station ∈ [.listening, .normal, .fallback] ∧
      ∃ f ∈ s.vent.fans, f.number = n ∧ f.state = .stopping ∧ f.coast = some 0
  | .bayScanStart => s.working = true ∧ s.bays.scanTimer = some 0
  | .bayReadNoAnswer => s.working = true ∧ ∃ r ∈ s.bays.reading.toList, r.window = 0
  | .reservationExpiry n => s.working = true ∧
      ∃ b ∈ s.bays.bays, b.settings.number = n ∧ b.state = .reserved ∧ b.reservation = some (.remaining 0)
  | .gateTimerExpiry n => s.working = true ∧ ∃ g ∈ s.bays.gates, g.settings.number = n ∧ g.timer = some 0
  | .trafficRingRotation => s.working = true ∧ s.bays.ringTimer = some 0
  | .sweep => s.working = true ∧ s.peers.sweepTimer = some 0
  | .signRefreshTimerExpiry n => s.working = true ∧
      ∃ g ∈ s.guide.signs, g.settings.number = n ∧ g.refresh = some 0
  | .signExchangeStart => s.working = true ∧ s.guide.exchange = none ∧ ∃ g ∈ s.guide.signs, g.due = true
  | .signAnswerWindowExpiry => ∃ e ∈ s.guide.exchange.toList, e.window = 0
  | .fallbackSignTimerExpiry => s.station = .fallback ∧ s.guide.fallbackTimer = some 0
  | .motionRepeatTimerExpiry n => s.working = true ∧ n ∈ [1, 2, 3, 4] ∧
      (∃ i ∈ (inputAt? s.inputs.motion n).toList, i.filtered = true) ∧ s.light.repeatTimers.getD (n - 1) none = some 0
  | .channelHoldTimerExpiry n => s.working = true ∧
      ∃ c ∈ s.light.channels, c.number = n ∧ c.state = .active ∧ c.hold = some 0
  | .dimTimerExpiry n => s.working = true ∧
      ∃ c ∈ s.light.channels, c.number = n ∧ c.state = .dimming ∧ c.dim = some 0
  | .lightOverrideExpiry n => s.working = true ∧
      ∃ c ∈ s.light.channels, c.number = n ∧ ∃ o ∈ c.override.toList, o.limit = .remaining 0
  | .statusPeriodTimerExpiry => s.working = true ∧ s.bus.periodTimer = some 0
  | .spacingTimerExpiry => s.working = true ∧ s.bus.spacingTimer = some 0
  | _ => False

/-! ### Fans, bays and peers in the words of the rules -/

/-- Where the duty pointer moves when the run list becomes empty: the next configured fan above the one it names, or the
lowest configured fan (R39). -/
def Ventilation.nextDuty (v : Ventilation) : Option Nat :=
  v.dutyPointer.bind (fun p =>
    ((v.fans.map Fan.number).find? (fun n => decide (p < n))).or (v.fans.map Fan.number).head?)

/-- The STOPPED fans in duty order (R38). -/
def Ventilation.available (v : Ventilation) : List Nat :=
  (v.dutyOrder.filter (fun f => decide (f.state = .stopped))).map Fan.number

/-- The lamp of each bay state in an open and in a closed zone (R62). -/
def lampRows : List (BayState × Lamp × Lamp) :=
  [(.free, .green, .red), (.occupied, .red, .red), (.reserved, .blue, .red), (.unknown, .off, .off),
    (.fault, .off, .off), (.outOfService, .off, .off)]

/-- The heard fields a STATUS gives (R74, R77, R137). -/
def heardOfStatus (p : StatusPayload) : Heard :=
  { airIndex := if p.index = 0xFFFF#16 then none else some (min 999 p.index.toNat)
    alarm := some (alarmOfCode p.alarm), purge := some (bit p.flags 1), closed := some (bit p.flags 0)
    adverts := some
      { standard := heardAdvert p.standard, accessible := heardAdvert p.accessible
        charging := heardAdvert p.charging } }

/-- The heard fields once an ALERT has given its three (R74, R77, R137). -/
def heardOfAlert (p : AlertPayload) (before : Heard) : Heard :=
  { before with
    airIndex := if p.index = 0xFFFF#16 then none else some (min 999 p.index.toNat)
    alarm := some (alarmOfCode p.alarm), purge := some (bit p.flags 1) }

/-! ### The line, sample by sample (R130, R131) -/

/-- The line samples of bits, 16 to a bit (R130). -/
def samplesOf (bits : List LineLevel) : List LineLevel := bits.flatMap (List.replicate 16)

/-- The idle count after a run of samples at a receiver (R131). -/
def SampleReceiver.idleAfter (r : SampleReceiver) (count : Nat) : List LineLevel → Nat
  | [] => count
  | l :: ls => (r.sample l).1.idleAfter (idleCountStep r count l) ls

/-! ### The bodies of reports, byte by byte (R142, R143) -/

/-- The two-byte field at an offset of a body. -/
def bodyHalf (body : List Byte) (k : Nat) : Half := halfFrom (body.getD k 0#8) (body.getD (k + 1) 0#8)

/-- A value and the code that carries it. -/
abbrev CodedAs {α : Type} (codes : List (α × Byte)) (v : α) (b : Byte) : Prop := ∀ q ∈ codes, v = q.1 → b = q.2

def headCodes : List (HeadState × Byte) := [(.warmup, 1#8), (.valid, 2#8), (.over, 3#8), (.fault, 4#8)]
def fanCodes : List (FanState × Byte) :=
  [(.stopped, 1#8), (.queued, 2#8), (.starting, 3#8), (.running, 4#8), (.stopping, 5#8), (.fault, 6#8),
    (.lockedOut, 7#8)]
def levelCodes : List (AlarmLevel × Byte) := [(.clear, 0#8), (.watch, 1#8), (.warning, 2#8), (.alarm, 3#8)]
def displayCodes : List (DisplayState × Byte) := [(.blank, 0#8), (.count, 1#8), (.full, 2#8), (.closed, 3#8)]
def channelCodes : List (ChannelState × Byte) :=
  [(.active, 1#8), (.dimming, 2#8), (.idle, 3#8), (.forced, 4#8), (.overridden, 5#8)]
def exitCodes : List (RouteExit × Byte) :=
  [(.by 0, 0#8), (.by 1, 1#8), (.by 2, 2#8), (.by 3, 3#8), (.here, 4#8), (.none, 0xFF#8)]
def signStatusCodes : List (Option SignStatus × Nat) := [(none, 0), (some .ok, 1), (some .defect, 2)]
def bayCodes : List (BayState × Nat) :=
  [(.unknown, 1), (.free, 2), (.occupied, 3), (.reserved, 4), (.fault, 5), (.outOfService, 6)]
def bayClassCodes : List (BayClass × Nat) := [(.standard, 0), (.accessible, 1), (.charging, 2), (.staff, 3)]
def peerCodes : List (PeerState × Nat) := [(.fresh, 1), (.stale, 2), (.silent, 3)]

/-- The first three bytes of both sections: section, station state (1 LISTENING, 2 NORMAL), closure sources (R142,
R180). -/
abbrev State.ReportOpens (s : State) (section_ : Byte) (body : List Byte) : Prop :=
  body.getD 0 0#8 = section_ ∧ body.getD 1 0#8 = (if s.station = .listening then 1#8 else 2#8) ∧
    bit (body.getD 2 0#8) 0 = decide (s.air.level = .alarm) ∧ bit (body.getD 2 0#8) 1 = s.inputs.purge.filtered ∧
    bit (body.getD 2 0#8) 2 = s.guide.serviceClose

/-- The 34 bytes of section 1 (R142): heads at 10, fans at 28. -/
abbrev State.SectionOneLayout (s : State) (body : List Byte) : Prop :=
  body.length = 34 ∧ s.ReportOpens 1#8 body ∧ CodedAs levelCodes s.air.level (body.getD 3 0#8) ∧
    bodyHalf body 4 = indexHalf s.air.ownIndex ∧
    (body.drop 6).take 4 =
      [s.vent.floor, s.vent.demand, s.vent.commanded, s.startup.clampedCount].map (BitVec.ofNat 8) ∧
    (∀ n ∈ [1, 2, 3, 4, 5, 6],
      (∀ h ∈ s.air.sampled? n, CodedAs headCodes h.state (body.getD (7 + 3 * n) 0#8) ∧
        bodyHalf body (8 + 3 * n) = indexHalf h.subIndex) ∧
      (s.air.sampled? n = none → body.getD (7 + 3 * n) 0#8 = 0#8 ∧ bodyHalf body (8 + 3 * n) = 0xFFFF#16) ∧
      (∀ f ∈ s.vent.fan? n, CodedAs fanCodes f.state (body.getD (27 + n) 0#8)) ∧
      (s.vent.fan? n = none → body.getD (27 + n) 0#8 = 0#8))

/-- The 45 bytes of section 2 (R142): rows at 6, signs at 21, channels at 29. -/
abbrev State.SectionTwoLayout (s : State) (body : List Byte) : Prop :=
  body.length = 45 ∧ s.ReportOpens 2#8 body ∧
    (∀ q ∈ [(GuidedClass.standard, 0), (.accessible, 1), (.charging, 2)],
      body.getD (3 + q.2) 0#8 = BitVec.ofNat 8 (s.bays.freeCount q.1) ∧
      body.getD (6 + 5 * q.2) 0#8 = BitVec.ofNat 8 (s.guide.rows.get q.1).cost ∧
      bodyHalf body (7 + 5 * q.2) = BitVec.ofNat 16 (s.guide.rows.get q.1).free ∧
      body.getD (9 + 5 * q.2) 0#8 = BitVec.ofNat 8 (s.guide.rows.get q.1).via ∧
      CodedAs exitCodes (s.guide.rows.get q.1).exit (body.getD (10 + 5 * q.2) 0#8)) ∧
    (∀ n ∈ [1, 2, 3, 4],
      (∀ g ∈ s.guide.sign? n, CodedAs displayCodes g.image.display (body.getD (19 + 2 * n) 0#8) ∧
        bit (body.getD (20 + 2 * n) 0#8) 0 = g.faultMark ∧
        ∀ q ∈ signStatusCodes, g.lastStatus = q.1 → field (body.getD (20 + 2 * n) 0#8) 1 2 = q.2) ∧
      (s.guide.sign? n = none → body.getD (19 + 2 * n) 0#8 = 0xFF#8 ∧ body.getD (20 + 2 * n) 0#8 = 0#8)) ∧
    (∀ n ∈ [1, 2, 3, 4, 5, 6, 7, 8], ∀ c ∈ s.light.channel? n,
      CodedAs channelCodes c.state (body.getD (27 + 2 * n) 0#8) ∧
      body.getD (28 + 2 * n) 0#8 = BitVec.ofNat 8 c.output)

/-- The item of a bay number: 0 when not configured; else state and class in one byte, and for a RESERVED bay the whole
minutes that remain, rounded up, or 0 for "until released" (R143; for a timer at 0, log 15). -/
abbrev BayMonitor.ItemLayout (b : BayMonitor) (n : Nat) (item : List Byte) : Prop :=
  (b.bay? n = none → item = [0#8]) ∧
    ∀ x ∈ b.bay? n,
      item.length = (if x.state = .reserved then 2 else 1) ∧
      (∀ q ∈ bayCodes, x.state = q.1 → field (item.getD 0 0#8) 4 4 = q.2) ∧
      (∀ q ∈ bayClassCodes, x.settings.cls = q.1 → field (item.getD 0 0#8) 0 4 = q.2) ∧
      (x.state = .reserved → item.getD 1 0#8 =
        (match x.reservation with
          | some (.remaining ms) => BitVec.ofNat 8 (max 1 (ceilDiv ms 60000))
          | _ => 0#8))

/-- The body of a bay report that carries these items (R143): first bay, number carried, one item a bay, as many as were
asked for but none past bay 64 and none past 48 bytes of payload. -/
abbrev BayMonitor.ReportLayout (b : BayMonitor) (first count : Nat) (items : List (List Byte)) (body : List Byte) : Prop :=
  body = BitVec.ofNat 8 first :: BitVec.ofNat 8 items.length :: items.flatten ∧ body.length ≤ 46 ∧
    items.length ≤ count ∧ first + items.length ≤ 65 ∧
    (∀ k ∈ List.range items.length, b.ItemLayout (first + k) (items.getD k [])) ∧
    (items.length < count → first + items.length < 65 →
      46 < body.length + (if (b.bay? (first + items.length)).any (fun x => decide (x.state = .reserved)) then 2 else 1))

/-- The five bytes of a peer slot (R143). -/
abbrev PeerItemLayout (slot : Option Peer) (item : List Byte) : Prop :=
  (slot = none → item = [0#8, 0#8, 0xFF#8, 0xFF#8, 0xFF#8]) ∧
    ∀ p ∈ slot,
      item.length = 5 ∧ item.getD 0 0#8 = BitVec.ofNat 8 p.address ∧
      bit (item.getD 1 0#8) 7 = decide (p.origin = .learned) ∧
      (∀ q ∈ peerCodes, p.state = q.1 → field (item.getD 1 0#8) 4 2 = q.2) ∧
      field (item.getD 1 0#8) 0 2 = p.age % 4 ∧
      (p.heard.alarm = none → item.getD 2 0#8 = 0xFF#8) ∧ (∀ l ∈ p.heard.alarm, CodedAs levelCodes l (item.getD 2 0#8)) ∧
      bodyHalf item 3 = indexHalf p.heard.airIndex

/-- The body of a peer report (R143): the first slot, then up to eight items, none past slot 16. -/
abbrev PeerTable.ReportLayout (t : PeerTable) (first : Nat) (body : List Byte) : Prop :=
  body.length = 1 + 5 * min 8 (17 - first) ∧ body.getD 0 0#8 = BitVec.ofNat 8 first ∧
    ∀ k ∈ List.range (min 8 (17 - first)),
      PeerItemLayout (t.slots.getD (first - 1 + k) none) ((body.drop (1 + 5 * k)).take 5)

/-- The sixteen counters in the order a report carries them (R143). -/
def reportedCounters : List CounterName :=
  [.rxGood, .rxParity, .rxFraming, .rxCrc, .rxLength, .rxForeign, .txGood, .txCollision, .txDrop, .passageDrop,
    .peerReject, .addressClash, .serviceOverrun, .signMiss, .headMiss, .gateStuck]

/-- The body of a counter report (R143): the argument, sixteen counts, sixteen flags. -/
abbrev Counters.ReportLayout (c : Counters) (clear : Byte) (body : List Byte) : Prop :=
  body.length = 35 ∧ body.getD 0 0#8 = clear ∧
    ∀ p ∈ reportedCounters.zipIdx,
      bodyHalf body (1 + 2 * p.2) = BitVec.ofNat 16 (c.get p.1).count ∧
      bit (body.getD (33 + p.2 / 8) 0#8) (p.2 % 8) = (c.get p.1).overflow

/-! ### The settings record, field by field (R72, R173, R174, R175) -/

/-- One correction for a value outside its range, none for a value within (R174). -/
def outside (low high v : Nat) : Nat := if low ≤ v ∧ v ≤ high then 0 else 1

/-- A field of one byte: its offset, its range, and where the settings hold it. -/
structure ByteField where
  base : Nat
  low : Nat
  high : Nat
  held : Settings → Nat

/-- The one-byte numbers of the record outside its device records ("The Settings Record", Part 10). -/
def byteFields : List ByteField :=
  [⟨5, 0, 15, Settings.levelNumber⟩, ⟨6, 1, 30, Settings.statusPeriod⟩, ⟨7, 1, 30, Settings.sweepInterval⟩,
    ⟨15, 0, 50, Settings.hysteresis⟩, ⟨16, 0, 7, Settings.holdCode⟩, ⟨58, 0, 20, Settings.trafficGain⟩,
    ⟨59, 0, 100, Settings.trafficCap⟩, ⟨60, 0, 100, Settings.floorClear⟩, ⟨61, 0, 100, Settings.floorWatch⟩,
    ⟨62, 0, 100, Settings.floorWarning⟩, ⟨63, 0, 100, Settings.floorAlarm⟩, ⟨64, 0, 100, Settings.blindFloor⟩,
    ⟨65, 0, 100, Settings.sympathyFloor⟩, ⟨66, 1, 100, Settings.upRate⟩, ⟨67, 1, 100, Settings.downRate⟩,
    ⟨69, 10, 60, Settings.minSpeed⟩, ⟨70, 5, 60, Settings.confirmTimeout⟩, ⟨71, 10, 120, Settings.coastTime⟩,
    ⟨72, 1, 16, Settings.nOn⟩, ⟨73, 1, 16, Settings.nOff⟩]

/-- The fields that belong to no device: each is the record's when that lies in its range and else the nearer limit, and
the two groups revert as wholes (R174, R175). -/
abbrev RecordGivesFields (r : List Byte) (c : Settings) : Prop :=
  c.ownAddress = recordByte r 4 ∧ (∀ f ∈ byteFields, f.held c = min f.high (max f.low (recordByte r f.base))) ∧
    c.selection = (if recordByte r 8 = 0 then .strict else .weighted) ∧
    c.fallMode = (if recordByte r 68 = 0 then .ramp else .coast) ∧
    (c.tWatch, c.tWarning, c.tAlarm) =
      (match [9, 11, 13].map (fun k => min 999 (max 1 (recordHalf r k))) with
        | [w, n, a] => if w < n ∧ n < a then (w, n, a) else (60, 100, 150)
        | _ => (60, 100, 150)) ∧
    (c.eLo, c.eHi) = (if min 999 (recordHalf r 54) < min 999 (recordHalf r 56)
      then (min 999 (recordHalf r 54), min 999 (recordHalf r 56)) else (40, 120)) ∧
    c.fans = [1, 2, 3, 4, 5, 6].filter (fun n => bit (r.getD 53 0#8) (n - 1)) ∧
    c.motion = [150, 151, 152, 153].map (fun k => r.getD k 0#8)

/-- Head `n`, whose six bytes begin at `base` (R174). -/
abbrev RecordGivesHead (r : List Byte) (n base : Nat) : Prop :=
  (recordByte r base = 0 → headOfRecord r n = { value := none, corrections := 0 }) ∧
    (2 < recordByte r base → headOfRecord r n = { value := none, corrections := 1 }) ∧
    ∀ q ∈ [(1, Gas.co), (2, .no2)], recordByte r base = q.1 → headOfRecord r n =
      { value := some
          { number := n, gas := q.2, fullScale := min 1000 (max 1 (recordHalf r (base + 1)))
            shift := min 4 (recordByte r (base + 3)), limit := min 1000 (max 1 (recordHalf r (base + 4))) }
        corrections := outside 1 1000 (recordHalf r (base + 1)) + outside 0 4 (recordByte r (base + 3)) +
          outside 1 1000 (recordHalf r (base + 4)) }

/-- Bay `n`, in this byte (R174). -/
abbrev RecordGivesBay (r : List Byte) (n : Nat) (b : Byte) : Prop :=
  bayOfRecord r n =
    if bit b 7 then
      { value := some
          { number := n, cls := [BayClass.standard, .accessible, .charging, .staff].getD (field b 4 2) .staff
            channel := min 8 (field b 0 4), inService := bit b 6 }
        corrections := outside 0 8 (field b 0 4) }
    else { value := none, corrections := 0 }

/-- Gate `n`, whose three bytes begin at `base` (R174). -/
abbrev RecordGivesGate (own : Nat) (r : List Byte) (n base : Nat) : Prop :=
  gateOfRecord own r n =
    if bit (r.getD base 0#8) 0 then
      { value := some
          { number := n
            farSide := if 1 ≤ recordByte r (base + 1) ∧ recordByte r (base + 1) ≤ 62 ∧ recordByte r (base + 1) ≠ own
              then some (recordByte r (base + 1)) else none
            channels := r.getD (base + 2) 0#8 }
        corrections := if 62 < recordByte r (base + 1) ∨ recordByte r (base + 1) = own then 1 else 0 }
    else { value := none, corrections := 0 }

/-- Static slot `n`, whose five bytes begin at `base`: unused, set aside for its address, or an entry (R72, R174). -/
abbrev RecordGivesStatic (own : Nat) (r : List Byte) (n base : Nat) : Prop :=
  staticOfRecord own r n =
    if recordByte r base = 0 then { value := none, corrections := 0 }
    else if 62 < recordByte r base ∨ recordByte r base = own ∨
        recordByte r base ∈ (List.range (n - 1)).map (fun k => recordByte r (154 + 5 * k)) then
      { value := none, corrections := 1 }
    else
      { value := some
          { address := recordByte r base, level := min 15 (recordByte r (base + 1))
            weight := min 100 (recordByte r (base + 2))
            drive := if bit (r.getD (base + 3) 0#8) 7 then
                some { exit := field (r.getD (base + 3) 0#8) 4 2
                       linkCost := min 4 (max 1 (field (r.getD (base + 3) 0#8) 0 3)) }
              else none
            entryChannels := r.getD (base + 4) 0#8 }
        corrections := outside 0 15 (recordByte r (base + 1)) + outside 0 100 (recordByte r (base + 2)) +
          if bit (r.getD (base + 3) 0#8) 7 then outside 1 4 (field (r.getD (base + 3) 0#8) 0 3) else 0 }

/-- An arrow of an arrow code brought into 1 LEFT .. 6 BACK (R144, R174). -/
def arrowHeld (code : Nat) : Arrow :=
  [Arrow.left, .ahead, .right, .rampDown, .rampUp, .back].getD (min 6 (max 1 code) - 1) .back

/-- Sign `n`, whose four bytes begin at `base` (R174). -/
abbrev RecordGivesSign (r : List Byte) (n base : Nat) : Prop :=
  signOfRecord r n =
    if bit (r.getD base 0#8) 7 then
      { value := some
          { number := n, mode := [SignMode.zone, .route, .total].getD (min 2 (field (r.getD base 0#8) 0 2)) .total
            cls := [GuidedClass.standard, .accessible, .charging].getD (field (r.getD base 0#8) 4 2) .standard
            arrow0 := arrowHeld (field (r.getD (base + 1) 0#8) 4 4)
            arrow1 := arrowHeld (field (r.getD (base + 1) 0#8) 0 4)
            arrow2 := arrowHeld (field (r.getD (base + 2) 0#8) 4 4)
            arrow3 := arrowHeld (field (r.getD (base + 2) 0#8) 0 4) }
        corrections := outside 0 2 (field (r.getD base 0#8) 0 2) + outside 0 2 (field (r.getD base 0#8) 4 2) +
          outside 1 6 (field (r.getD (base + 1) 0#8) 4 4) + outside 1 6 (field (r.getD (base + 1) 0#8) 0 4) +
          outside 1 6 (field (r.getD (base + 2) 0#8) 4 4) + outside 1 6 (field (r.getD (base + 2) 0#8) 0 4) }
    else { value := none, corrections := 0 }

/-- Channel `n`, whose six bytes begin at `base` (R174). -/
abbrev RecordGivesChannel (r : List Byte) (n base : Nat) : Prop :=
  channelOfRecord r n =
    { value := some
        { active := min 100 (recordByte r base), idle := min 100 (recordByte r (base + 1))
          sleep := bit (r.getD (base + 2) 0#8) 0
          dimMode := if bit (r.getD (base + 2) 0#8) 1 then .step else .slew
          holdSeconds := min 3600 (max 10 (recordHalf r (base + 3))), slew := min 50 (max 1 (recordByte r (base + 5))) }
      corrections := outside 0 100 (recordByte r base) + outside 0 100 (recordByte r (base + 1)) +
        outside 10 3600 (recordHalf r (base + 3)) + outside 1 50 (recordByte r (base + 5)) }

/-- The numbers 1..`n`. -/
def oneTo (n : Nat) : List Nat := (List.range n).map (· + 1)

/-- The device records of the corrected settings are the ones their bytes give, in number order (R72, R174). -/
abbrev RecordGivesDevices (r : List Byte) (c : Settings) : Prop :=
  ((∀ n ∈ oneTo 6, RecordGivesHead r n (11 + 6 * n)) ∧ (∀ n ∈ oneTo 64, RecordGivesBay r n (r.getD (73 + n) 0#8)) ∧
    (∀ n ∈ oneTo 4, RecordGivesGate (recordByte r 4) r n (135 + 3 * n)) ∧
    (∀ n ∈ oneTo 8, RecordGivesStatic (recordByte r 4) r n (149 + 5 * n)) ∧
    (∀ n ∈ oneTo 4, RecordGivesSign r n (190 + 4 * n)) ∧ ∀ n ∈ oneTo 8, RecordGivesChannel r n (204 + 6 * n)) ∧
  c.heads = (oneTo 6).filterMap (fun n => (headOfRecord r n).value) ∧
    c.bays = (oneTo 64).filterMap (fun n => (bayOfRecord r n).value) ∧
    c.gates = (oneTo 4).filterMap (fun n => (gateOfRecord (recordByte r 4) r n).value) ∧
    c.statics = (oneTo 8).filterMap (fun n => (staticOfRecord (recordByte r 4) r n).value) ∧
    c.signs = (oneTo 4).filterMap (fun n => (signOfRecord r n).value) ∧
    c.channels = (oneTo 8).filterMap (fun n => (channelOfRecord r n).value)

/-- The number of corrections a record takes: one for each field outside its range and each slot set aside, and one for
each group that reverts (R174, R175). -/
def recordCorrections (r : List Byte) : Nat :=
  (byteFields.map (fun f => outside f.low f.high (recordByte r f.base))).sum +
    outside 0 1 (recordByte r 8) + outside 0 1 (recordByte r 68) +
    ([9, 11, 13].map (fun k => outside 1 999 (recordHalf r k))).sum +
    ([54, 56].map (fun k => outside 0 999 (recordHalf r k))).sum +
    (if Ascending ([9, 11, 13].map (fun k => min 999 (max 1 (recordHalf r k)))) then 0 else 1) +
    (if min 999 (recordHalf r 54) < min 999 (recordHalf r 56) then 0 else 1) +
    ((oneTo 6).map (fun n => (headOfRecord r n).corrections)).sum +
    ((oneTo 64).map (fun n => (bayOfRecord r n).corrections)).sum +
    ((oneTo 4).map (fun n => (gateOfRecord (recordByte r 4) r n).corrections)).sum +
    ((oneTo 8).map (fun n => (staticOfRecord (recordByte r 4) r n).corrections)).sum +
    ((oneTo 4).map (fun n => (signOfRecord r n).corrections)).sum +
    ((oneTo 8).map (fun n => (channelOfRecord r n).corrections)).sum

/-! ### Settings (R72, R174, R175) -/

/-- A head's settings in their ranges (Part 1). -/
abbrev HeadSettings.Legal (h : HeadSettings) : Prop :=
  1 ≤ h.number ∧ h.number ≤ 6 ∧ 1 ≤ h.fullScale ∧ h.fullScale ≤ 1000 ∧ h.shift ≤ 4 ∧ 1 ≤ h.limit ∧ h.limit ≤ 1000

/-- A bay's settings in their ranges (Part 3). -/
abbrev BaySettings.Legal (b : BaySettings) : Prop := 1 ≤ b.number ∧ b.number ≤ 64 ∧ b.channel ≤ 8

/-- A gate's settings in their ranges; a far side is another station (Part 3). -/
abbrev GateSettings.Legal (own : Nat) (g : GateSettings) : Prop :=
  1 ≤ g.number ∧ g.number ≤ 4 ∧ g.farSide.all (fun a => decide (1 ≤ a ∧ a ≤ 62 ∧ a ≠ own)) = true

/-- A static neighbour's settings in their ranges (R72). -/
abbrev StaticSettings.Legal (own : Nat) (c : StaticSettings) : Prop :=
  1 ≤ c.address ∧ c.address ≤ 62 ∧ c.address ≠ own ∧ c.level ≤ 15 ∧ c.weight ≤ 100 ∧
    c.drive.all (fun d => decide (d.exit ≤ 3 ∧ 1 ≤ d.linkCost ∧ d.linkCost ≤ 4)) = true

/-- A channel's settings in their ranges (Part 6). -/
abbrev ChannelSettings.Legal (c : ChannelSettings) : Prop :=
  c.active ≤ 100 ∧ c.idle ≤ 100 ∧ 10 ≤ c.holdSeconds ∧ c.holdSeconds ≤ 3600 ∧ 1 ≤ c.slew ∧ c.slew ≤ 50

/-- The settings of the station, the Air Monitor and the heads in their ranges. -/
abbrev Settings.AirLegal (c : Settings) : Prop :=
  1 ≤ c.ownAddress ∧ c.ownAddress ≤ 62 ∧ c.levelNumber ≤ 15 ∧ 1 ≤ c.statusPeriod ∧ c.statusPeriod ≤ 30 ∧
    1 ≤ c.sweepInterval ∧ c.sweepInterval ≤ 30 ∧ 1 ≤ c.tWatch ∧ c.tWatch < c.tWarning ∧ c.tWarning < c.tAlarm ∧
    c.tAlarm ≤ 999 ∧ c.hysteresis ≤ 50 ∧ c.holdCode ≤ 7 ∧ (∀ h ∈ c.heads, h.Legal) ∧
    Ascending (c.heads.map HeadSettings.number)

/-- The settings of the Ventilation Controller in their ranges. -/
abbrev Settings.FansLegal (c : Settings) : Prop :=
  (∀ n ∈ c.fans, 1 ≤ n ∧ n ≤ 6) ∧ Ascending c.fans ∧ c.eLo < c.eHi ∧ c.eHi ≤ 999 ∧ c.trafficGain ≤ 20 ∧
    c.trafficCap ≤ 100 ∧ c.floorClear ≤ 100 ∧ c.floorWatch ≤ 100 ∧ c.floorWarning ≤ 100 ∧ c.floorAlarm ≤ 100 ∧
    c.blindFloor ≤ 100 ∧ c.sympathyFloor ≤ 100 ∧ 1 ≤ c.upRate ∧ c.upRate ≤ 100 ∧ 1 ≤ c.downRate ∧ c.downRate ≤ 100 ∧
    10 ≤ c.minSpeed ∧ c.minSpeed ≤ 60 ∧ 5 ≤ c.confirmTimeout ∧ c.confirmTimeout ≤ 60 ∧ 10 ≤ c.coastTime ∧
    c.coastTime ≤ 120

/-- The settings of bays, gates, neighbours, signs, motion inputs and channels in their ranges. -/
abbrev Settings.ZoneLegal (c : Settings) : Prop :=
  1 ≤ c.nOn ∧ c.nOn ≤ 16 ∧ 1 ≤ c.nOff ∧ c.nOff ≤ 16 ∧ (∀ b ∈ c.bays, b.Legal) ∧
    Ascending (c.bays.map BaySettings.number) ∧ (∀ g ∈ c.gates, g.Legal c.ownAddress) ∧
    Ascending (c.gates.map GateSettings.number) ∧ c.motion.length = 4 ∧ c.statics.length ≤ 8 ∧
    (∀ x ∈ c.statics, x.Legal c.ownAddress) ∧ (c.statics.map StaticSettings.address).Nodup ∧
    Ascending (c.signs.map SignSettings.number) ∧ (∀ g ∈ c.signs, 1 ≤ g.number ∧ g.number ≤ 4) ∧
    c.channels.length = 8 ∧ ∀ x ∈ c.channels, x.Legal

/-- In LISTENING and NORMAL the record held passes its check and the settings are its corrected settings (R173, R176). -/
abbrev State.SettingsFromRecord (s : State) : Prop :=
  s.working = true →
    recordPasses s.startup.image = true ∧ s.settings = (settingsOfRecord s.startup.image).value ∧
      s.startup.clampedCount = min 255 (settingsOfRecord s.startup.image).corrections

/-- Held in reset and in STARTING no setting has been read and everything has its value after reset, but that closure
follows the purge line (R22, R71, R90, R128, R159, R179). -/
abbrev State.RestsBeforeSettings (s : State) : Prop :=
  s.station = .heldInReset ∨ s.station = .starting →
    (s.settings = .unread ∧ s.startup.clampedCount = 0 ∧ s.air = .afterReset ∧ s.vent = .afterReset ∧
      s.bays = .afterReset) ∧
    s.peers = .afterReset ∧ s.guide = { Guidance.afterReset with closed := s.inputs.purge.filtered } ∧
      s.light = .afterReset ∧ s.bus = .afterReset

/-- In FALLBACK six fans run at a commanded demand of 70, none of them in FAULT, and everything else rests (R22, R49,
R71, R90, R112, R128, R159, R178). -/
abbrev State.RestsInFallback (s : State) : Prop :=
  s.station = .fallback →
    (s.settings = .fallback ∧ s.startup.clampedCount = 0 ∧ s.air = .afterReset ∧ s.bays = .afterReset ∧
      s.peers = .afterReset ∧ s.light = .afterReset ∧ s.bus.queues = .empty) ∧
    (s.guide.serviceClose = false ∧ s.guide.closed = s.inputs.purge.filtered ∧ s.guide.rows = .afterReset ∧
      s.guide.signs = [] ∧ s.bus.transmitter = .atRest ∧ s.bus.restartPending = false) ∧
    s.vent.commanded = 70 ∧ s.vent.override = none ∧ s.vent.fans.map Fan.number = [1, 2, 3, 4, 5, 6] ∧
      (∀ f ∈ s.vent.fans, f.healthy = true) ∧ s.vent.ventLost = false ∧ s.vent.ventDegraded = false

/-- What each station state holds. -/
abbrev State.StationSound (s : State) : Prop :=
  s.SettingsFromRecord ∧ s.RestsBeforeSettings ∧ s.RestsInFallback

/-! ### Counters (R169) -/

/-- A count of 0..65535, and a flag set only while the count stands at 65535 (R169). -/
abbrev Counter.Legal (c : Counter) : Prop := c.count ≤ 65535 ∧ (c.overflow = true → c.count = 65535)

/-- All sixteen counters are legal (R169). -/
abbrev State.CountersSound (s : State) : Prop := ∀ n ∈ CounterName.all, (s.counters.get n).Legal

/-! ### The sending side (R145, R146, R147, R148, R153, R154) -/

/-- The class whose queue a frame's content belongs to (R145). -/
def FrameContent.cls : FrameContent → TxClass
  | .alert => .alert
  | .status => .status
  | .passage _ => .passage
  | .report _ _ _ => .report

/-- At rest every queue is empty; while it waits for the line some queue is not; in GAP and SENDING the class chosen has
a frame (R153, R156, R157). -/
def Transmitter.suits (t : Transmitter) (q : Queues) : Bool :=
  match t with
  | .atRest => decide (q.nonEmpty = [])
  | .waitingIdle => decide (q.nonEmpty ≠ [])
  | .gap cls _ => decide (q.get cls ≠ [])
  | .sending cls _ => decide (q.get cls ≠ [])
  | .backoff => true

/-- The most frames the queue of a class may hold: four of class 1 and of class 3; of class 0 and of class 2 one
pending and one on the line (R145, R146, R147, R148). -/
def Transmitter.room (t : Transmitter) (cls : TxClass) : Nat :=
  if cls.capturesContent then
    match t with
    | .sending c _ => if c = cls then 2 else 1
    | _ => 1
  else 4

/-- No class queue holds more frames than its class may, so that at most one ALERT and at most one STATUS are pending;
each frame is of its class and short of its eighth attempt; the transmitter is at rest only with every queue empty,
and holds a class only while that class has a frame; the jitter position is one of sixteen (R145..R148, R153, R154,
R156). -/
abbrev State.SendingSound (s : State) : Prop :=
  (∀ cls ∈ TxClass.all, (s.bus.queues.get cls).length ≤ s.bus.transmitter.room cls) ∧
    (∀ cls ∈ TxClass.all, ∀ f ∈ s.bus.queues.get cls, f.content.cls = cls ∧ f.attempts ≤ 7) ∧ s.bus.jitter < 16 ∧
    s.bus.transmitter.suits s.bus.queues = true

/-! ### Lighting (R113, R114, R122, R128) -/

/-- A channel's output, timers and override suit its state (R113, R114). -/
def Channel.legal (c : Channel) : Bool :=
  match c.state with
  | .active => decide (c.output = c.settings.active ∧ c.dim = none ∧ c.override = none)
  | .dimming => decide (c.hold = none ∧ c.dim ≠ none ∧ c.override = none)
  | .idle => decide (c.output = c.settings.idle ∧ c.hold = none ∧ c.dim = none ∧ c.override = none)
  | .forced => decide (c.output = 100 ∧ c.hold = none ∧ c.dim = none)
  | .overridden =>
    decide (c.override.map LightOverride.level = some c.output ∧ c.hold = none ∧ c.dim = none)

/-- The channels are 1..8 and every one is legal; in LISTENING and NORMAL the channels are FORCED exactly while the
forcing condition holds, and in every other station state all of them are held at 100. The motion inputs are four
(R113, R114, R116, R122, R123, R128). -/
abbrev State.LightingSound (s : State) : Prop :=
  s.light.channels.map Channel.number = [1, 2, 3, 4, 5, 6, 7, 8] ∧ s.inputs.motion.length = 4 ∧
    s.light.motionSets.length = 4 ∧ s.light.repeatTimers.length = 4 ∧ (∀ c ∈ s.light.channels, c.legal = true) ∧
    if s.working then
      s.light.forcing = s.forcingHolds ∧ ∀ c ∈ s.light.channels, (c.state = .forced ↔ s.forcingHolds = true)
    else ∀ c ∈ s.light.channels, c.state = .forced

/-! ### Demand (R27, R31, R32) -/

/-- In LISTENING and NORMAL the floor held is the floor as its terms stand, and C and D are not below it (R27, R31,
R32). -/
abbrev State.DemandSound (s : State) : Prop :=
  s.working = true →
    s.vent.floor = s.floorNow ∧ s.vent.floor ≤ s.vent.commanded ∧ s.vent.floor ≤ s.vent.demand

/-! ### Guidance (R91, R95, R96, R103, R105) -/

/-- The signs stand in the order of their numbers; the closure state held is the one its sources give; in NORMAL the
rows are the ones an evaluation now gives, and in every other station state they know no route; every image held is the
one the state gives; outside LISTENING and NORMAL the alarm level is CLEAR (R22, R91, R95, R96, R103, R105). -/
abbrev State.GuidanceSound (s : State) : Prop :=
  Ascending (s.guide.signs.map (fun g => g.settings.number)) ∧ s.guide.closed = s.closureHolds ∧
    (s.working = false → s.air.level = .clear) ∧
    s.guide.rows = (if s.station = .normal then s.evaluateRoutes else .afterReset) ∧
    ∀ g ∈ s.guide.signs, g.image = s.signImage g.settings

/-! ### Bays and gates (R50, R63, R64, R65, R66) -/

/-- The reservation timer is present exactly in RESERVED, and the counts keep their ranges (R50). -/
abbrev Bay.Legal (b : Bay) : Prop :=
  (b.reservation ≠ none ↔ b.state = .reserved) ∧ b.onCount ≤ 16 ∧ b.offCount ≤ 16 ∧ b.faultCount ≤ 3

/-- The loops a gate state stands for: OUTER on, then INNER on; BLOCKED has at least one on (R64, R65, R66). -/
def GateState.suits (g : GateState) (outer inner : Bool) : Bool :=
  match g with
  | .clear => !outer && !inner
  | .armedIn => outer && !inner
  | .spanningIn => outer && inner
  | .exitingIn => !outer && inner
  | .armedOut => !outer && inner
  | .spanningOut => outer && inner
  | .exitingOut => outer && !inner
  | .blocked => outer || inner

/-- The gate timer is present exactly out of CLEAR and BLOCKED, and the state suits the filtered loops (R63..R66). -/
abbrev Gate.Legal (g : Gate) (i : Inputs) : Prop :=
  (g.timer ≠ none ↔ g.state ≠ .clear ∧ g.state ≠ .blocked) ∧ 1 ≤ g.settings.number ∧ g.settings.number ≤ 4 ∧
    g.state.suits (i.loopOn g.settings.number .outer) (i.loopOn g.settings.number .inner) = true

/-- Bay and gate records are legal and stand in the order of their numbers, those of bays in 1..64; a read whose
answer will not be discarded is of a configured bay in service; and outside LISTENING and NORMAL there is no gate
record (R50, R51, R63, R71). -/
abbrev State.BaysSound (s : State) : Prop :=
  (∀ b ∈ s.bays.bays, b.Legal) ∧ Ascending (s.bays.bays.map (fun b => b.settings.number)) ∧
    (∀ b ∈ s.bays.bays, 1 ≤ b.settings.number ∧ b.settings.number ≤ 64) ∧
    s.bays.reading.all (fun r => r.discarded || s.bays.bays.any (fun b =>
      decide (b.settings.number = r.bay) && decide (b.state ≠ .outOfService))) = true ∧
    (∀ g ∈ s.bays.gates, g.Legal s.inputs) ∧ Ascending (s.bays.gates.map (fun g => g.settings.number)) ∧
    s.inputs.outerLoops.length = 4 ∧ s.inputs.innerLoops.length = 4 ∧ (s.working = false → s.bays.gates = [])

/-! ### The Peer Table (R73, R74, R81, R82) -/

/-- A static entry keeps the address and level number of its settings; a learned entry is never SILENT (R73). -/
def Peer.suitsOrigin (p : Peer) : Bool :=
  match p.origin with
  | .static c => decide (p.address = c.address) && decide (p.level = some c.level)
  | .learned => decide (p.state ≠ .silent)

/-- An advert in its ranges (R74). -/
abbrev Advert.Legal (a : Advert) : Prop := a.cost ≤ 15 ∧ a.free ≤ 999 ∧ a.via ≤ 62

/-- Heard fields in their ranges (R74). -/
abbrev Heard.Legal (h : Heard) : Prop :=
  h.airIndex.getD 0 ≤ 999 ∧
    h.adverts.all (fun a => decide (a.standard.Legal ∧ a.accessible.Legal ∧ a.charging.Legal)) = true

/-- An entry: its heard fields lie in their ranges, its age and state agree, SILENT belongs to static entries whose heard
fields are absent, and it suits its origin (R73, R74, R81, R82). -/
abbrev Peer.Legal (p : Peer) : Prop :=
  1 ≤ p.address ∧ p.address ≤ 62 ∧ p.heard.Legal ∧ p.age ≤ 3 ∧ (p.state = .fresh ↔ p.age ≤ 1) ∧
    (p.state = .silent → p.age = 3 ∧ p.heard = .absent) ∧
    p.suitsOrigin = true

/-- Sixteen slots, legal entries, no two with one address, and the sympathy condition as the slots give it (R73, R84).
Outside LISTENING and NORMAL the table is empty (R90; before the settings have been read, log 5). -/
abbrev State.PeersSound (s : State) : Prop :=
  s.peers.slots.length = 16 ∧ (∀ p ∈ s.peers.slots.filterMap id, p.Legal) ∧
    ((s.peers.slots.filterMap id).map Peer.address).Nodup ∧
    s.peers.sympathy = sympathyHolds s.settings.levelNumber s.peers.slots ∧
    (s.working = false → s.peers.slots = List.replicate 16 none)

/-! ### Fans (R34, R37, R40) -/

/-- A fan's timers suit its state (R34, R41). -/
abbrev Fan.Legal (f : Fan) : Prop :=
  (f.confirm ≠ none → f.state = .starting) ∧ (f.fallbackStart ≠ none → f.state = .starting) ∧
    (f.loss ≠ none → f.state = .running) ∧ (f.coast ≠ none ↔ f.state = .stopping)

/-- The numbers of the fans in one of two states. -/
def Ventilation.numbersIn (v : Ventilation) (a b : FanState) : List Nat :=
  (v.fans.filter (fun f => decide (f.state = a) || decide (f.state = b))).map Fan.number

/-- Fans in the order of their numbers with legal timers; the run list holds exactly the fans in STARTING or RUNNING and
the start queue exactly those in QUEUED; at most one fan is in STARTING (R34, "The run list, the start queue and the
duty order", R40). -/
abbrev Ventilation.Ordered (v : Ventilation) : Prop :=
  Ascending (v.fans.map Fan.number) ∧ (∀ f ∈ v.fans, f.Legal) ∧
    v.runList.Perm (v.numbersIn .starting .running) ∧ v.startQueue.Perm (v.numbersIn .queued .queued) ∧
    (v.fans.filter (fun f => decide (f.state = .starting))).length ≤ 1

/-- Ordered, and the fans that run and those queued are together at most the planned count (R37, R38). -/
abbrev Ventilation.Sound (v : Ventilation) : Prop :=
  v.Ordered ∧ v.runList.length + v.startQueue.length ≤ plannedCount v.commanded v.healthyCount

/-- The fans are sound, their numbers lie in 1..6, and the run-confirm inputs are six (R23, R34, R35). -/
abbrev State.FansSound (s : State) : Prop :=
  s.vent.Sound ∧ s.inputs.runConfirm.length = 6 ∧ ∀ f ∈ s.vent.fans, 1 ≤ f.number ∧ f.number ≤ 6

/-! ### The Air Monitor (R1, R12, R14, R16) -/

/-- A head record keeps its ranges: accumulator and sub-index are present exactly in VALID and OVER (R1). -/
abbrev Head.Legal (h : Head) : Prop :=
  1 ≤ h.settings.number ∧ h.settings.fullScale ≤ 1000 ∧ h.misses ≤ 3 ∧ (h.accumulator ≠ none ↔ h.subIndex ≠ none) ∧
    (h.subIndex ≠ none ↔ h.state = .valid ∨ h.state = .over) ∧ h.accumulator.getD 0 ≤ 16000 ∧
    h.subIndex.getD 0 ≤ 999

/-- What a head offers to the own index at a sample (R12). -/
def SampledHead.offers (h : SampledHead) : Option Nat :=
  if h.state = .valid ∨ h.state = .over then h.subIndex else none

/-- Head records are legal and stand in the order of their numbers; what the other blocks read of the heads has the
same numbers, is the head records themselves while no poll is in progress and no sample due, and the own index is the
largest of what it offers; the own index lies in 0..999; the hold timer runs only above CLEAR, with an own index,
short of the clear hold; a sample is due only between rounds, as the very next command, and the hold timer expires at
it; outside LISTENING and NORMAL everything holds its value after reset (R1, R2, R12, R13, R14, R17, R18, R22). -/
abbrev State.AirSound (s : State) : Prop :=
  (∀ h ∈ s.air.heads, h.Legal) ∧ Ascending (s.air.heads.map (fun h => h.settings.number)) ∧
    s.air.sampled.map SampledHead.number = s.air.heads.map (fun h => h.settings.number) ∧
    (s.air.poll = none → s.air.expiring = false → s.air.sampled = s.air.heads.map (fun h =>
      { number := h.settings.number, state := h.state, subIndex := h.subIndex })) ∧
    s.air.ownIndex = largest (s.air.sampled.filterMap SampledHead.offers) ∧ s.air.ownIndex.getD 0 ≤ 999 ∧
    (s.working = false → s.air = .afterReset) ∧
    (s.air.holdTimer ≠ none → s.air.level ≠ .clear ∧ s.air.ownIndex ≠ none ∧
      s.air.holdTimer.getD 0 < clearHold s.settings.holdCode) ∧
    (s.air.expiring = true →
      s.air.poll = none ∧ s.pending.head? = some .alarmHoldTimerExpiry ∧
        s.settings.HoldExpires s.air.level s.air.holdTimer s.air.heads)

end Sys2Proof.Machine
end

