-- ==== Sys2Proof/WellFormed.lean ====
section
/-! DEFINITION. Which commands can be sent: the ranges the spec gives their operands. A command that is not well
formed still has a total meaning (it changes nothing, or is taken as a frame of that content would be). -/

namespace Sys2Proof

/-- `n` lies in 1..`top`. -/
def inOneTo (top n : Nat) : Bool := decide (1 ≤ n) && decide (n ≤ top)

/-- The argument bytes of a COMMAND: its payload holds the code and at most 47 more (R141). -/
def argsFit (args : List Byte) : Bool := decide (args.length ≤ 47)

/-- The command codes of the table of R141. -/
def knownCodes : List Nat :=
  [0x01, 0x02, 0x03, 0x04, 0x10, 0x11, 0x12, 0x13, 0x14, 0x20, 0x21, 0x22, 0x30, 0x31, 0x40, 0x41, 0x7F]

/-- The commands whose operands lie in the ranges the spec gives. -/
def Instr.WellFormed : Instr → Bool
  | .powerOnReset => true
  | .lineReset => true
  | .resetEnd => true
  | .settingsReadComplete record => decide (record.length = 260)
  | .settingsReadTimeout => true
  | .listeningTimerExpiry => true
  | .pollRoundStart => true
  | .headAnswer head _ raw => inOneTo 6 head && decide (raw ≤ 4095)
  | .headAnswerWindowExpiry => true
  | .alarmHoldTimerExpiry => true
  | .purgeFilterChange _ => true
  | .runConfirmActive fan => inOneTo 6 fan
  | .runConfirmLost fan => inOneTo 6 fan
  | .confirmTimerExpiry fan => inOneTo 6 fan
  | .fallbackStartTimerExpiry fan => inOneTo 6 fan
  | .lossTimerExpiry fan => inOneTo 6 fan
  | .coastTimerExpiry fan => inOneTo 6 fan
  | .fanOverrideExpiry => true
  | .setFanOverride _ _ args => argsFit args
  | .clearFanOverride _ _ args => argsFit args
  | .lockOutFan _ _ args => argsFit args
  | .unlockFan _ _ args => argsFit args
  | .clearFanFault _ _ args => argsFit args
  | .bayScanStart => true
  | .bayAnswer bay _ => inOneTo 64 bay
  | .bayReadNoAnswer => true
  | .setBayService _ _ args => argsFit args
  | .reserveBay _ _ args => argsFit args
  | .releaseBay _ _ args => argsFit args
  | .reservationExpiry bay => inOneTo 64 bay
  | .loopChange gate _ _ => inOneTo 4 gate
  | .gateTimerExpiry gate => inOneTo 4 gate
  | .trafficRingRotation => true
  | .statusReceived _ _ => true
  | .alertReceived _ _ => true
  | .passageReceived _ _ => true
  | .sweep => true
  | .closeZone _ _ args => argsFit args
  | .openZone _ _ args => argsFit args
  | .signRefreshTimerExpiry sign => inOneTo 4 sign
  | .signExchangeStart => true
  | .signAnswer characters => decide (characters.length = 5)
  | .signAnswerWindowExpiry => true
  | .fallbackSignTimerExpiry => true
  | .motionChange input _ => inOneTo 4 input
  | .motionRepeatTimerExpiry input => inOneTo 4 input
  | .channelHoldTimerExpiry channel => inOneTo 8 channel
  | .dimTimerExpiry channel => inOneTo 8 channel
  | .setLightOverride _ _ args => argsFit args
  | .clearLightOverride _ _ args => argsFit args
  | .lightOverrideExpiry channel => inOneTo 8 channel
  | .idleEvent => true
  | .badCharacter _ => true
  | .addressFilterReject kind _ => decide (kind = 4) || decide (kind = 5)
  | .lengthByteReject length => decide (48 < length.toNat)
  | .frameCheckFail _ length _ => decide (length.toNat ≤ 48)
  | .unknownCommand _ _ code args => argsFit args && !knownCodes.contains code.toNat
  | .queryZone _ _ args => argsFit args
  | .queryBays _ _ args => argsFit args
  | .queryPeers _ _ args => argsFit args
  | .queryCounters _ _ args => argsFit args
  | .restart _ _ args => argsFit args
  | .statusPeriodTimerExpiry => true
  | .spacingTimerExpiry => true
  | .lineBusyInGap => true
  | .gapCountedOut => true
  | .collision => true
  | .txComplete => true
  | .goodCharacter _ => true
  | .startOfCharacter => true
  | .supplyFallsBelowRange => true

end Sys2Proof
end

