-- ==== Sys2Proof/Certificates/Slice0/Obligations.lean ====
section
/-! DEFINITION. The statements for the provers, Part by Part of the manual. -/

section Obligations
open Sys2Proof Sys2Proof.Machine

/-! ### Steps -/

/-- A step takes the command at the front of the queue and is its effect on the state with the queue's rest. With no
command waiting it takes the first command that is due, or counts one millisecond: the model's choice, log 1. A tick takes
one millisecond from every running timer and limit and counts it at every input whose filter runs; a command is due
exactly when its timer stands at 0 in a station state in which it runs, or its line has stood for 60 ms at a level not yet
shown (filters: log 24; the order of those that meet: log 18). -/
def Obligations.StepTakesTheFrontCommand : Prop :=
  ∀ (c : Instr) (rest : List Instr) (s : State),
    step (s.setPending (c :: rest)) = exec c (s.setPending rest) ∧
      (s.pending = [] → s.dueCommands = c :: rest → step s = exec c s) ∧
      (s.pending = [] → s.dueCommands = [] → step s = .next s.tick) ∧
      s.OneMillisecond s.tick ∧ (c ∈ s.dueCommands ↔ s.IsDue c)

/-- Every command answers a next state in every state, and leaves the queue of commands as it is. -/
def Obligations.EveryCommandCompletesAndKeepsTheQueue : Prop :=
  ∀ (c : Instr) (s : State), Answers (exec c s) (fun t => t.pending = s.pending)

/-! ### Resets and station states (Part 10) -/

/-- The three causes hold the part in reset with every block at its values after reset; power-on and line reset clear
the counters (that a fall of the supply keeps them is log 21); where the spec gives no value after reset the model's
stands (logs 3, 5, 6, 7; the lines of the inputs kept, log 4; a receiver that hunts, log 31; the empty image of the
settings memory, log 34). RESET_END enters STARTING with 100 ms for
the settings, and with the supply below its range it does nothing. -/
def Obligations.ResetsHoldThePart : Prop :=
  ∀ (s : State),
    Answers (exec .powerOnReset s) (fun t => t.station = .heldInReset ∧
      t.startup = .held true s.startup.resetLineLow (some 20) ∧ t.counters = .zero ∧ HoldsResetValues s t) ∧
    Answers (exec .lineReset s) (fun t => t.station = .heldInReset ∧
      t.startup = .held s.startup.supplyInRange true s.startup.powerOnTimer ∧ t.counters = .zero ∧
      HoldsResetValues s t) ∧
    Answers (exec .supplyFallsBelowRange s) (fun t => t.station = .heldInReset ∧
      t.startup = .held false s.startup.resetLineLow none ∧ t.counters = s.counters ∧ HoldsResetValues s t) ∧
    (s.station = .heldInReset → s.startup.supplyInRange = true →
      Answers (exec .resetEnd s) (fun t => t.station = .starting ∧ t.startup = .starting true ∧
        t.counters = s.counters ∧ HoldsResetValues s t)) ∧
    (s.startup.supplyInRange = false → Answers (exec .resetEnd s) (fun t => t = s))

/-- RESTART to 63 is taken at once in every state that receives, with no REPORT and the counters kept; answered, it
queues a REPORT of DONE marked for the restart, and the station goes on with a restart pending; to the own address from a
source outside 1..62 it is unanswered and taken at once, with no place asked for. Where the spec gives no value after a
restart the model's stands (logs 3, 5, 6, 7; the lines of the inputs kept, log 4; a receiver that hunts, log 31; the empty
image of the settings memory, log 34). -/
def Obligations.RestartIsTakenAtOnceOrAfterItsReport : Prop :=
  ∀ (s : State) (source destination : Byte),
    (s.takesFrames = true → s.settings.ownAddress ≤ 62 →
      Answers (exec (.restart source 63#8 []) s) (fun t => t.station = .starting ∧
        t.startup = .starting s.startup.supplyInRange ∧ t.counters = s.countersAccepted ∧ HoldsResetValues s t)) ∧
    (s.grants source destination = true →
      Answers (exec (.restart source destination []) s) (fun t => t.bus.restartPending = true ∧
        t.bus.queues = { s.bus.queues with
          report := s.bus.queues.report ++ [{ content := .report source [0x7F#8, 0#8] true, attempts := 0 }] } ∧
        t.counters = s.countersAccepted ∧ OnlyChanges [.bus, .counters] s t)) ∧
    (s.takesFrames = true → s.working = true → s.bus.restartPending = false → s.settings.ownAddress ≤ 62 →
      destination.toNat = s.settings.ownAddress → source.toNat = 0 ∨ 62 < source.toNat →
      Answers (exec (.restart source destination []) s) (fun t => t.station = .starting ∧
        t.startup = .starting s.startup.supplyInRange ∧ t.counters = s.countersAccepted ∧ HoldsResetValues s t))

/-- A record that passes takes the station to LISTENING with its corrected settings; every block begins its working:
heads in WARMUP and the first of them polled, fans STOPPING with full coasts, D and C at the floor, bays and gates
fresh and the first bay in service read, static entries SILENT, signs BLANK and due, channels FORCED or ACTIVE, one
STATUS queued, every timer started. -/
def Obligations.PassingRecordEntersListening : Prop :=
  ∀ (s : State) (record : List Byte), s.station = .starting → s.RestsBeforeSettings →
    recordPasses (record.take 260) = true →
    Answers (exec (.settingsReadComplete record) s) (fun t =>
      (t.station = .listening ∧ t.settings = (settingsOfRecord (record.take 260)).value ∧
        t.startup = { s.startup with
          readTimer := none, listeningTimer := some (2000 * t.settings.sweepInterval), image := record.take 260
          clampedCount := min 255 (settingsOfRecord (record.take 260)).corrections } ∧
        t.counters = s.counters ∧ t.pending = s.pending) ∧
      (t.air.heads.map Head.settings = t.settings.heads ∧
        (∀ h ∈ t.air.heads, h.state = .warmup ∧ h.misses = 0 ∧ h.accumulator = none ∧ h.subIndex = none) ∧
        t.air.sampled = t.settings.heads.map (fun h => { number := h.number, state := .warmup, subIndex := none }) ∧
        t.air.level = .clear ∧ t.air.ownIndex = none ∧ t.air.holdTimer = none ∧
        t.air.roundTimer = some 1000 ∧ t.air.expiring = false ∧
        t.air.poll = (t.settings.heads.map HeadSettings.number).head?.map (fun n => { head := n, window := 100 })) ∧
      (t.vent.fans.map Fan.number = t.settings.fans ∧
        (∀ f ∈ t.vent.fans, f.state = .stopping ∧ f.coast = some (1000 * t.settings.coastTime)) ∧
        t.vent.floor = t.floorNow ∧ t.vent.demand = t.vent.floor ∧ t.vent.commanded = t.vent.floor ∧
        t.vent.runList = [] ∧ t.vent.startQueue = [] ∧ t.vent.dutyPointer = t.settings.fans.head?) ∧
      (t.bays.bays = t.settings.bays.map Bay.fresh ∧ t.bays.scanTimer = some 500 ∧
        t.bays.reading = (t.bays.bays.find? (fun b => decide (b.state ≠ .outOfService))).map
          (fun b => { bay := b.settings.number, window := 4, discarded := false }) ∧
        t.bays.gates.map Gate.settings = t.settings.gates ∧
        (∀ g ∈ t.bays.gates, g.state = .clear ∧ g.timer = none) ∧ t.bays.ring = .empty ∧
        t.bays.ringTimer = some 10000) ∧
      (t.peers.slots = t.settings.statics.map (fun c => some (Peer.ofStatic c)) ++
          List.replicate (16 - t.settings.statics.length) none ∧
        t.peers.sweepTimer = some (1000 * t.settings.sweepInterval) ∧ t.peers.sympathy = false) ∧
      (t.guide.signs.map Sign.settings = t.settings.signs ∧
        (∀ g ∈ t.guide.signs, g.image = .blank ∧ g.due = true ∧ g.refresh = some 5000) ∧
        t.guide.rows = .afterReset ∧ t.guide.closed = s.inputs.purge.filtered) ∧
      (t.light.channels.map Channel.settings = t.settings.channels ∧ t.light.motionSets = t.settings.motion ∧
        (∀ c ∈ t.light.channels,
          if s.inputs.purge.filtered then c.state = .forced ∧ c.output = 100
          else c.state = .active ∧ c.output = c.settings.active ∧
            c.hold = some (1000 * c.settings.holdSeconds))) ∧
      (t.bus.queues = { Queues.empty with status := [{ content := .status, attempts := 0 }] } ∧
        t.bus.periodTimer = some (1000 * t.settings.statusPeriod) ∧ t.bus.spacingTimer = some 1000 ∧
        t.bus.jitter = t.settings.ownAddress % 16 ∧ t.bus.transmitter = .waitingIdle))

/-- A record that fails its check, and a read that is not complete in time, take the station to FALLBACK: six fans
STOPPING with 30 s of coast, C fixed at 70, the 5 s of the BLANK frames begun (log 9), and nothing else changed. The
settings held in FALLBACK, but for the fans, the min speed and the coast of R49, are the model's choice (log 3), and so
is that the image of the settings memory stays as it was (log 34). -/
def Obligations.FailingOrLateRecordEntersFallback : Prop :=
  ∀ (s : State) (record : List Byte) (c : Instr), c ∈ [.settingsReadComplete record, .settingsReadTimeout] →
    (c = .settingsReadComplete record → recordPasses (record.take 260) = false) → s.station = .starting →
    Answers (exec c s) (fun t => t.station = .fallback ∧ t.settings = .fallback ∧
      t.startup = { s.startup with readTimer := none } ∧ t.vent.commanded = 70 ∧
      t.vent.fans = [1, 2, 3, 4, 5, 6].map (fun n =>
        { number := n, state := .stopping, confirm := none, fallbackStart := none, loss := none
          coast := some 30000 }) ∧
      t.vent.runList = [] ∧ t.vent.startQueue = [] ∧ t.vent.dutyPointer = some 1 ∧ t.vent.override = none ∧
      t.guide = { s.guide with fallbackTimer := some 5000 } ∧
      OnlyChanges [.station, .settings, .startup, .vent, .guide] s t)

/-- The corrected settings of any record that passes its check lie in their ranges, the two groups consistent and no
static neighbour of a bad, own or repeated address; every field is the record's own when that lies in its range and the
nearer limit else; and the corrections are one for each field out of range, each slot set aside and each group that
reverts. -/
def Obligations.CorrectedSettingsLieInTheirRanges : Prop :=
  ∀ (r : List Byte), recordPasses r = true →
    (settingsOfRecord r).value.AirLegal ∧ (settingsOfRecord r).value.FansLegal ∧
      (settingsOfRecord r).value.ZoneLegal ∧ RecordGivesFields r (settingsOfRecord r).value ∧
      RecordGivesDevices r (settingsOfRecord r).value ∧ (settingsOfRecord r).corrections = recordCorrections r

/-- One spoiled byte always changes the CRC-16 of the bytes it stands among. -/
def Obligations.CrcFindsAnyOneSpoiledByte : Prop :=
  ∀ (before after : List Byte) (a b : Byte), a ≠ b →
    crc16 (before ++ a :: after) ≠ crc16 (before ++ b :: after)

/-- LISTENING_TIMER_EXPIRY enters NORMAL: the routes are evaluated and the images formed, and no block but the
Guidance Unit, and the sending side it may tell, is disturbed. -/
def Obligations.EndOfListeningEntersNormal : Prop :=
  ∀ (s : State), s.station = .listening →
    Answers (exec .listeningTimerExpiry s) (fun t => t.station = .normal ∧
      t.startup = { s.startup with listeningTimer := none } ∧ t.guide.closed = s.closureHolds ∧
      t.guide.rows = t.evaluateRoutes ∧ (∀ g ∈ t.guide.signs, g.image = t.signImage g.settings) ∧
      OnlyChanges [.station, .startup, .guide, .bus] s t)

/-! ### Air (Part 1) -/

/-- The concentration of a raw reading, with its values at both ends of the range, and its use in the filter, for an
OVER head as for any other. -/
def Obligations.ConcentrationOfARawReading : Prop :=
  ∀ (raw fs : Nat) (h : Head),
    concentration raw fs = raw * fs / 4095 ∧ (raw ≤ 4095 → fs ≤ 1000 → raw * fs ≤ 4095000) ∧
      (raw ≤ 4095 → concentration raw fs ≤ fs) ∧ concentration 0 fs = 0 ∧
      (1 ≤ fs → fs ≤ 4095 → concentration 4094 fs = fs - 1) ∧ concentration 4095 fs = fs ∧
      (h.answer .ok raw).accumulator =
        some (nextAccumulator h.settings.shift (concentration raw h.settings.fullScale) h.accumulator) ∧
      (h.answer .ok 4095).state = .over ∧
      (h.answer .ok 4095).accumulator =
        some (nextAccumulator h.settings.shift h.settings.fullScale h.accumulator)

/-- One filter step: the truncated quotient, at least 1 in size unless the difference is 0; the new accumulator lies
between the old one and 16 c, stays in 0..16000, and an unchanging concentration is reached exactly; the filter runs
at every OK answer of a head with an accumulator. -/
def Obligations.FilterMovesTowardTheReading : Prop :=
  ∀ (a c k raw : Nat) (h : Head), k ≤ 4 →
    (a < 16 * c → nextAccumulator k c (some a) = a + max 1 ((16 * c - a) / 2 ^ k)) ∧
    (16 * c < a → nextAccumulator k c (some a) = a - max 1 ((a - 16 * c) / 2 ^ k)) ∧
    (a = 16 * c → nextAccumulator k c (some a) = a) ∧
    (min a (16 * c) ≤ nextAccumulator k c (some a) ∧ nextAccumulator k c (some a) ≤ max a (16 * c)) ∧
    (k = 0 → nextAccumulator k c (some a) = 16 * c) ∧
    (a ≤ 16000 → c ≤ 1000 → nextAccumulator k c (some a) ≤ 16000) ∧
    (fun x => nextAccumulator k c (some x))^[(16 * c - a) + (a - 16 * c)] a = 16 * c ∧
    (h.accumulator = some a →
      (h.answer .ok raw).accumulator =
        some (nextAccumulator h.settings.shift (concentration raw h.settings.fullScale) (some a)))

/-- An answer from the head polled, within its window, sets that head's record and no other by its status; then the
next head is polled, and no result of the Air Monitor changes, or after the last one the round ends with the air sample:
own index, alarm level, hold timer, head states, an ALERT for a change of level, and one step of demand; only where the
hold timer expires at that sample and ALARM_HOLD_TIMER_EXPIRY is the very next command is the sample left to it (log
13). An answer naming another head changes
nothing (the model's choice, log 19); that the sub-indices reported are the sample's too is log 33. -/
def Obligations.HeadAnswerSetsTheHeadRecord : Prop :=
  ∀ (s : State) (p : Poll) (head raw : Nat) (status : HeadStatus), s.working = true → s.air.poll = some p →
    raw ≤ 4095 →
    (head ≠ p.head → Answers (exec (.headAnswer head status raw) s) (fun t => t = s)) ∧
    Answers (exec (.headAnswer p.head status raw) s) (fun t =>
      t.air.heads = s.air.heads.map (fun h => if h.settings.number = p.head then h.answer status raw else h) ∧
      t.air.roundTimer = s.air.roundTimer ∧
      t.air.poll = ((s.air.heads.map (fun h => h.settings.number)).find? (fun n => decide (p.head < n))).map
        (fun n => { head := n, window := 100 }) ∧
      (t.air.poll ≠ none →
        t.air = { s.air with heads := t.air.heads, poll := t.air.poll } ∧ OnlyChanges [.air] s t) ∧
      (t.air.poll = none → s.RoundEnds t) ∧
      OnlyChanges [.air, .vent, .guide, .light, .bus] s t) ∧
    (∀ h ∈ s.air.heads,
      (status = .fault → h.answer status raw =
        { h with state := .fault, misses := 0, accumulator := none, subIndex := none }) ∧
      (status = .warmup → h.answer status raw =
        { h with state := .warmup, misses := 0, accumulator := none, subIndex := none }) ∧
      (status = .ok → (h.answer status raw).state = (if raw = 4095 then .over else .valid) ∧
        (h.answer status raw).misses = 0 ∧
        (h.accumulator = none →
          (h.answer status raw).accumulator = some (16 * concentration raw h.settings.fullScale)) ∧
        (h.answer status raw).subIndex =
          (h.answer status raw).accumulator.map (fun a => min 999 (a * 100 / (16 * h.settings.limit)))))

/-- POLL_ROUND_START polls the first head, or samples at once with no head; a poll without an answer raises the miss
count, puts the head in FAULT at the third, counts HEAD_MISS, and the round goes on, after the last head with the air
sample. Until the sample no result of the Air Monitor changes; that the sub-indices reported are the sample's too is
log 33. A start during a round begins a new one (log 20). Only where the hold timer expires at the sample and
ALARM_HOLD_TIMER_EXPIRY is the very next command is the sample left to it, and a round that starts while one is due takes
it first (log 13). -/
def Obligations.PollRoundsAndMissedPolls : Prop :=
  ∀ (s : State) (p : Poll), s.working = true →
    Answers (exec .pollRoundStart s) (fun t => t.air.roundTimer = some 1000 ∧ t.air.heads = s.air.heads ∧
      t.air.poll = ((s.air.heads.map (fun h => h.settings.number)).find? (fun n => decide (0 < n))).map
        (fun n => { head := n, window := 100 }) ∧
      (s.air.expiring = false → t.air.poll ≠ none →
        t.air = { s.air with roundTimer := some 1000, poll := t.air.poll } ∧ OnlyChanges [.air] s t) ∧
      (s.air.expiring = false → t.air.poll = none → s.RoundEnds t) ∧
      (s.air.expiring = true → t.air.expiring = false ∧ s.Sampled t) ∧
      OnlyChanges [.air, .vent, .guide, .light, .bus] s t) ∧
    (s.air.poll = some p →
      Answers (exec .headAnswerWindowExpiry s) (fun t =>
        t.air.heads = s.air.heads.map (fun h =>
          if h.settings.number = p.head then
            if h.misses + 1 < 3 then { h with misses := h.misses + 1 }
            else { h with state := .fault, misses := 3, accumulator := none, subIndex := none }
          else h) ∧
        t.counters = s.counters.bump .headMiss ∧
        t.air.poll = ((s.air.heads.map (fun h => h.settings.number)).find? (fun n => decide (p.head < n))).map
          (fun n => { head := n, window := 100 }) ∧
        (t.air.poll ≠ none →
          t.air = { s.air with heads := t.air.heads, poll := t.air.poll } ∧ OnlyChanges [.air, .counters] s t) ∧
        (t.air.poll = none → s.RoundEnds t) ∧
        OnlyChanges [.air, .vent, .guide, .light, .bus, .counters] s t))

/-- The step of alarm level and hold timer at an air sample, row by row: no index; a rise to the highest level met;
CLEAR; at or above the release point; and below it by hold code and hold count. -/
def Obligations.AlarmStepFollowsTheTable : Prop :=
  ∀ (c : Settings) (i e : Nat) (l : AlarmLevel) (hold : Option Nat), 1 ≤ c.tWatch → c.tWatch < c.tWarning →
    c.tWarning < c.tAlarm →
    c.alarmStep none l hold = (l, none) ∧
    ((∃ m ∈ AlarmLevel.withThreshold, l.code < m.code ∧ c.threshold m ≤ i) →
      (c.alarmStep (some i) l hold).2 = none ∧ l.code < (c.alarmStep (some i) l hold).1.code ∧
      c.threshold (c.alarmStep (some i) l hold).1 ≤ i ∧
      ∀ m ∈ AlarmLevel.withThreshold, (c.alarmStep (some i) l hold).1.code < m.code → i < c.threshold m) ∧
    ((∀ m ∈ AlarmLevel.withThreshold, l.code < m.code → i < c.threshold m) →
      (l = .clear → c.alarmStep (some i) l hold = (.clear, none)) ∧
      (l ≠ .clear → max 1 (c.threshold l - c.hysteresis) ≤ i → c.alarmStep (some i) l hold = (l, none)) ∧
      (l ≠ .clear → i < max 1 (c.threshold l - c.hysteresis) →
        (c.holdCode = 0 → c.alarmStep (some i) l hold = (l.lower, none)) ∧
        (0 < clearHold c.holdCode →
          c.alarmStep (some i) l none = (l, some 0) ∧
          (e + 1 < clearHold c.holdCode → c.alarmStep (some i) l (some e) = (l, some (e + 1))) ∧
          (e + 1 = clearHold c.holdCode → c.alarmStep (some i) l (some e) =
            (l.lower, if l.lower ≠ .clear ∧ i < max 1 (c.threshold l.lower - c.hysteresis) then some 0
              else none)))))

/-- ALARM_HOLD_TIMER_EXPIRY, the air sample of the round just ended, at which the hold timer expires (log 13): the level
falls by exactly one, the timer is restarted or absent, an ALERT is queued behind any on the line, demand is stepped,
closure and forcing follow, no head record changes, and no sample of that round is due any more. Where no round waits for
it, nothing happens. A round whose sample is left to it ends in the very state in which it ends when the sample is taken
inside its last command, which is so whenever this command is not the next. -/
def Obligations.HoldExpiryLowersTheLevelByOne : Prop :=
  ∀ (s : State) (e i head raw : Nat) (status : HeadStatus) (c : Instr) (rest : List Instr),
    (s.working = true → 1 ≤ s.settings.tWatch → s.settings.tWatch < s.settings.tWarning →
      s.settings.tWarning < s.settings.tAlarm → s.air.expiring = true → s.air.holdTimer = some e →
      largest (s.air.heads.filterMap Head.offers) = some i → 0 < clearHold s.settings.holdCode →
      clearHold s.settings.holdCode ≤ e + 1 → i < s.settings.releasePoint s.air.level →
      Answers (exec .alarmHoldTimerExpiry s) (fun t =>
        t.air = { s.air with
          sampled := s.air.heads.map (fun h =>
            { number := h.settings.number, state := h.state, subIndex := h.subIndex })
          ownIndex := some i
          level := s.air.level.lower
          holdTimer := if i < s.settings.releasePoint s.air.level.lower then some 0 else none
          expiring := false } ∧
        s.Sampled t ∧ s.AlertQueued t ∧ t.guide.closed = t.closureHolds ∧
        (s.LightingSound → ∀ c ∈ t.light.channels, (c.state = .forced ↔ t.forcingHolds = true)) ∧
        OnlyChanges [.air, .vent, .guide, .light, .bus] s t)) ∧
    (s.working = false ∨ s.air.expiring = false → Answers (exec .alarmHoldTimerExpiry s) (fun t => t = s)) ∧
    (s.air.expiring = false → c ∈ [.headAnswer head status raw, .headAnswerWindowExpiry, .pollRoundStart] →
      rest.head? ≠ some .alarmHoldTimerExpiry →
      Answers (exec c (s.setPending rest)) (fun t => t.air.expiring = false ∧
        Answers (exec c (s.setPending (.alarmHoldTimerExpiry :: rest))) (fun u =>
          exec .alarmHoldTimerExpiry (u.setPending rest) = .next t)))

/-- In LISTENING and NORMAL no command lowers the alarm level by more than one, and none changes it while the own index
is absent. -/
def Obligations.AlarmLevelFallsByAtMostOne : Prop :=
  ∀ (c : Instr) (s : State), s.working = true →
    Answers (exec c s) (fun t => t.working = true →
      s.air.level.code ≤ t.air.level.code + 1 ∧ (t.air.ownIndex = none → t.air.level = s.air.level))

/-! ### Ventilation (Part 2) -/

/-- A change of the filtered purge state is kept and forms closure in every state but the hold of a reset; in LISTENING
and NORMAL it also recomputes demand without a rate step, queues an ALERT and forms forcing. Premise of the ALERT's
place: the sending side is sound; of forcing: the channels are; every step keeps both. -/
def Obligations.PurgeChangeReachesEveryBlock : Prop :=
  ∀ (s : State) (asserted : Bool), s.station ≠ .heldInReset → s.inputs.purge.filtered ≠ asserted →
    Answers (exec (.purgeFilterChange asserted) s) (fun t =>
      t.inputs = { s.inputs with purge := { line := asserted, filtered := asserted, steadyMs := 0 } } ∧
      t.guide.closed = t.closureHolds ∧
      (s.working = true → t.vent.floor = t.floorNow ∧ t.vent.demand = t.demandNow ∧
        t.vent.commanded = max s.vent.commanded t.vent.floor ∧ (asserted = true → 100 ≤ t.vent.floor) ∧
        (s.SendingSound → s.AlertQueued t) ∧
        (s.LightingSound → ∀ c ∈ t.light.channels, (c.state = .forced ↔ t.forcingHolds = true)) ∧
        OnlyChanges [.inputs, .vent, .guide, .light, .bus] s t) ∧
      (s.working = false → OnlyChanges [.inputs, .guide] s t))

/-- The pollution term: 0 without an effective index or at or below E_lo, 100 at or above E_hi, and between them the
proportion rounded up, so at least 1; without an override it enters D beside the traffic term and the floor. -/
def Obligations.PollutionTermIsRoundedUp : Prop :=
  ∀ (lo hi e : Nat) (s : State) (sample : Bool), lo < hi →
    pollutionTerm lo hi none = 0 ∧ (e ≤ lo → pollutionTerm lo hi (some e) = 0) ∧
    (hi ≤ e → pollutionTerm lo hi (some e) = 100) ∧
    (lo < e → e < hi → 1 ≤ pollutionTerm lo hi (some e) ∧
      (e - lo) * 100 ≤ pollutionTerm lo hi (some e) * (hi - lo) ∧
      (pollutionTerm lo hi (some e) - 1) * (hi - lo) < (e - lo) * 100) ∧
    pollutionTerm lo hi (some e) ≤ 100 ∧ pollutionTerm 40 120 (some 41) = 2 ∧
    (s.working = true → s.vent.override = none → (s.recompute sample).vent.demand =
      max (pollutionTerm s.settings.eLo s.settings.eHi s.effectiveIndex) (max s.trafficTerm s.floorNow))

/-- The effective index is the largest of the own index and floor(I × w / 100) of each FRESH static neighbour with a
weight above 0 and an index, and absent when there is none. At an air sample D is formed afresh, C takes one rate step
toward D by its mode, and is then lifted to the floor. -/
def Obligations.AirSampleStepsDemand : Prop :=
  ∀ (s : State), s.working = true →
    (∀ e : Nat, s.effectiveIndex = some e ↔ s.IndexOffered e ∧ ∀ x, s.IndexOffered x → x ≤ e) ∧
    (s.effectiveIndex = none ↔ ∀ x, ¬s.IndexOffered x) ∧ s.DemandStepped s.airSample

/-- In LISTENING and NORMAL C falls only at a command that can bring an air sample (ALARM_HOLD_TIMER_EXPIRY is one by log
13), and rises by no more than the up rate but to the floor. -/
def Obligations.CommandedDemandFallsOnlyAtAnAirSample : Prop :=
  ∀ (c : Instr) (s : State), s.working = true →
    Answers (exec c s) (fun t => t.working = true →
      (t.vent.commanded < s.vent.commanded → maySample c = true) ∧
      t.vent.commanded ≤ max t.vent.floor (s.vent.commanded + s.settings.upRate))

/-- RUN_CONFIRM_ACTIVE makes a STARTING fan RUNNING and discards the loss timer of a RUNNING one; RUN_CONFIRM_LOST
starts it at 2 s; in FALLBACK the 20 s make a STARTING fan RUNNING. A change of the input in FALLBACK or STARTING, or of
a fan in another state or not configured, is kept in the filtered input and does nothing else. -/
def Obligations.ConfirmedFanRuns : Prop :=
  ∀ (s : State) (n : Nat) (f : Fan) (i : FilteredInput),
    (s.station ≠ .heldInReset → inputAt? s.inputs.runConfirm n = some i →
      (s.working = false ∨ (s.vent.fan? n).all (fun x => decide (x.state ≠ .starting ∧ x.state ≠ .running)) = true →
        i.filtered = false → Answers (exec (.runConfirmActive n) s) (fun t =>
          t.inputs = { s.inputs with
            runConfirm := s.inputs.runConfirm.set (n - 1) { line := true, filtered := true, steadyMs := 0 } } ∧
          OnlyChanges [.inputs] s t)) ∧
      (s.working = false ∨ (s.vent.fan? n).all (fun x => decide (x.state ≠ .running)) = true →
        i.filtered = true → Answers (exec (.runConfirmLost n) s) (fun t =>
          t.inputs = { s.inputs with
            runConfirm := s.inputs.runConfirm.set (n - 1) { line := false, filtered := false, steadyMs := 0 } } ∧
          OnlyChanges [.inputs] s t))) ∧
    (s.vent.fan? n = some f → s.working = true → inputAt? s.inputs.runConfirm n = some i → i.filtered = false →
      f.state = .starting → s.vent.Sound →
      Answers (exec (.runConfirmActive n) s) (fun t =>
        t.inputs = { s.inputs with
          runConfirm := s.inputs.runConfirm.set (n - 1) { line := true, filtered := true, steadyMs := 0 } } ∧
        (t.vent.fan? n).map Fan.state = some .running ∧ n ∈ t.vent.runList ∧ t.vent.Sound ∧
        OnlyChanges [.inputs, .vent, .guide, .bus] s t)) ∧
    (s.vent.fan? n = some f → s.working = true → inputAt? s.inputs.runConfirm n = some i → i.filtered = false →
      f.state = .running →
      Answers (exec (.runConfirmActive n) s) (fun t =>
        t.inputs = { s.inputs with
          runConfirm := s.inputs.runConfirm.set (n - 1) { line := true, filtered := true, steadyMs := 0 } } ∧
        t.vent = s.vent.mapFan n (fun x => { x with loss := none }) ∧ OnlyChanges [.inputs, .vent] s t)) ∧
    (s.vent.fan? n = some f → s.working = true → inputAt? s.inputs.runConfirm n = some i → i.filtered = true →
      f.state = .running →
      Answers (exec (.runConfirmLost n) s) (fun t =>
        t.inputs = { s.inputs with
          runConfirm := s.inputs.runConfirm.set (n - 1) { line := false, filtered := false, steadyMs := 0 } } ∧
        t.vent = s.vent.mapFan n (fun x => { x with loss := some 2000 }) ∧ OnlyChanges [.inputs, .vent] s t)) ∧
    (s.vent.fan? n = some f → s.station = .fallback → f.state = .starting → f.fallbackStart ≠ none → s.vent.Sound →
      Answers (exec (.fallbackStartTimerExpiry n) s) (fun t => (t.vent.fan? n).map Fan.state = some .running ∧
        n ∈ t.vent.runList ∧ t.vent.Sound ∧ OnlyChanges [.vent, .guide, .bus] s t))

/-- An expired confirm or loss timer puts its fan in FAULT, out of both lists, with h one less, and the duty pointer
moves on when it was the last in the run list; an expired coast brings its fan to rest, where it stays unless fans are
short. -/
def Obligations.FailedOrRestingFan : Prop :=
  ∀ (s : State) (n : Nat) (f : Fan) (c : Instr), s.vent.fan? n = some f → s.vent.Sound →
    (s.working = true →
      (c = .confirmTimerExpiry n ∧ f.state = .starting ∧ f.confirm ≠ none) ∨
        (c = .lossTimerExpiry n ∧ f.state = .running ∧ f.loss ≠ none) →
      Answers (exec c s) (fun t => (t.vent.fan? n).map Fan.state = some .fault ∧ n ∉ t.vent.runList ∧
        n ∉ t.vent.startQueue ∧ t.vent.healthyCount = s.vent.healthyCount - 1 ∧ t.vent.ventDegraded = true ∧
        t.vent.dutyPointer = (if s.vent.runList = [n] then s.vent.nextDuty else s.vent.dutyPointer) ∧
        t.vent.Sound ∧ OnlyChanges [.vent, .guide, .bus] s t)) ∧
    (s.receiving = true → c = .coastTimerExpiry n → f.state = .stopping → f.coast ≠ none →
      Answers (exec c s) (fun t =>
        (t.vent.fan? n).map Fan.state ∈ [some .stopped, some .queued, some .starting, some .running] ∧
        (plannedCount s.vent.commanded s.vent.healthyCount ≤ s.vent.runList.length + s.vent.startQueue.length →
          (t.vent.fan? n).map Fan.state = some .stopped) ∧
        t.vent.Sound ∧ OnlyChanges [.vent, .guide, .bus] s t))

/-- After an allocation pass no more fans run or are queued than planned: of too many, the last queued return to STOPPED
and then the last started enter STOPPING with a full coast; of too few, STOPPED fans are queued in duty order; all other
fans keep their places; the duty pointer moves on when the run list becomes empty. A shortfall stands only while no fan
is STOPPED, a waiting fan waits only for one in STARTING, and speed, outputs and flags are formed from C and h; the
output of a number not configured is 0. -/
def Obligations.AllocationMeetsThePlan : Prop :=
  ∀ (s : State) (n k : Nat) (chosen : List Nat), s.vent.Ordered →
    n = plannedCount s.vent.commanded s.vent.healthyCount →
    chosen = s.vent.available.take (n - (s.vent.runList.length + s.vent.startQueue.length)) →
    s.allocate.vent.runList ++ s.allocate.vent.startQueue =
      s.vent.runList.take n ++ s.vent.startQueue.take (n - s.vent.runList.length) ++ chosen ∧
    s.vent.runList.take n <+: s.allocate.vent.runList ∧
    (∀ f ∈ s.vent.fans,
      (f.number ∈ s.vent.runList.drop n → s.allocate.vent.fan? f.number = some
        { number := f.number, state := .stopping, confirm := none, fallbackStart := none, loss := none
          coast := some (1000 * s.settings.coastTime) }) ∧
      (f.number ∈ s.vent.startQueue.drop (n - s.vent.runList.length) → s.allocate.vent.fan? f.number = some
        { number := f.number, state := .stopped, confirm := none, fallbackStart := none, loss := none
          coast := none }) ∧
      (f.number ∉ s.vent.runList → f.number ∉ s.vent.startQueue → f.number ∉ chosen → f ∈ s.allocate.vent.fans) ∧
      (f.state = .running → f.number ∈ s.vent.runList.take n → f ∈ s.allocate.vent.fans)) ∧
    s.allocate.vent.fans.map Fan.number = s.vent.fans.map Fan.number ∧
    s.allocate.vent.dutyPointer =
      (if s.vent.runList ≠ [] ∧ n = 0 then s.vent.nextDuty else s.vent.dutyPointer) ∧
    s.allocate.vent.outputOf k = (if k ∈ s.allocate.vent.runList then s.allocate.vent.speed else 0) ∧
    s.allocate.vent.Sound ∧ s.allocate.vent.commanded = s.vent.commanded ∧
    s.allocate.vent.healthyCount = s.vent.healthyCount ∧
    (s.allocate.vent.runList.length + s.allocate.vent.startQueue.length < n →
      ∀ f ∈ s.allocate.vent.fans, f.state ≠ .stopped) ∧
    (s.allocate.vent.startQueue ≠ [] → ∃ f ∈ s.allocate.vent.fans, f.state = .starting) ∧
    (s.allocate.vent.runList ≠ [] → s.allocate.vent.speed = clampTo s.settings.minSpeed 100
      (ceilDiv (s.vent.commanded * s.vent.healthyCount) s.allocate.vent.runList.length)) ∧
    (∀ f ∈ s.allocate.vent.fans, s.allocate.vent.output f =
      (if f.number ∈ s.allocate.vent.runList then s.allocate.vent.speed else 0)) ∧
    s.allocate.vent.ventDegraded = decide (s.vent.healthyCount < s.vent.fans.length) ∧
    s.allocate.vent.ventLost = (decide (s.vent.healthyCount = 0) && decide (s.vent.fans ≠ []))

/-- SET FAN OVERRIDE, CLEAR FAN OVERRIDE and the expiry set and end the override; demand is recomputed at once, the
override standing for P and T but never below the floor, and C takes no rate step; out of range it is refused. -/
def Obligations.FanOverrideReplacesTheTerms : Prop :=
  ∀ (s : State) (source destination v m : Byte),
    (s.grants source destination = true → v.toNat ≤ 100 → m.toNat ≤ 240 →
      Answers (exec (.setFanOverride source destination [v, m]) s) (fun t =>
        t.vent.override = some { value := v.toNat
                                 limit := if m = 0#8 then .untilEnded else .remaining (60000 * m.toNat) } ∧
        t.vent.floor = t.floorNow ∧ t.vent.demand = max v.toNat t.vent.floor ∧
        t.vent.commanded = max s.vent.commanded t.vent.floor ∧
        t.bus.queues.report = s.reportsWith source 0x10#8 0#8 [] ∧ t.counters = s.countersAccepted ∧
        OnlyChanges [.vent, .guide, .bus, .counters] s t)) ∧
    (s.grants source destination = true → 100 < v.toNat ∨ 240 < m.toNat →
      Answers (exec (.setFanOverride source destination [v, m]) s) (fun t =>
        t.bus.queues.report = s.reportsWith source 0x10#8 2#8 [] ∧ OnlyChanges [.bus, .counters] s t)) ∧
    (s.grants source destination = true →
      Answers (exec (.clearFanOverride source destination []) s) (fun t => t.vent.override = none ∧
        (s.vent.override = none → t.vent = s.vent) ∧
        (s.vent.override ≠ none → t.vent.floor = t.floorNow ∧ t.vent.demand = t.demandNow ∧
          t.vent.commanded = max s.vent.commanded t.vent.floor) ∧
        t.bus.queues.report = s.reportsWith source 0x11#8 0#8 [] ∧ t.counters = s.countersAccepted ∧
        OnlyChanges [.vent, .guide, .bus, .counters] s t)) ∧
    (s.working = true → s.vent.override.any (fun o => o.limit.runs) = true →
      Answers (exec .fanOverrideExpiry s) (fun t => t.vent.override = none ∧ t.vent.floor = t.floorNow ∧
        t.vent.demand = t.demandNow ∧ t.vent.commanded = max s.vent.commanded t.vent.floor ∧
        OnlyChanges [.vent, .guide, .bus] s t))

/-- LOCK OUT FAN takes a fan out of the lists from any state, and the duty pointer moves on when it was the last in the
run list; UNLOCK FAN and CLEAR FAN FAULT take a fan from LOCKED_OUT
and from FAULT to STOPPING with a full coast, and are refused with REFUSED_STATE in every other state. -/
def Obligations.FanServiceCommandsSetTheFanState : Prop :=
  ∀ (s : State) (source destination fan : Byte) (f : Fan), s.grants source destination = true →
    s.vent.fan? fan.toNat = some f → s.vent.Sound →
    Answers (exec (.lockOutFan source destination [fan]) s) (fun t =>
      t.vent.fan? fan.toNat = some { number := f.number, state := .lockedOut, confirm := none, fallbackStart := none
                                     loss := none, coast := none } ∧
      fan.toNat ∉ t.vent.runList ∧ fan.toNat ∉ t.vent.startQueue ∧ t.vent.Sound ∧
      t.vent.dutyPointer = (if s.vent.runList = [fan.toNat] then s.vent.nextDuty else s.vent.dutyPointer) ∧
      t.bus.queues.report = s.reportsWith source 0x12#8 0#8 [] ∧ t.counters = s.countersAccepted ∧
      OnlyChanges [.vent, .guide, .bus, .counters] s t) ∧
    (∀ q ∈ [(Instr.unlockFan source destination [fan], FanState.lockedOut, 0x13#8),
        (Instr.clearFanFault source destination [fan], FanState.fault, 0x14#8)],
      (f.state = q.2.1 → Answers (exec q.1 s) (fun t =>
        t.vent.fan? fan.toNat = some { number := f.number, state := .stopping, confirm := none, fallbackStart := none
                                       loss := none, coast := some (1000 * s.settings.coastTime) } ∧
        t.vent.Sound ∧ t.bus.queues.report = s.reportsWith source q.2.2 0#8 [] ∧
        t.counters = s.countersAccepted ∧ OnlyChanges [.vent, .guide, .bus, .counters] s t)) ∧
      (f.state ≠ q.2.1 → Answers (exec q.1 s) (fun t =>
        t.bus.queues.report = s.reportsWith source q.2.2 1#8 [] ∧ OnlyChanges [.bus, .counters] s t)))

/-! ### Bays, gates and traffic (Part 3) -/

/-- A scan reads the bays in service in order; the answer of the bay read counts its runs and debounces its state, a
read without an answer and one answered in another bay's name are FAULT answers, a change between FREE and OCCUPIED is a
presence event for the bay's channel, and no other bay changes. The answer of a bay put out of service during its read
is discarded, and the next bay is read then too (log 14). A start during a scan begins a new one (log 20). -/
def Obligations.BayAnswersDebounce : Prop :=
  ∀ (s : State) (r : BayRead) (b : Bay) (a : BayAnswer) (other : Nat), s.working = true →
    Answers (exec .bayScanStart s) (fun t => t.bays = { s.bays with
      scanTimer := some 500
      reading := (s.bays.bays.find? (fun x => decide (0 < x.settings.number) && decide (x.state ≠ .outOfService))).map
        (fun x => { bay := x.settings.number, window := 4, discarded := false }) } ∧ OnlyChanges [.bays] s t) ∧
    (s.bays.reading = some r → s.bays.bay? r.bay = some b → s.BaysSound →
      ∀ q ∈ [(Instr.bayAnswer other a, if other = r.bay then a else .fault), (.bayReadNoAnswer, .fault)],
        (r.discarded = true → Answers (exec q.1 s) (fun t =>
          t.bays = { s.bays with
            reading := (s.bays.bays.find? (fun x =>
                decide (r.bay < x.settings.number) && decide (x.state ≠ .outOfService))).map
              (fun x => { bay := x.settings.number, window := 4, discarded := false }) } ∧
          OnlyChanges [.bays] s t)) ∧
        (r.discarded = false → Answers (exec q.1 s) (fun t =>
          t.bays = { s.bays with
            bays := s.bays.bays.map (fun x => if x.settings.number = r.bay then b.answer s.settings q.2 else x)
            reading := (t.bays.bays.find? (fun x =>
                decide (r.bay < x.settings.number) && decide (x.state ≠ .outOfService))).map
              (fun x => { bay := x.settings.number, window := 4, discarded := false }) } ∧
          t.light.channels = s.light.channels.map (fun c =>
            if c.number = b.settings.channel ∧
                (b.state, (b.answer s.settings q.2).state) ∈ [(BayState.free, BayState.occupied), (.occupied, .free)]
            then c.raised else c) ∧
          OnlyChanges [.bays, .guide, .light, .bus] s t))) ∧
    (b.Legal → b.state = .outOfService → b.answer s.settings a = b) ∧
    (b.Legal → b.state ≠ .outOfService →
      b.answer s.settings .fault = { b with
        onCount := 0, offCount := 0, faultCount := min 3 (b.faultCount + 1)
        state := if 3 ≤ b.faultCount + 1 then .fault else b.state
        reservation := if 3 ≤ b.faultCount + 1 then none else b.reservation } ∧
      (b.state = .fault → b.answer s.settings a = if a = .fault then b.answer s.settings .fault else
        { b with state := .unknown, onCount := 0, offCount := 0, faultCount := 0 }.answer s.settings a) ∧
      (b.state ≠ .fault →
        b.answer s.settings .present = { b with
          offCount := 0, onCount := min 16 (b.onCount + 1), faultCount := 0
          state := if s.settings.nOn ≤ min 16 (b.onCount + 1) then .occupied else b.state
          reservation := if s.settings.nOn ≤ min 16 (b.onCount + 1) then none else b.reservation } ∧
        b.answer s.settings .absent = { b with
          onCount := 0, offCount := min 16 (b.offCount + 1), faultCount := 0
          state := if s.settings.nOff ≤ min 16 (b.offCount + 1) ∧ b.state ≠ .reserved then .free else b.state }))

/-- RESERVE BAY, RELEASE BAY, SET BAY SERVICE and the expiry of a reservation change the one bay they name, by its
state, and nothing in any other bay; a bay put out while it is read will have its answer discarded; in the wrong state
reserve and release are refused. -/
def Obligations.ReservationsAndServiceOfABay : Prop :=
  ∀ (s : State) (source destination bay m : Byte) (b : Bay), s.bays.bay? bay.toNat = some b → s.BaysSound →
    (s.grants source destination = true → m.toNat ≤ 240 →
      Answers (exec (.reserveBay source destination [bay, m]) s) (fun t =>
        (b.state = .free ∨ b.state = .reserved →
          t.bays = { s.bays with bays := s.bays.bays.map (fun x => if x.settings.number = bay.toNat then
            { b with state := .reserved
                     reservation := some (if m = 0#8 then .untilEnded else .remaining (60000 * m.toNat)) } else x) } ∧
          t.bus.queues.report = s.reportsWith source 0x20#8 0#8 []) ∧
        (b.state ≠ .free → b.state ≠ .reserved → OnlyChanges [.bus, .counters] s t ∧
          t.bus.queues.report = s.reportsWith source 0x20#8 1#8 []) ∧
        t.counters = s.countersAccepted ∧ OnlyChanges [.bays, .guide, .bus, .counters] s t)) ∧
    (s.grants source destination = true →
      Answers (exec (.releaseBay source destination [bay]) s) (fun t =>
        (b.state = .reserved →
          t.bays = { s.bays with bays := s.bays.bays.map (fun x => if x.settings.number = bay.toNat then
            { b with state := .free, reservation := none } else x) } ∧
          t.bus.queues.report = s.reportsWith source 0x21#8 0#8 []) ∧
        (b.state ≠ .reserved → OnlyChanges [.bus, .counters] s t ∧
          t.bus.queues.report = s.reportsWith source 0x21#8 1#8 []) ∧
        t.counters = s.countersAccepted ∧ OnlyChanges [.bays, .guide, .bus, .counters] s t)) ∧
    (s.grants source destination = true →
      Answers (exec (.setBayService source destination [bay, 0#8]) s) (fun t =>
        t.bays = { s.bays with
          bays := s.bays.bays.map (fun x => if x.settings.number = bay.toNat then
            { b with state := .outOfService, onCount := 0, offCount := 0, faultCount := 0, reservation := none }
            else x)
          reading := s.bays.reading.map (fun r =>
            { r with discarded := r.discarded || decide (r.bay = bay.toNat) }) } ∧
        t.bus.queues.report = s.reportsWith source 0x22#8 0#8 [] ∧ t.counters = s.countersAccepted ∧
        OnlyChanges [.bays, .guide, .bus, .counters] s t)) ∧
    (s.grants source destination = true →
      Answers (exec (.setBayService source destination [bay, 1#8]) s) (fun t =>
        t.bays = { s.bays with bays := s.bays.bays.map (fun x =>
          if x.settings.number = bay.toNat ∧ b.state = .outOfService then
            { b with state := .unknown, onCount := 0, offCount := 0, faultCount := 0 }
          else x) } ∧
        t.bus.queues.report = s.reportsWith source 0x22#8 0#8 [] ∧ t.counters = s.countersAccepted ∧
        OnlyChanges [.bays, .guide, .bus, .counters] s t)) ∧
    (s.working = true → b.state = .reserved → b.reservation.any TimeLimit.runs = true →
      Answers (exec (.reservationExpiry bay.toNat) s) (fun t =>
        t.bays = { s.bays with bays := s.bays.bays.map (fun x => if x.settings.number = bay.toNat then
          { b with state := .free, reservation := none } else x) } ∧
        OnlyChanges [.bays, .guide, .bus] s t)) ∧
    (b.reservation = some .untilEnded →
      Answers (exec (.reservationExpiry bay.toNat) s) (fun t => t = s))

/-- A loop change steps the gate by the two tables, starts its timer on leaving CLEAR and discards it on return. A
passage is completed from EXITING_IN and EXITING_OUT alone: the current bucket rises by one and stays at 255, the gate's
channels come up, and on OUT toward a station a PASSAGE is queued, or PASSAGE_DROP counted. In BLOCKED only both loops
off lead back to CLEAR. The gate timer's end blocks the gate and counts GATE_STUCK. The ring rotates every 10 s. -/
def Obligations.GateMachineFollowsItsTables : Prop :=
  ∀ (s : State) (g : Gate) (loop : Loop) (on : Bool) (station : Nat), s.working = true → g ∈ s.bays.gates → s.BaysSound →
    (s.inputs.loopOn g.settings.number loop ≠ on →
      Answers (exec (.loopChange g.settings.number loop on) s) (fun t =>
        t.inputs.loopOn g.settings.number loop = on ∧
        (∀ n ∈ [1, 2, 3, 4], ∀ l ∈ [Loop.outer, .inner], (n ≠ g.settings.number ∨ l ≠ loop) →
          t.inputs.loopOn n l = s.inputs.loopOn n l) ∧
        (t.bays.gates.filter (fun x => x.settings.number ≠ g.settings.number) =
          s.bays.gates.filter (fun x => x.settings.number ≠ g.settings.number)) ∧
        (∃ x ∈ t.bays.gates, x.settings = g.settings ∧
          x.timer = (if x.state = .clear then none else if g.state = .clear then some 10000 else g.timer) ∧
          (g.state ≠ .blocked → (g.state, loop, on, x.state) ∈ gateRows) ∧
          (g.state = .blocked → x.state = if t.inputs.loopOn g.settings.number .outer = false ∧
            t.inputs.loopOn g.settings.number .inner = false then .clear else .blocked)) ∧
        (¬(g.state = .exitingIn ∧ loop = .inner ∧ on = false) → ¬(g.state = .exitingOut ∧ loop = .outer ∧ on = false) →
          t.bays = { s.bays with gates := t.bays.gates } ∧ OnlyChanges [.inputs, .bays] s t) ∧
        ((g.state = .exitingIn ∧ loop = .inner ∧ on = false) ∨ (g.state = .exitingOut ∧ loop = .outer ∧ on = false) →
          t.bays.ring = { s.bays.ring with current := min 255 (max s.bays.ring.current (s.bays.ring.current + 1)) } ∧
          t.light.channels = s.light.raised g.settings.channels ∧
          (g.state = .exitingIn ∨ g.settings.farSide = none → OnlyChanges [.inputs, .bays, .light] s t) ∧
          (g.state = .exitingOut → g.settings.farSide = some station → s.bus.queues.passage.length < 4 →
            t.bus.queues = { s.bus.queues with
              passage := s.bus.queues.passage ++ [{ content := .passage (byteOf station), attempts := 0 }] } ∧
            OnlyChanges [.inputs, .bays, .light, .bus] s t) ∧
          (g.state = .exitingOut → g.settings.farSide = some station → 4 ≤ s.bus.queues.passage.length →
            t.counters = s.counters.bump .passageDrop ∧ OnlyChanges [.inputs, .bays, .light, .counters] s t)) ∧
        t.bays = { s.bays with gates := t.bays.gates, ring := t.bays.ring } ∧
        OnlyChanges [.inputs, .bays, .light, .bus, .counters] s t)) ∧
    (g.timer ≠ none →
      Answers (exec (.gateTimerExpiry g.settings.number) s) (fun t =>
        t.bays = { s.bays with
          gates := s.bays.gates.map (fun x => if x.settings.number = g.settings.number then
            { g with state := .blocked, timer := none } else x) } ∧
        t.counters = s.counters.bump .gateStuck ∧ OnlyChanges [.bays, .counters] s t)) ∧
    Answers (exec .trafficRingRotation s) (fun t =>
      t.bays = { s.bays with
        ring := { oldest := s.bays.ring.second, second := s.bays.ring.third, third := s.bays.ring.fourth
                  fourth := s.bays.ring.fifth, fifth := s.bays.ring.current, current := 0 }
        ringTimer := some 10000 } ∧ OnlyChanges [.bays] s t)

/-- Four loop changes of a car that drives through a gate at rest are one passage: the current bucket rises by one, the
gate's channels come up, a passage OUT toward a station queues one PASSAGE or counts PASSAGE_DROP, and the gate is as
before. A car that only noses in leaves no trace but the filtered inputs. -/
def Obligations.ACarDrivenThroughIsCountedOnce : Prop :=
  ∀ (s : State) (g : Gate) (station : Nat), s.working = true → g ∈ s.bays.gates → s.BaysSound → g.state = .clear →
    Answers (execAll [.loopChange g.settings.number .outer true, .loopChange g.settings.number .inner true,
        .loopChange g.settings.number .outer false, .loopChange g.settings.number .inner false] s) (fun t =>
      t.bays = { s.bays with ring := { s.bays.ring with
        current := if s.bays.ring.current < 255 then s.bays.ring.current + 1 else 255 } } ∧
      t.light.channels = s.light.raised g.settings.channels ∧ OnlyChanges [.inputs, .bays, .light] s t) ∧
    Answers (execAll [.loopChange g.settings.number .inner true, .loopChange g.settings.number .outer true,
        .loopChange g.settings.number .inner false, .loopChange g.settings.number .outer false] s) (fun t =>
      t.bays = { s.bays with ring := { s.bays.ring with
        current := if s.bays.ring.current < 255 then s.bays.ring.current + 1 else 255 } } ∧
      t.light.channels = s.light.raised g.settings.channels ∧
      (g.settings.farSide = none → OnlyChanges [.inputs, .bays, .light] s t) ∧
      (g.settings.farSide = some station → s.bus.queues.passage.length < 4 → t.bus.queues = { s.bus.queues with
        passage := s.bus.queues.passage ++ [{ content := .passage (byteOf station), attempts := 0 }] } ∧
        OnlyChanges [.inputs, .bays, .light, .bus] s t) ∧
      (g.settings.farSide = some station → 4 ≤ s.bus.queues.passage.length →
        t.counters = s.counters.bump .passageDrop ∧ OnlyChanges [.inputs, .bays, .light, .counters] s t)) ∧
    Answers (execAll [.loopChange g.settings.number .outer true, .loopChange g.settings.number .outer false] s)
      (fun t => OnlyChanges [.inputs] s t)

/-! ### The Peer Table (Part 4) -/

/-- A bulletin from a station held renews that entry alone: age 0, FRESH, and the heard fields its kind gives, brought
into range; demand is formed afresh, without a step of C, exactly when sympathy or the state or index of a static
neighbour of weight above 0 has changed; a PASSAGE naming this station from a static drive neighbour brings up that
neighbour's entry channels. -/
def Obligations.BulletinRenewsItsEntry : Prop :=
  ∀ (s : State) (source named : Byte) (p : Peer) (content : StatusPayload) (alert : AlertPayload),
    s.takesFrames = true → s.working = true → 1 ≤ source.toNat → source.toNat ≤ 62 → source.toNat ≠ s.settings.ownAddress →
    s.peers.entry? source.toNat = some p →
    Answers (exec (.statusReceived source content) s) (fun t =>
      t.peers.slots = s.peers.slots.map (Option.map (fun q => if q.address = source.toNat then
        { q with
          age := 0, state := .fresh
          level := if q.origin = .learned then some (min 15 content.level.toNat) else q.level
          heard := heardOfStatus content }
        else q)) ∧
      t.peers.sympathy = sympathyHolds s.settings.levelNumber t.peers.slots ∧ s.TellsVentilation t ∧
      t.counters = s.countersAccepted ∧
      OnlyChanges [.peers, .vent, .guide, .bus, .counters] s t) ∧
    Answers (exec (.alertReceived source alert) s) (fun t =>
      t.peers.slots = s.peers.slots.map (Option.map (fun q => if q.address = source.toNat then
        { q with age := 0, state := .fresh, heard := heardOfAlert alert q.heard } else q)) ∧
      t.peers.sympathy = sympathyHolds s.settings.levelNumber t.peers.slots ∧ s.TellsVentilation t ∧
      t.counters = s.countersAccepted ∧
      OnlyChanges [.peers, .vent, .guide, .bus, .counters] s t) ∧
    Answers (exec (.passageReceived source named) s) (fun t =>
      t.peers.slots = s.peers.slots.map (Option.map (fun q => if q.address = source.toNat then
        { q with age := 0, state := .fresh } else q)) ∧
      t.peers.sympathy = sympathyHolds s.settings.levelNumber t.peers.slots ∧ s.TellsVentilation t ∧
      t.counters = s.countersAccepted ∧
      t.light.channels = (if named.toNat = s.settings.ownAddress ∧ p.drive?.isSome = true then
        s.light.raised ((p.static?.map StaticSettings.entryChannels).getD 0#8) else s.light.channels) ∧
      OnlyChanges [.peers, .vent, .guide, .light, .bus, .counters] s t)

/-- A bulletin of the own address is counted in ADDRESS_CLASH and one of no station in PEER_REJECT, and neither does
more. One from an unknown station is admitted in the lowest empty slot, LEARNED and FRESH at age 0 with the heard fields
its kind gives and a level number from a STATUS alone; with none empty it takes the place of the
learned entry of age 1 or more with the highest age, then the lowest address; demand is formed afresh, without a step of
C, exactly when that has changed sympathy; with no place it is counted in PEER_REJECT and does nothing more. -/
def Obligations.UnknownSourcesAreAdmittedOrRejected : Prop :=
  ∀ (s : State) (source named : Byte) (content : StatusPayload) (alert : AlertPayload), s.takesFrames = true →
    s.working = true →
    ∀ q ∈ [(Instr.statusReceived source content, ({
            address := source.toNat, origin := .learned, level := some (min 15 content.level.toNat), age := 0
            state := .fresh, heard := heardOfStatus content } : Peer)),
        (.alertReceived source alert,
          { address := source.toNat, origin := .learned, level := none, age := 0, state := .fresh
            heard := heardOfAlert alert .absent }),
        (.passageReceived source named,
          { address := source.toNat, origin := .learned, level := none, age := 0, state := .fresh
            heard := .absent })],
      (source.toNat = 0 ∨ 62 < source.toNat → Answers (exec q.1 s) (fun t =>
        t.counters = s.countersAccepted.bump .peerReject ∧ OnlyChanges [.bus, .counters] s t)) ∧
      (1 ≤ source.toNat → source.toNat ≤ 62 → source.toNat = s.settings.ownAddress →
        Answers (exec q.1 s) (fun t =>
          t.counters = s.countersAccepted.bump .addressClash ∧ OnlyChanges [.bus, .counters] s t)) ∧
      (1 ≤ source.toNat → source.toNat ≤ 62 → source.toNat ≠ s.settings.ownAddress →
        s.peers.entry? source.toNat = none →
        (none ∈ s.peers.slots → Answers (exec q.1 s) (fun t =>
          t.peers.slots = s.peers.slots.set (s.peers.slots.findIdx Option.isNone)
            (some q.2) ∧
          t.peers.sympathy = sympathyHolds s.settings.levelNumber t.peers.slots ∧ s.TellsVentilation t ∧
          t.counters = s.countersAccepted ∧ OnlyChanges [.peers, .vent, .guide, .bus, .counters] s t)) ∧
        (none ∉ s.peers.slots →
          (∃ v ∈ s.peers.slots.filterMap id, v.origin = .learned ∧ 1 ≤ v.age) → Answers (exec q.1 s) (fun t =>
            (∃ v ∈ s.peers.slots.filterMap id, v.origin = .learned ∧ 1 ≤ v.age ∧
              (∀ w ∈ s.peers.slots.filterMap id, w.origin = .learned → 1 ≤ w.age →
                w.age < v.age ∨ (w.age = v.age ∧ v.address ≤ w.address)) ∧
              t.peers.slots = s.peers.slots.map (Option.map (fun p =>
                if p.address = v.address then q.2 else p))) ∧
            t.peers.sympathy = sympathyHolds s.settings.levelNumber t.peers.slots ∧ s.TellsVentilation t ∧
            t.counters = s.countersAccepted ∧ OnlyChanges [.peers, .vent, .guide, .bus, .counters] s t)) ∧
        (none ∉ s.peers.slots →
          (∀ v ∈ s.peers.slots.filterMap id, v.origin = .learned → v.age = 0) → Answers (exec q.1 s) (fun t =>
            t.counters = s.countersAccepted.bump .peerReject ∧ OnlyChanges [.bus, .counters] s t)))

/-- A sweep ages every entry in its slot: FRESH to age 1, STALE from age 2; at age 3 a learned entry leaves and a
static one is SILENT with nothing heard. Sympathy is formed again, demand is formed afresh, without a step of C, exactly
when sympathy or the state or index of a static neighbour of weight above 0 has changed, and the sweep timer starts
again. -/
def Obligations.SweepAgesEveryEntry : Prop :=
  ∀ (s : State), s.working = true → s.PeersSound →
    Answers (exec .sweep s) (fun t =>
      t.peers.slots = s.peers.slots.map (fun slot => slot.bind (fun p =>
        if p.age = 0 then some { p with age := 1, state := .fresh }
        else if p.age = 1 then some { p with age := 2, state := .stale }
        else if p.age = 2 then some { p with age := 3, state := .stale }
        else if p.origin = .learned then none
        else some { p with age := 3, state := .silent, heard := .absent })) ∧
      t.peers.sympathy = sympathyHolds s.settings.levelNumber t.peers.slots ∧ s.TellsVentilation t ∧
      t.peers.sweepTimer = some (1000 * s.settings.sweepInterval) ∧
      OnlyChanges [.peers, .vent, .guide, .bus] s t)

/-! ### Routes and signs (Part 5) -/

/-- CLOSE ZONE closes the zone, with every row at no route and in NORMAL every sign CLOSED; OPEN ZONE takes back the
service cause alone, and in NORMAL a zone it opens has its routes evaluated. A bay's lamp follows its state and the
closure state; it is off for a bay not configured and outside LISTENING and NORMAL. -/
def Obligations.CloseAndOpenZone : Prop :=
  ∀ (s : State) (source destination : Byte) (n : Nat) (b : Bay),
    (s.working = true → s.bays.bay? n = some b →
      ∀ q ∈ lampRows, b.state = q.1 → s.lamp n = if s.guide.closed then q.2.2 else q.2.1) ∧
    (s.working = false ∨ s.bays.bay? n = none → s.lamp n = .off) ∧
    (s.grants source destination = true → s.GuidanceSound →
      Answers (exec (.closeZone source destination []) s) (fun t => t.guide.serviceClose = true ∧
        t.guide.closed = true ∧ t.guide.rows = .afterReset ∧
        (s.station = .normal → ∀ g ∈ t.guide.signs, g.image.display = .closed) ∧
        t.bus.queues.report = s.reportsWith source 0x30#8 0#8 [] ∧ t.counters = s.countersAccepted ∧
        OnlyChanges [.guide, .bus, .counters] s t) ∧
      Answers (exec (.openZone source destination []) s) (fun t => t.guide.serviceClose = false ∧
        t.guide.closed = (decide (s.air.level = .alarm) || s.inputs.purge.filtered) ∧
        (s.station = .normal → s.guide.closed = true → t.guide.closed = false → t.guide.rows = t.evaluateRoutes) ∧
        (∀ g ∈ t.guide.signs, g.image = t.signImage g.settings) ∧
        t.bus.queues.report = s.reportsWith source 0x31#8 0#8 [] ∧ t.counters = s.countersAccepted ∧
        OnlyChanges [.guide, .bus, .counters] s t))

/-- The row of a class: no route when closed; own bays first at the penalty; else the candidate of least cost, then
larger free count, lower exit, lower address; a candidate comes from a FRESH open static drive neighbour whose advert is
below 15 and does not lead back here, at advert plus link plus penalty below 15, and every such neighbour gives one. -/
def Obligations.RouteChoiceFollowsTheRules : Prop :=
  ∀ (s : State) (g : GuidedClass) (p : Peer) (c : StaticSettings) (d : DriveSettings) (a : Adverts),
    (s.guide.closed = true → s.evaluateRow g = .noRoute) ∧
    (s.guide.closed = false → 0 < s.bays.freeCount g → s.evaluateRow g =
      { cost := if s.air.level = .warning ∨ s.vent.ventLost = true then 3 else 0, free := s.bays.freeCount g
        via := s.settings.ownAddress, exit := .here }) ∧
    (s.guide.closed = false → s.bays.freeCount g = 0 → s.candidates g = [] → s.evaluateRow g = .noRoute) ∧
    (s.guide.closed = false → s.bays.freeCount g = 0 → s.candidates g ≠ [] →
      ∃ b ∈ s.candidates g, s.evaluateRow g = { cost := b.cost, free := b.free, via := b.address, exit := .by b.exit } ∧
        ∀ x ∈ s.candidates g, b.cost < x.cost ∨ (b.cost = x.cost ∧ (x.free < b.free ∨ (x.free = b.free ∧
          (b.exit < x.exit ∨ (b.exit = x.exit ∧ b.address ≤ x.address)))))) ∧
    (∀ x ∈ s.candidates g, x.cost < 15 ∧ ∃ q ∈ s.peers.slots.filterMap id, q.address = x.address ∧
      q.state = .fresh ∧ q.heard.closed = some false ∧ q.drive?.isSome = true) ∧
    (some p ∈ s.peers.slots → p.origin = .static c → c.drive = some d → p.heard.adverts = some a → p.state = .fresh →
      p.heard.closed = some false →
      (p.candidate s.settings.ownAddress s.penalty g =
        if (a.get g).cost < 15 ∧ (a.get g).via ≠ s.settings.ownAddress ∧ (a.get g).cost + d.linkCost + s.penalty < 15
        then some { cost := (a.get g).cost + d.linkCost + s.penalty, free := (a.get g).free, exit := d.exit
                    address := p.address }
        else none) ∧
      ((p.candidate s.settings.ownAddress s.penalty g).all (fun x => decide (x ∈ s.candidates g)) = true))

/-- The image of a sign by the table: in ROUTE mode the free count of its class's row with the arrow of the row's exit,
and none for HERE. Its digits read as the number shown, at most 999, with no leading zero. -/
def Obligations.SignImagesShowTheNumber : Prop :=
  ∀ (s : State) (g : SignSettings) (n : Nat) (arrow : Option Arrow),
    (s.station ≠ .normal → s.signImage g = .blank) ∧
    (s.station = .normal → s.guide.closed = true → s.signImage g = .word .closed) ∧
    (s.station = .normal → s.guide.closed = false →
      (g.mode = .zone → s.signImage g =
        if s.bays.freeCount g.cls = 0 then .word .full else .ofCount (s.bays.freeCount g.cls) none) ∧
      (g.mode = .total → s.signImage g =
        if s.bays.totalFree = 0 then .word .full else .ofCount s.bays.totalFree none) ∧
      (g.mode = .route → (s.guide.rows.get g.cls).cost = 15 → s.signImage g = .word .full) ∧
      (g.mode = .route → (s.guide.rows.get g.cls).cost ≠ 15 →
        ∀ q ∈ [(RouteExit.here, none), (.by 0, some g.arrow0), (.by 1, some g.arrow1), (.by 2, some g.arrow2),
          (.by 3, some g.arrow3)],
        (s.guide.rows.get g.cls).exit = q.1 → s.signImage g = .ofCount (s.guide.rows.get g.cls).free q.2)) ∧
    (SignImage.ofCount n arrow).display = .count ∧ (SignImage.ofCount n arrow).arrow = arrow ∧
    100 * (SignImage.ofCount n arrow).hundreds.getD 0 + 10 * (SignImage.ofCount n arrow).tens.getD 0 +
      (SignImage.ofCount n arrow).units.getD 0 = min n 999 ∧
    ((SignImage.ofCount n arrow).hundreds = none ↔ n < 100) ∧ ((SignImage.ofCount n arrow).tens = none ↔ n < 10) ∧
    (SignImage.ofCount n arrow).units ≠ none ∧ (SignImage.ofCount n arrow).hundreds.getD 0 ≤ 9 ∧
    (SignImage.ofCount n arrow).tens.getD 0 ≤ 9 ∧ (SignImage.ofCount n arrow).units.getD 0 ≤ 9

/-- A refresh expiry makes its sign due; an exchange begins on a free link with the due sign that comes first in
cyclic order after the sign last served, with its image as it stands, its due mark cleared and its refresh restarted.
That the exchange then has 56 ms, the frame's 5.2 ms taken as 6 and the window's 50, is the model's choice (log 12). -/
def Obligations.SignExchangeServesTheNextDueSign : Prop :=
  ∀ (s : State) (g : Sign), s.working = true → Ascending (s.guide.signs.map (fun x => x.settings.number)) →
    (g ∈ s.guide.signs → g.refresh ≠ none →
      Answers (exec (.signRefreshTimerExpiry g.settings.number) s) (fun t =>
        t.guide = { s.guide with signs := s.guide.signs.map (fun x =>
          if x.settings.number = g.settings.number then { x with due := true, refresh := none } else x) } ∧
        OnlyChanges [.guide] s t)) ∧
    (s.guide.exchange = none → (∃ x ∈ s.guide.signs, x.due = true) →
      Answers (exec .signExchangeStart s) (fun t =>
        (∃ x ∈ s.guide.signs, x.due = true ∧
          (∀ y ∈ s.guide.signs, y.due = true →
            (s.guide.lastServed < x.settings.number ∧
              (y.settings.number ≤ s.guide.lastServed ∨ x.settings.number ≤ y.settings.number)) ∨
            (x.settings.number ≤ s.guide.lastServed ∧ y.settings.number ≤ s.guide.lastServed ∧
              x.settings.number ≤ y.settings.number)) ∧
          t.guide = { s.guide with
            signs := s.guide.signs.map (fun y => if y.settings.number = x.settings.number then
              { y with due := false, refresh := some 5000 } else y)
            lastServed := x.settings.number
            exchange := some { sign := x.settings.number, frame := signFrameBytes x.settings.number x.image
                               window := 56, received := [] } }) ∧
        OnlyChanges [.guide] s t)) ∧
    ((∀ x ∈ s.guide.signs, x.due = false) ∨ s.guide.exchange ≠ none →
      Answers (exec .signExchangeStart s) (fun t => t = s))

/-- Characters outside an exchange, or while its SIGN frame is being sent, are discarded. A well-formed answer of the
sign addressed, in one command or over several, ends the exchange and clears that sign's misses; one that names another
address, and any other characters, are only gathered; a window that runs out counts the miss, marks a fault at the third
and counts SIGN_MISS. In FALLBACK the BLANK frames go to addresses 1 to 4, a well-formed answer or the window's end
brings the next, and nothing is counted. That the first five characters are the answer, in however many commands they
come, is the model's choice (log 26), and so is the exchange's 56 ms with the answer in its last 50 (log 12). -/
def Obligations.SignAnswersAndMisses : Prop :=
  ∀ (s : State) (e : Exchange) (status : SignStatus) (characters : List RxChar) (other : Nat),
    (s.guide.exchange = none → Answers (exec (.signAnswer characters) s) (fun t => t = s)) ∧
    (s.guide.exchange = some e → 50 < e.window → Answers (exec (.signAnswer characters) s) (fun t => t = s)) ∧
    (s.guide.exchange = some e → s.station = .fallback → e.window ≤ 50 → e.sign ≤ 4 →
      (e.received ++ characters).take 5 = signAnswerCharacters e.sign status →
      Answers (exec (.signAnswer characters) s) (fun t =>
        t.guide = { s.guide with
          exchange := s.guide.fallbackDue.head?.map (fun n =>
            { sign := n, frame := signFrameBytes n .blank, window := 56, received := [] })
          fallbackDue := s.guide.fallbackDue.tail } ∧ OnlyChanges [.guide] s t)) ∧
    (s.guide.exchange = some e → e.window ≤ 50 → e.sign ≤ 4 → other ≤ 255 → other ≠ e.sign →
      (e.received ++ characters).take 5 = signAnswerCharacters other status →
      Answers (exec (.signAnswer characters) s) (fun t =>
        t.guide = { s.guide with exchange := some { e with received := (e.received ++ characters).take 5 } } ∧
        OnlyChanges [.guide] s t)) ∧
    (s.guide.exchange = some e → s.station ≠ .fallback → e.window ≤ 50 → e.sign ≤ 4 →
      (e.received ++ characters).take 5 = signAnswerCharacters e.sign status →
      Answers (exec (.signAnswer characters) s) (fun t =>
        t.guide = { s.guide with
          exchange := none
          signs := s.guide.signs.map (fun g => if g.settings.number = e.sign then
            { g with misses := 0, faultMark := false, lastStatus := some status } else g) } ∧
        OnlyChanges [.guide] s t)) ∧
    (s.guide.exchange = some e → e.window ≤ 50 → signAnswerOf ((e.received ++ characters).take 5) = none →
      Answers (exec (.signAnswer characters) s) (fun t =>
        t.guide = { s.guide with exchange := some { e with received := (e.received ++ characters).take 5 } } ∧
        OnlyChanges [.guide] s t)) ∧
    (s.guide.exchange = some e → s.station ≠ .fallback →
      Answers (exec .signAnswerWindowExpiry s) (fun t =>
        t.guide = { s.guide with
          exchange := none
          signs := s.guide.signs.map (fun g => if g.settings.number = e.sign then
            { g with misses := if g.misses < 3 then g.misses + 1 else 3
                     faultMark := g.faultMark || decide (2 ≤ g.misses) } else g) } ∧
        t.counters = s.counters.bump .signMiss ∧ OnlyChanges [.guide, .counters] s t)) ∧
    (s.guide.exchange = some e → s.station = .fallback →
      Answers (exec .signAnswerWindowExpiry s) (fun t =>
        t.guide = { s.guide with
          exchange := s.guide.fallbackDue.head?.map (fun n =>
            { sign := n, frame := signFrameBytes n .blank, window := 56, received := [] })
          fallbackDue := s.guide.fallbackDue.tail } ∧ OnlyChanges [.guide] s t)) ∧
    (s.station = .fallback →
      Answers (exec .fallbackSignTimerExpiry s) (fun t =>
        (s.guide.exchange = none → t.guide = { s.guide with
          fallbackTimer := some 5000, fallbackDue := [2, 3, 4]
          exchange := some { sign := 1, frame := signFrameBytes 1 .blank, window := 56, received := [] } }) ∧
        (s.guide.exchange ≠ none → t.guide = { s.guide with
          fallbackTimer := some 5000, fallbackDue := [1, 2, 3, 4] }) ∧
        OnlyChanges [.guide] s t))

/-! ### Lighting (Part 6) -/

/-- A motion input that becomes active, and each repeat while it stays so, brings up its channels but for those FORCED
or OVERRIDDEN and starts the repeat timer at 5 s; becoming inactive discards the timer and touches no channel. -/
def Obligations.MotionRaisesItsChannels : Prop :=
  ∀ (s : State) (n : Nat) (i : FilteredInput), s.working = true → inputAt? s.inputs.motion n = some i →
    (i.filtered = false → Answers (exec (.motionChange n true) s) (fun t =>
      t.inputs = { s.inputs with
        motion := s.inputs.motion.set (n - 1) { line := true, filtered := true, steadyMs := 0 } } ∧
      t.light = { s.light with
        channels := s.light.raised (s.light.motionSets.getD (n - 1) 0#8)
        repeatTimers := s.light.repeatTimers.set (n - 1) (some 5000) } ∧
      OnlyChanges [.inputs, .light] s t)) ∧
    (i.filtered = true → Answers (exec (.motionChange n false) s) (fun t =>
      t.inputs = { s.inputs with
        motion := s.inputs.motion.set (n - 1) { line := false, filtered := false, steadyMs := 0 } } ∧
      t.light = { s.light with repeatTimers := s.light.repeatTimers.set (n - 1) none } ∧
      OnlyChanges [.inputs, .light] s t)) ∧
    (i.filtered = true → Answers (exec (.motionRepeatTimerExpiry n) s) (fun t =>
      t.light = { s.light with
        channels := s.light.raised (s.light.motionSets.getD (n - 1) 0#8)
        repeatTimers := s.light.repeatTimers.set (n - 1) (some 5000) } ∧
      OnlyChanges [.light] s t))

/-- The expiry of a channel's hold timer and of its dim timer, by sleep enable, dim mode and slew rate; a channel in
SLEW mode reaches IDLE after as many dim steps as its distance takes, rounded up, and not before. -/
def Obligations.HoldAndDimExpiries : Prop :=
  ∀ (s : State) (c : Channel) (k : Nat), s.working = true → c ∈ s.light.channels → s.LightingSound →
    (c.state = .active → c.hold ≠ none →
      Answers (exec (.channelHoldTimerExpiry c.number) s) (fun t =>
        t.light = { s.light with channels := s.light.channels.map (fun x => if x.number = c.number then
          if c.settings.sleep = false then { c with hold := none }
          else if c.settings.dimMode = .step ∨ c.output = c.settings.idle then
            { c with state := .idle, output := c.settings.idle, hold := none }
          else { c with state := .dimming, hold := none, dim := some 1000 }
          else x) } ∧ OnlyChanges [.light] s t)) ∧
    (c.state = .dimming →
      Answers (exec (.dimTimerExpiry c.number) s) (fun t =>
        t.light = { s.light with channels := s.light.channels.map (fun x => if x.number = c.number then
          if (if c.settings.idle < c.output then c.output - c.settings.idle else c.settings.idle - c.output) ≤
              c.settings.slew then
            { c with state := .idle, output := c.settings.idle, dim := none }
          else
            { c with output := if c.settings.idle < c.output then c.output - c.settings.slew
                               else c.output + c.settings.slew
                     dim := some 1000 }
          else x) } ∧ OnlyChanges [.light] s t)) ∧
    (c.state = .dimming → c.output ≠ c.settings.idle → 1 ≤ c.settings.slew →
      (Channel.dimExpires^[ceilDiv ((c.output - c.settings.idle) + (c.settings.idle - c.output)) c.settings.slew] c =
        { c with state := .idle, output := c.settings.idle, dim := none }) ∧
      (k < ceilDiv ((c.output - c.settings.idle) + (c.settings.idle - c.output)) c.settings.slew →
        (Channel.dimExpires^[k] c).state = .dimming))

/-- SET LIGHT OVERRIDE takes the named channels, or all for 0, to OVERRIDDEN, and only records on a FORCED one; CLEAR
LIGHT OVERRIDE and the expiry end a present override, an OVERRIDDEN channel returning to ACTIVE with a full hold. -/
def Obligations.LightOverridesSetAndEnd : Prop :=
  ∀ (s : State) (source destination ch lvl m : Byte) (c : Channel), s.LightingSound →
    (s.grants source destination = true → ch.toNat ≤ 8 → lvl.toNat ≤ 100 → m.toNat ≤ 240 →
      Answers (exec (.setLightOverride source destination [ch, lvl, m]) s) (fun t =>
        t.light = { s.light with channels := s.light.channels.map (fun x => if ch = 0#8 ∨ x.number = ch.toNat then
          if x.state = .forced then
            { x with override := some { level := lvl.toNat
                                        limit := if m = 0#8 then .untilEnded else .remaining (60000 * m.toNat) } }
          else
            { x with
              state := .overridden, output := lvl.toNat, hold := none, dim := none
              override := some { level := lvl.toNat
                                 limit := if m = 0#8 then .untilEnded else .remaining (60000 * m.toNat) } }
          else x) } ∧
        t.bus.queues = { s.bus.queues with report := s.reportsWith source 0x40#8 0#8 [] } ∧
        t.counters = s.countersAccepted ∧ OnlyChanges [.light, .bus, .counters] s t)) ∧
    (s.grants source destination = true → ch.toNat ≤ 8 →
      Answers (exec (.clearLightOverride source destination [ch]) s) (fun t =>
        t.light = { s.light with channels := s.light.channels.map (fun x =>
          if (ch = 0#8 ∨ x.number = ch.toNat) ∧ x.override ≠ none then
            if x.state = .forced then { x with override := none }
            else { x with state := .active, output := x.settings.active
                          hold := some (1000 * x.settings.holdSeconds), override := none }
          else x) } ∧
        t.bus.queues = { s.bus.queues with report := s.reportsWith source 0x41#8 0#8 [] } ∧
        t.counters = s.countersAccepted ∧ OnlyChanges [.light, .bus, .counters] s t)) ∧
    (s.working = true → c ∈ s.light.channels → c.override.any (fun o => o.limit.runs) = true →
      Answers (exec (.lightOverrideExpiry c.number) s) (fun t =>
        t.light = { s.light with channels := s.light.channels.map (fun x => if x.number = c.number then
          if c.state = .forced then { c with override := none }
          else { c with state := .active, output := c.settings.active
                        hold := some (1000 * c.settings.holdSeconds), override := none }
          else x) } ∧ OnlyChanges [.light] s t)) ∧
    (c ∈ s.light.channels → c.override.any (fun o => o.limit.runs) = false →
      Answers (exec (.lightOverrideExpiry c.number) s) (fun t => t = s))

/-! ### Receiving (Part 7) -/

/-- Characters driven back to back, 16 samples to a bit, are taken by a hunting receiver as sent, each with the
verdict good. A character with a SPACE stop bit has the verdict framing error, whatever its parity, and the receiver
waits for MARK; one with the wrong parity bit alone has the verdict parity error. A start that is MARK again at sample 8
gives no character. The idle count is 0 through a character and at a false start, rises by one at each MARK sample while
hunting, is set to 0 at SPACE, and means idle above 352; that the MARK after a framing error counts too is the model's
choice (log 32). -/
def Obligations.CharactersAreReceivedAsSent : Prop :=
  ∀ (bs : List Byte) (b : Byte) (parity stop : LineLevel) (few : List LineLevel) (k count : Nat),
    SampleReceiver.run (.hunting .mark) (bs.flatMap characterSamples) =
      (.hunting .mark, bs.map (fun b => { byte := b, verdict := .good })) ∧
    SampleReceiver.run (.hunting .mark) (samplesOf ((characterBits b).take 9 ++ [parity, stop])) =
      (if stop = .mark then .hunting .mark else .awaitingMark,
        [{ byte := b, verdict := if stop = .space then .bad .framing
            else if parity = levelOf (parityBit b) then .good else .bad .parity }]) ∧
    SampleReceiver.run .awaitingMark (List.replicate k .space) = (.awaitingMark, []) ∧
    SampleReceiver.run .awaitingMark (List.replicate k .space ++ [.mark]) = (.hunting .mark, []) ∧
    (few.length = 7 → SampleReceiver.run (.hunting .mark) (.space :: few ++ [.mark]) = (.hunting .mark, []) ∧
      SampleReceiver.idleAfter (.hunting .mark) count (.space :: few ++ .mark :: List.replicate k .mark) = k) ∧
    SampleReceiver.idleAfter (.hunting .mark) count (characterSamples b ++ List.replicate k .mark) = 7 + k ∧
    SampleReceiver.idleAfter (.hunting .mark) count (List.replicate k .mark) = count + k ∧
    SampleReceiver.idleAfter (.hunting .mark) count (List.replicate k .mark ++ [.space]) = 0 ∧
    SampleReceiver.idleAfter .awaitingMark count (.space :: List.replicate k .mark) = k ∧
    (idleCountMeansIdle count = true ↔ 352 < count)

/-- The bytes of a frame, taken one good character after another, do exactly what the frame's own command does: every
bulletin and every COMMAND, for this station, for another or for all; by a station that awaits a marker, and by one that
awaits an idle event, is sending or does not receive, and discards it. What a frame's command stands for is the model's
choice (log 16). -/
def Obligations.FrameBytesAndFrameCommandAgree : Prop :=
  ∀ (c : Instr) (bs : List Byte) (s : State), c.WellFormed = true → frameOf c = some bs →
    s.bus.assembler ∈ [.awaitIdle, .awaitMarker] → execAll (bs.map Instr.goodCharacter) s = exec c s

/-- Starts, good and bad characters, the idle event and a busy line, as receiver, assembler and transmitter take them,
and the characters of the station's own sending, which the assembler discards; that starts and characters end a gap as
well is the model's reading (log 23). -/
def Obligations.LineEventsDriveTheReceivingSide : Prop :=
  ∀ (s : State) (b : Byte) (err : CharError) (taken sent : List Byte) (cls : TxClass) (bits : Nat),
    (s.receiving = true → s.bus.transmitter = .sending cls sent → Answers (exec (.goodCharacter b) s) (fun t =>
      t.bus = { s.bus with receiver := .hunting, idleCount := 0 } ∧ OnlyChanges [.bus] s t)) ∧
    (s.receiving = true → Answers (exec .startOfCharacter s) (fun t =>
      t.bus = { s.bus with receiver := .receiving, idleCount := 0, transmitter := t.bus.transmitter } ∧
      (s.bus.transmitter = .gap cls bits → t.bus.transmitter = .waitingIdle) ∧
      (s.bus.transmitter ∈ [.atRest, .waitingIdle, .backoff] → t.bus.transmitter = s.bus.transmitter) ∧
      OnlyChanges [.bus] s t)) ∧
    (s.hears = true → s.bus.assembler = .awaitMarker → Answers (exec (.goodCharacter b) s) (fun t =>
      t.bus.assembler = (if b = 0xC5#8 then .inFrame [] else .awaitIdle) ∧ t.bus.receiver = .hunting ∧
      t.bus.idleCount = 0 ∧ t.bus.queues = s.bus.queues ∧ OnlyChanges [.bus] s t)) ∧
    (s.hears = true → s.bus.assembler = .awaitIdle → Answers (exec (.goodCharacter b) s) (fun t =>
      t.bus.assembler = .awaitIdle ∧ t.bus.queues = s.bus.queues ∧ OnlyChanges [.bus] s t)) ∧
    (s.hears = true → Answers (exec (.badCharacter err) s) (fun t => t.bus.assembler = .awaitIdle ∧
      t.bus.receiver = (if err = .framing then .awaitingMark else .hunting) ∧ t.bus.queues = s.bus.queues ∧
      (s.bus.assembler = .awaitIdle → t.counters = s.counters) ∧
      (s.bus.assembler = .awaitMarker ∨ s.bus.assembler = .inFrame taken →
        t.counters = s.counters.bump (if err = .parity then .rxParity else .rxFraming)) ∧
      OnlyChanges [.bus, .counters] s t)) ∧
    (s.hears = true → Answers (exec .idleEvent s) (fun t =>
      (s.bus.transmitter = .atRest ∨ s.bus.transmitter = .gap cls bits →
        t.bus = { s.bus with idleCount := 353, receiver := .hunting, assembler := .awaitMarker }) ∧
      (s.bus.assembler = .awaitIdle ∨ s.bus.assembler = .awaitMarker → t.counters = s.counters) ∧
      (s.bus.assembler = .inFrame taken → t.counters = s.counters.bump .rxLength) ∧
      t.bus.queues = s.bus.queues ∧ OnlyChanges [.bus, .counters] s t)) ∧
    (s.bus.transmitter = .gap cls bits → Answers (exec .lineBusyInGap s) (fun t =>
      t.bus = { s.bus with idleCount := 0, transmitter := .waitingIdle } ∧ OnlyChanges [.bus] s t))

/-- A frame turned away at its destination byte, at its length byte or at its check is counted once, in the counter of
its case, ends at AWAIT_IDLE and does nothing more; a frame that passes is not touched. The bytes of such a frame, taken
as good characters by a station that awaits a marker, do what the command of the case does. -/
def Obligations.RejectedFramesAreCounted : Prop :=
  ∀ (s : State) (kind source destination length high low : Byte) (payload : List Byte) (crcGood : Bool),
    s.takesFrames = true →
    (s.bus.assembler = .awaitMarker →
      (s.filterRejects kind destination = true →
        execAll ([0xC5#8, kind, source, destination].map Instr.goodCharacter) s =
          exec (.addressFilterReject kind destination) s) ∧
      (s.filterRejects kind destination = false → 48 < length.toNat →
        execAll ([0xC5#8, kind, source, destination, length].map Instr.goodCharacter) s =
          exec (.lengthByteReject length) s) ∧
      (s.filterRejects kind destination = false → payload.length = length.toNat → length.toNat ≤ 48 →
        crcGood = decide (crc16 ([kind, source, destination, length] ++ payload) = halfFrom high low) →
        ¬(crcGood = true ∧ (kind = 1#8 ∧ length = 19#8 ∨ kind = 2#8 ∧ length = 4#8 ∨ kind = 3#8 ∧ length = 1#8 ∨
          kind = 4#8 ∧ length ≠ 0#8)) →
        execAll (([0xC5#8, kind, source, destination, length] ++ payload ++ [high, low]).map Instr.goodCharacter) s =
          exec (.frameCheckFail kind length crcGood) s)) ∧
    ((kind = 5#8 ∨ (kind = 4#8 ∧ destination ≠ 63#8 ∧
        (s.station = .fallback ∨ destination.toNat ≠ s.settings.ownAddress))) →
      Answers (exec (.addressFilterReject kind destination) s) (fun t => t.bus.assembler = .awaitIdle ∧
        t.counters = s.counters.bump .rxForeign ∧ t.bus.queues = s.bus.queues ∧ OnlyChanges [.bus, .counters] s t)) ∧
    (¬(kind = 5#8 ∨ (kind = 4#8 ∧ destination ≠ 63#8 ∧
        (s.station = .fallback ∨ destination.toNat ≠ s.settings.ownAddress))) →
      Answers (exec (.addressFilterReject kind destination) s) (fun t => t = s)) ∧
    (48 < length.toNat →
      Answers (exec (.lengthByteReject length) s) (fun t => t.bus.assembler = .awaitIdle ∧
        t.counters = s.counters.bump .rxLength ∧ t.bus.queues = s.bus.queues ∧ OnlyChanges [.bus, .counters] s t)) ∧
    (length.toNat ≤ 48 → Answers (exec (.lengthByteReject length) s) (fun t => t = s)) ∧
    (crcGood = true → (kind = 1#8 ∧ length = 19#8 ∨ kind = 2#8 ∧ length = 4#8 ∨ kind = 3#8 ∧ length = 1#8 ∨
        kind = 4#8 ∧ length ≠ 0#8 ∨ kind = 5#8) →
      Answers (exec (.frameCheckFail kind length crcGood) s) (fun t => t = s)) ∧
    (¬(crcGood = true ∧ (kind = 1#8 ∧ length = 19#8 ∨ kind = 2#8 ∧ length = 4#8 ∨ kind = 3#8 ∧ length = 1#8 ∨
        kind = 4#8 ∧ length ≠ 0#8 ∨ kind = 5#8)) →
      Answers (exec (.frameCheckFail kind length crcGood) s) (fun t => t.bus.assembler = .awaitIdle ∧
        t.counters = s.counters.bump (if crcGood = false then .rxCrc
          else if kind = 0#8 ∨ 5 < kind.toNat then .rxForeign else .rxLength) ∧
        t.bus.queues = s.bus.queues ∧ OnlyChanges [.bus, .counters] s t))

/-! ### Service commands (Part 9) -/

/-- A granted query changes nothing but the queue of its REPORT and the counters: the body is the blocks' state at that
moment, byte by byte as the payload tables lay it out; QUERY COUNTERS reads before it clears. The head states reported
are those of the latest air sample; that the sub-indices are too is log 33, and a reservation at 0 ms is log 15. -/
def Obligations.QueriesReportTheState : Prop :=
  ∀ (s : State) (source destination a b : Byte), s.grants source destination = true →
    Answers (exec (.queryZone source destination [1#8]) s) (fun t =>
      t.bus.queues = { s.bus.queues with report := s.reportsWith source 0x01#8 0#8 s.sectionOne } ∧
      s.SectionOneLayout s.sectionOne ∧ t.counters = s.countersAccepted ∧ OnlyChanges [.bus, .counters] s t) ∧
    Answers (exec (.queryZone source destination [2#8]) s) (fun t =>
      t.bus.queues = { s.bus.queues with report := s.reportsWith source 0x01#8 0#8 s.sectionTwo } ∧
      s.SectionTwoLayout s.sectionTwo ∧ t.counters = s.countersAccepted ∧ OnlyChanges [.bus, .counters] s t) ∧
    (1 ≤ a.toNat → a.toNat ≤ 64 → 1 ≤ b.toNat → b.toNat ≤ 40 →
      Answers (exec (.queryBays source destination [a, b]) s) (fun t =>
        t.bus.queues = { s.bus.queues with
          report := s.reportsWith source 0x02#8 0#8 (s.bays.report a.toNat b.toNat) } ∧
        s.bays.ReportLayout a.toNat b.toNat (s.bays.bayItems b.toNat a.toNat 44) (s.bays.report a.toNat b.toNat) ∧
        t.counters = s.countersAccepted ∧ OnlyChanges [.bus, .counters] s t)) ∧
    (1 ≤ a.toNat → a.toNat ≤ 16 → s.peers.slots.length = 16 →
      Answers (exec (.queryPeers source destination [a]) s) (fun t =>
        t.bus.queues = { s.bus.queues with report := s.reportsWith source 0x03#8 0#8 (s.peers.report a.toNat) } ∧
        s.peers.ReportLayout a.toNat (s.peers.report a.toNat) ∧
        t.counters = s.countersAccepted ∧ OnlyChanges [.bus, .counters] s t)) ∧
    (a = 0#8 ∨ a = 1#8 →
      Answers (exec (.queryCounters source destination [a]) s) (fun t =>
        t.bus.queues = { s.bus.queues with
          report := s.reportsWith source 0x04#8 0#8 (s.countersAccepted.report a) } ∧
        s.countersAccepted.ReportLayout a (s.countersAccepted.report a) ∧
        t.counters = (if a = 1#8 then .zero else s.countersAccepted) ∧ OnlyChanges [.bus, .counters] s t))

/-- A granted command that fails a check changes no block: its REPORT carries the code as received and the result.
A code not in the table is UNKNOWN_COMMAND; a wrong number of argument bytes is BAD_ARGUMENT, and so are an argument
outside its range and a fan or bay that is not configured; a fan or bay in another state than the command takes is
REFUSED_STATE; a command that passes the four checks is DONE. Premise: fan and bay numbers lie in their ranges, as every
step keeps them. -/
def Obligations.RefusedCommandsChangeNothing : Prop :=
  ∀ (s : State) (c : Instr) (f : CommandFrame), commandOf c = some f → s.grants f.source f.destination = true →
    f.args.length ≤ 47 →
    ((executeCommand f.code f.args s).result ≠ .done →
      Answers (exec c s) (fun t =>
        t.bus.queues = { s.bus.queues with
          report := s.reportsWith f.source f.code (executeCommand f.code f.args s).result.byte [] } ∧
        t.counters = s.countersAccepted ∧ OnlyChanges [.bus, .counters] s t)) ∧
    (knownCodes.contains f.code.toNat = false →
      Answers (exec (.unknownCommand f.source f.destination f.code f.args) s) (fun t =>
        t.bus.queues = { s.bus.queues with report := s.reportsWith f.source f.code 3#8 [] } ∧
        t.counters = s.countersAccepted ∧ OnlyChanges [.bus, .counters] s t)) ∧
    (∀ q ∈ argumentCounts, f.code.toNat = q.1 → f.args.length ≠ q.2 →
      Answers (exec c s) (fun t =>
        t.bus.queues = { s.bus.queues with report := s.reportsWith f.source f.code 2#8 [] } ∧
        t.counters = s.countersAccepted ∧ OnlyChanges [.bus, .counters] s t)) ∧
    (s.FansSound → s.BaysSound →
      (executeCommand f.code f.args s).result = s.resultByChecks f.code f.args ∧
      (s.resultByChecks f.code f.args ≠ .done → Answers (exec c s) (fun t =>
        t.bus.queues = { s.bus.queues with
          report := s.reportsWith f.source f.code (s.resultByChecks f.code f.args).byte [] } ∧
        t.counters = s.countersAccepted ∧ OnlyChanges [.bus, .counters] s t)))

/-- With no place in class queue 3, and while a restart is pending, a command to the own address is not executed and
SERVICE_OVERRUN is counted; a command to all stations does what the answered one does, with no REPORT. A command to the
own address from a source outside 1..62 is unanswered: it asks for no place, queues no REPORT and does, from whatever
source, what the one to all stations does; while a restart is pending it is not executed. -/
def Obligations.AnswersNeedAPlace : Prop :=
  ∀ (s : State) (c d : Instr) (f : CommandFrame) (panel : Byte), commandOf c = some f → f.args.length ≤ 47 →
    s.takesFrames = true → s.working = true → f.destination.toNat = s.settings.ownAddress →
    s.settings.ownAddress ≤ 62 →
    (1 ≤ f.source.toNat → f.source.toNat ≤ 62 → s.bus.restartPending = true ∨ 4 ≤ s.bus.queues.report.length →
      Answers (exec c s) (fun t => t.counters = s.countersAccepted.bump .serviceOverrun ∧
        t.bus.queues = s.bus.queues ∧ OnlyChanges [.bus, .counters] s t)) ∧
    (commandOf d = some { f with destination := 63#8 } → s.grants f.source f.destination = true → f.code ≠ 0x7F#8 →
      Answers (exec d s) (fun t => t.bus.queues.report = s.bus.queues.report ∧
        Answers (exec c s) (fun u => u.bus.queues.report.length = s.bus.queues.report.length + 1 ∧
          OnlyChanges [.bus] t u))) ∧
    (f.source.toNat = 0 ∨ 62 < f.source.toNat →
      (s.bus.restartPending = true → Answers (exec c s) (fun t =>
        t.counters = s.countersAccepted.bump .serviceOverrun ∧ t.bus.queues = s.bus.queues ∧
        OnlyChanges [.bus, .counters] s t)) ∧
      (s.bus.restartPending = false →
        (f.code ≠ 0x7F#8 → Answers (exec c s) (fun t => t.bus.queues.report = s.bus.queues.report ∧
          (f.code ≠ 0x04#8 → t.counters = s.countersAccepted))) ∧
        (commandOf d = some { f with source := panel, destination := 63#8 } → exec c s = exec d s)))

/-! ### Sending (Part 8) -/

/-- The period timer's expiry queues a STATUS, absorbed into a pending one, and starts again; the spacing timer's
expiry queues one only when one is owed. A STATUS that joins starts the spacing timer and clears the owed mark. A
significant change of the rows, found at an evaluation that is not a capture's, does nothing with a STATUS pending, else
queues one with no spacing timer running and sets the owed mark with one; every command at which the routes may be
evaluated, but for a capture, tells it so, and no other change. -/
def Obligations.StatusTimersQueueAStatus : Prop :=
  ∀ (s : State) (cause : Bool) (c : Instr),
    s.TellsSignificantChange (s.guidanceTold cause false) ∧ (s.guidanceTold cause true).bus = s.bus ∧
    (mayEvaluate c = true → Answers (exec c s) s.TellsSignificantChange) ∧
    (s.working = true → s.bus.periodTimer ≠ none → Answers (exec .statusPeriodTimerExpiry s) (fun t =>
      t.bus.periodTimer = some (1000 * s.settings.statusPeriod) ∧
      t.bus.queues = (if s.bus.hasPending .status then s.bus.queues else { s.bus.queues with
        status := s.bus.queues.status ++ [{ content := .status, attempts := 0 }] }) ∧
      t.bus.spacingTimer = (if s.bus.hasPending .status then s.bus.spacingTimer else some 1000) ∧
      t.bus.owed = (if s.bus.hasPending .status then s.bus.owed else false) ∧ OnlyChanges [.bus] s t)) ∧
    (s.working = true → s.bus.spacingTimer ≠ none → Answers (exec .spacingTimerExpiry s) (fun t =>
      t.bus.owed = false ∧
      t.bus.queues = (if s.bus.owed = true ∧ s.bus.hasPending .status = false then { s.bus.queues with
        status := s.bus.queues.status ++ [{ content := .status, attempts := 0 }] } else s.bus.queues) ∧
      t.bus.spacingTimer = (if s.bus.owed = true ∧ s.bus.hasPending .status = false then some 1000 else none) ∧
      t.bus.periodTimer = s.bus.periodTimer ∧ OnlyChanges [.bus] s t))

/-- A selection: STRICT takes the lowest class with a frame; WEIGHTED the lowest with a frame and credit, after giving
all credits back if every class with a frame has none. The gap is the class gap and twice the next jitter value, and
the idle event enters it from WAITING_IDLE and BACKOFF. -/
def Obligations.SelectionServesPriorityOrCredits : Prop :=
  ∀ (s : State) (q : Queues) (k : Credits) (cls : TxClass) (after : Credits),
    (chooseClass .strict q k = none ↔ q = .empty) ∧ (chooseClass .weighted q k = none ↔ q = .empty) ∧
    (chooseClass .strict q k = some (cls, after) →
      q.get cls ≠ [] ∧ after = k ∧ ∀ d ∈ TxClass.all, d.gapBits < cls.gapBits → q.get d = []) ∧
    (chooseClass .weighted q k = some (cls, after) →
      q.get cls ≠ [] ∧ 0 < after.get cls ∧
      after = (if ∀ d ∈ TxClass.all, q.get d ≠ [] → k.get d = 0
        then { alert := 8, passage := 4, status := 2, report := 1 } else k) ∧
      ∀ d ∈ TxClass.all, d.gapBits < cls.gapBits → q.get d = [] ∨ after.get d = 0) ∧
    (s.hears = true → s.bus.transmitter ∈ [.waitingIdle, .backoff] →
      chooseClass s.settings.selection s.bus.queues s.bus.credits = some (cls, after) →
      Answers (exec .idleEvent s) (fun t => t.bus.credits = after ∧ t.bus.jitter = (s.bus.jitter + 1) % 16 ∧
        t.bus.queues = s.bus.queues ∧
        (cls.gapBits + 2 * jitterSequence.getD s.bus.jitter 0 ≠ 0 →
          t.bus.transmitter = .gap cls (cls.gapBits + 2 * jitterSequence.getD s.bus.jitter 0)) ∧
        (cls.gapBits + 2 * jitterSequence.getD s.bus.jitter 0 = 0 →
          t.bus.transmitter = .sending .alert
            (frameBytes 2#8 (byteOf s.settings.ownAddress) 63#8 (alertBytes s.alertContent)))))

/-- When the gap is counted out the head frame of the class goes on the line: an ALERT and a STATUS with their content
captured then, a PASSAGE and a REPORT with the content they hold; the assembler discards what follows. -/
def Obligations.GapEndCapturesAndSends : Prop :=
  ∀ (s : State) (cls : TxClass) (bits : Nat) (f : QueuedFrame) (named destination : Byte) (payload : List Byte)
    (restart : Bool), s.bus.transmitter = .gap cls bits → (s.bus.queues.get cls).head? = some f →
    f.content.cls = cls →
    Answers (exec .gapCountedOut s) (fun t => t.bus.queues = s.bus.queues ∧ t.bus.assembler = .awaitIdle ∧
      t.bus.idleCount = 0 ∧ t.counters = s.counters ∧
      (f.content = .alert → t.bus.transmitter = .sending .alert
        (frameBytes 2#8 (byteOf s.settings.ownAddress) 63#8 (alertBytes s.alertContent))) ∧
      (f.content = .passage named → t.bus.transmitter = .sending .passage
        (frameBytes 3#8 (byteOf s.settings.ownAddress) 63#8 [named])) ∧
      (f.content = .report destination payload restart → t.bus.transmitter = .sending .report
        (frameBytes 5#8 (byteOf s.settings.ownAddress) destination payload)) ∧
      (f.content = .status → t.bus.transmitter = .sending .status
          (frameBytes 1#8 (byteOf s.settings.ownAddress) 63#8 (statusBytes t.statusContent)) ∧
        t.guide.closed = t.closureHolds ∧ (s.station = .normal → t.guide.rows = t.evaluateRoutes) ∧
        t.bus.owed = s.bus.owed ∧ t.bus.spacingTimer = s.bus.spacingTimer) ∧
      (f.content ≠ .status → OnlyChanges [.bus] s t) ∧ OnlyChanges [.guide, .bus] s t)

/-- TX_COMPLETE counts TX_GOOD, removes the frame and under WEIGHTED selection spends a credit; COLLISION counts
TX_COLLISION and keeps the frame with one attempt more, or at the eighth drops it and counts TX_DROP. An ALERT or a
STATUS that stays absorbs a newer one behind it (log 29). When the frame that leaves is the REPORT a restart waits for,
the restart is taken; where the spec gives no value after it the model's stands (logs 3, 5, 6, 7; the lines of
the inputs kept, log 4; a receiver that hunts, log 31; the empty image of the settings memory, log 34). -/
def Obligations.TransmissionEndsOrCollides : Prop :=
  ∀ (s : State) (cls : TxClass) (bytes : List Byte) (f : QueuedFrame) (rest : List QueuedFrame),
    s.bus.transmitter = .sending cls bytes → s.bus.queues.get cls = f :: rest →
    (s.bus.headRestarts cls = false →
      Answers (exec .txComplete s) (fun t => t.counters = s.counters.bump .txGood ∧
        t.bus = { s.bus with
          queues := s.bus.queues.put cls rest
          transmitter := if s.bus.queues.put cls rest = .empty then .atRest else .waitingIdle
          credits := if s.settings.selection = .weighted then s.bus.credits.spend cls else s.bus.credits } ∧
        OnlyChanges [.bus, .counters] s t)) ∧
    (s.bus.headRestarts cls = true →
      Answers (exec .txComplete s) (fun t => t.station = .starting ∧ t.counters = s.counters.bump .txGood ∧
        t.startup = .starting s.startup.supplyInRange ∧ HoldsResetValues s t)) ∧
    (f.attempts < 7 →
      Answers (exec .collision s) (fun t => t.counters = s.counters.bump .txCollision ∧
        t.bus = { s.bus with
          queues := s.bus.queues.put cls
            ({ f with attempts := f.attempts + 1 } :: (if cls = .alert ∨ cls = .status then [] else rest))
          transmitter := .backoff } ∧
        OnlyChanges [.bus, .counters] s t)) ∧
    (7 ≤ f.attempts → s.bus.headRestarts cls = false →
      Answers (exec .collision s) (fun t => t.counters = (s.counters.bump .txCollision).bump .txDrop ∧
        t.bus = { s.bus with queues := s.bus.queues.put cls rest, transmitter := .backoff } ∧
        OnlyChanges [.bus, .counters] s t)) ∧
    (7 ≤ f.attempts → s.bus.headRestarts cls = true →
      Answers (exec .collision s) (fun t => t.station = .starting ∧
        t.counters = (s.counters.bump .txCollision).bump .txDrop ∧
        t.startup = .starting s.startup.supplyInRange ∧ HoldsResetValues s t))

/-! ### What every step keeps -/

/-- The state after reset is sound in every block, with the values the model names where the spec gives none (logs 3,
5, 6 and 7). -/
def Obligations.ResetStateIsSound : Prop :=
  State.reset.CountersSound ∧ State.reset.SendingSound ∧ State.reset.LightingSound ∧ State.reset.DemandSound ∧
    State.reset.GuidanceSound ∧ State.reset.BaysSound ∧ State.reset.PeersSound ∧ State.reset.FansSound ∧
    State.reset.AirSound ∧ State.reset.StationSound

/-- Every step keeps the counters legal, and every step keeps the queues, the transmitter and the jitter position
sound: at most one ALERT and at most one STATUS are pending. -/
def Obligations.StepKeepsCountersAndSendingSound : Prop :=
  ∀ (s t : State), step s = .next t →
    (s.CountersSound → t.CountersSound) ∧ (s.SendingSound → t.SendingSound)

/-- Every step keeps the channels legal, and FORCED exactly while the forcing condition holds; outside LISTENING and
NORMAL FORCED is the model's name for a channel held at 100 (log 7). -/
def Obligations.StepKeepsLightingSound : Prop :=
  ∀ (s t : State), step s = .next t → s.LightingSound → t.LightingSound

/-- Every step keeps the closure state as its sources give it, the rows in NORMAL as an evaluation now gives them, and
every image as the state gives it. Premise: the Peer Table is sound, which every step keeps. -/
def Obligations.StepKeepsGuidanceSound : Prop :=
  ∀ (s t : State), step s = .next t → s.PeersSound → s.GuidanceSound → t.GuidanceSound

/-- Every step keeps reservations in RESERVED alone, counts in range, a read that will be acted on to a bay in service,
and every gate's state in step with its loops. -/
def Obligations.StepKeepsBaysSound : Prop :=
  ∀ (s t : State), step s = .next t → s.BaysSound → t.BaysSound

/-- Every step keeps the sixteen slots, one entry for an address, ages and states that agree, and sympathy as the slots
give it. -/
def Obligations.StepKeepsPeersSound : Prop :=
  ∀ (s t : State), step s = .next t → s.PeersSound → t.PeersSound

/-- Every step keeps the run list, the start queue and the fan states in agreement, at most one fan in STARTING, and no
more fans running or queued than planned. -/
def Obligations.StepKeepsFansSound : Prop :=
  ∀ (s t : State), step s = .next t → s.FansSound → t.FansSound

/-- Every step keeps the head records in range, the own index as the head states that others read give it, and the hold
timer where the alarm level may fall; and every step keeps the floor as its terms stand, with C and D not below it. -/
def Obligations.StepKeepsAirAndDemandSound : Prop :=
  ∀ (s t : State), step s = .next t →
    (s.AirSound → t.AirSound) ∧ (s.DemandSound → t.DemandSound)

/-- Every step keeps what each station state holds: settings only from the record read, rest before and without it, with
the values the model names there (logs 3, 5, 6 and 7). -/
def Obligations.StepKeepsStationSound : Prop :=
  ∀ (s t : State), step s = .next t → s.StationSound → t.StationSound

end Obligations
end

