-- ==== Sys2Proof/Laws/State.lean ====
section
/-! SUPPORT. One lemma per field of State per replacement of a block, so that no later proof unfolds a record update. -/

namespace Sys2Proof.Machine

@[simp] theorem State.setStation_station (s : State) (v : Station) : (s.setStation v).station = v := rfl
@[simp] theorem State.setStation_settings (s : State) (v : Station) : (s.setStation v).settings = s.settings := rfl
@[simp] theorem State.setStation_startup (s : State) (v : Station) : (s.setStation v).startup = s.startup := rfl
@[simp] theorem State.setStation_inputs (s : State) (v : Station) : (s.setStation v).inputs = s.inputs := rfl
@[simp] theorem State.setStation_air (s : State) (v : Station) : (s.setStation v).air = s.air := rfl
@[simp] theorem State.setStation_vent (s : State) (v : Station) : (s.setStation v).vent = s.vent := rfl
@[simp] theorem State.setStation_bays (s : State) (v : Station) : (s.setStation v).bays = s.bays := rfl
@[simp] theorem State.setStation_peers (s : State) (v : Station) : (s.setStation v).peers = s.peers := rfl
@[simp] theorem State.setStation_guide (s : State) (v : Station) : (s.setStation v).guide = s.guide := rfl
@[simp] theorem State.setStation_light (s : State) (v : Station) : (s.setStation v).light = s.light := rfl
@[simp] theorem State.setStation_bus (s : State) (v : Station) : (s.setStation v).bus = s.bus := rfl
@[simp] theorem State.setStation_counters (s : State) (v : Station) : (s.setStation v).counters = s.counters := rfl
@[simp] theorem State.setStation_pending (s : State) (v : Station) : (s.setStation v).pending = s.pending := rfl
@[simp] theorem State.setStation_self (s : State) : s.setStation s.station = s := rfl
@[simp] theorem State.setStation_setStation (s : State) (v w : Station) : (s.setStation v).setStation w = s.setStation w := rfl

@[simp] theorem State.setSettings_station (s : State) (v : Settings) : (s.setSettings v).station = s.station := rfl
@[simp] theorem State.setSettings_settings (s : State) (v : Settings) : (s.setSettings v).settings = v := rfl
@[simp] theorem State.setSettings_startup (s : State) (v : Settings) : (s.setSettings v).startup = s.startup := rfl
@[simp] theorem State.setSettings_inputs (s : State) (v : Settings) : (s.setSettings v).inputs = s.inputs := rfl
@[simp] theorem State.setSettings_air (s : State) (v : Settings) : (s.setSettings v).air = s.air := rfl
@[simp] theorem State.setSettings_vent (s : State) (v : Settings) : (s.setSettings v).vent = s.vent := rfl
@[simp] theorem State.setSettings_bays (s : State) (v : Settings) : (s.setSettings v).bays = s.bays := rfl
@[simp] theorem State.setSettings_peers (s : State) (v : Settings) : (s.setSettings v).peers = s.peers := rfl
@[simp] theorem State.setSettings_guide (s : State) (v : Settings) : (s.setSettings v).guide = s.guide := rfl
@[simp] theorem State.setSettings_light (s : State) (v : Settings) : (s.setSettings v).light = s.light := rfl
@[simp] theorem State.setSettings_bus (s : State) (v : Settings) : (s.setSettings v).bus = s.bus := rfl
@[simp] theorem State.setSettings_counters (s : State) (v : Settings) : (s.setSettings v).counters = s.counters := rfl
@[simp] theorem State.setSettings_pending (s : State) (v : Settings) : (s.setSettings v).pending = s.pending := rfl
@[simp] theorem State.setSettings_self (s : State) : s.setSettings s.settings = s := rfl
@[simp] theorem State.setSettings_setSettings (s : State) (v w : Settings) : (s.setSettings v).setSettings w = s.setSettings w := rfl

@[simp] theorem State.setStartup_station (s : State) (v : StartUp) : (s.setStartup v).station = s.station := rfl
@[simp] theorem State.setStartup_settings (s : State) (v : StartUp) : (s.setStartup v).settings = s.settings := rfl
@[simp] theorem State.setStartup_startup (s : State) (v : StartUp) : (s.setStartup v).startup = v := rfl
@[simp] theorem State.setStartup_inputs (s : State) (v : StartUp) : (s.setStartup v).inputs = s.inputs := rfl
@[simp] theorem State.setStartup_air (s : State) (v : StartUp) : (s.setStartup v).air = s.air := rfl
@[simp] theorem State.setStartup_vent (s : State) (v : StartUp) : (s.setStartup v).vent = s.vent := rfl
@[simp] theorem State.setStartup_bays (s : State) (v : StartUp) : (s.setStartup v).bays = s.bays := rfl
@[simp] theorem State.setStartup_peers (s : State) (v : StartUp) : (s.setStartup v).peers = s.peers := rfl
@[simp] theorem State.setStartup_guide (s : State) (v : StartUp) : (s.setStartup v).guide = s.guide := rfl
@[simp] theorem State.setStartup_light (s : State) (v : StartUp) : (s.setStartup v).light = s.light := rfl
@[simp] theorem State.setStartup_bus (s : State) (v : StartUp) : (s.setStartup v).bus = s.bus := rfl
@[simp] theorem State.setStartup_counters (s : State) (v : StartUp) : (s.setStartup v).counters = s.counters := rfl
@[simp] theorem State.setStartup_pending (s : State) (v : StartUp) : (s.setStartup v).pending = s.pending := rfl
@[simp] theorem State.setStartup_self (s : State) : s.setStartup s.startup = s := rfl
@[simp] theorem State.setStartup_setStartup (s : State) (v w : StartUp) : (s.setStartup v).setStartup w = s.setStartup w := rfl

@[simp] theorem State.setInputs_station (s : State) (v : Inputs) : (s.setInputs v).station = s.station := rfl
@[simp] theorem State.setInputs_settings (s : State) (v : Inputs) : (s.setInputs v).settings = s.settings := rfl
@[simp] theorem State.setInputs_startup (s : State) (v : Inputs) : (s.setInputs v).startup = s.startup := rfl
@[simp] theorem State.setInputs_inputs (s : State) (v : Inputs) : (s.setInputs v).inputs = v := rfl
@[simp] theorem State.setInputs_air (s : State) (v : Inputs) : (s.setInputs v).air = s.air := rfl
@[simp] theorem State.setInputs_vent (s : State) (v : Inputs) : (s.setInputs v).vent = s.vent := rfl
@[simp] theorem State.setInputs_bays (s : State) (v : Inputs) : (s.setInputs v).bays = s.bays := rfl
@[simp] theorem State.setInputs_peers (s : State) (v : Inputs) : (s.setInputs v).peers = s.peers := rfl
@[simp] theorem State.setInputs_guide (s : State) (v : Inputs) : (s.setInputs v).guide = s.guide := rfl
@[simp] theorem State.setInputs_light (s : State) (v : Inputs) : (s.setInputs v).light = s.light := rfl
@[simp] theorem State.setInputs_bus (s : State) (v : Inputs) : (s.setInputs v).bus = s.bus := rfl
@[simp] theorem State.setInputs_counters (s : State) (v : Inputs) : (s.setInputs v).counters = s.counters := rfl
@[simp] theorem State.setInputs_pending (s : State) (v : Inputs) : (s.setInputs v).pending = s.pending := rfl
@[simp] theorem State.setInputs_self (s : State) : s.setInputs s.inputs = s := rfl
@[simp] theorem State.setInputs_setInputs (s : State) (v w : Inputs) : (s.setInputs v).setInputs w = s.setInputs w := rfl

@[simp] theorem State.setAir_station (s : State) (v : AirMonitor) : (s.setAir v).station = s.station := rfl
@[simp] theorem State.setAir_settings (s : State) (v : AirMonitor) : (s.setAir v).settings = s.settings := rfl
@[simp] theorem State.setAir_startup (s : State) (v : AirMonitor) : (s.setAir v).startup = s.startup := rfl
@[simp] theorem State.setAir_inputs (s : State) (v : AirMonitor) : (s.setAir v).inputs = s.inputs := rfl
@[simp] theorem State.setAir_air (s : State) (v : AirMonitor) : (s.setAir v).air = v := rfl
@[simp] theorem State.setAir_vent (s : State) (v : AirMonitor) : (s.setAir v).vent = s.vent := rfl
@[simp] theorem State.setAir_bays (s : State) (v : AirMonitor) : (s.setAir v).bays = s.bays := rfl
@[simp] theorem State.setAir_peers (s : State) (v : AirMonitor) : (s.setAir v).peers = s.peers := rfl
@[simp] theorem State.setAir_guide (s : State) (v : AirMonitor) : (s.setAir v).guide = s.guide := rfl
@[simp] theorem State.setAir_light (s : State) (v : AirMonitor) : (s.setAir v).light = s.light := rfl
@[simp] theorem State.setAir_bus (s : State) (v : AirMonitor) : (s.setAir v).bus = s.bus := rfl
@[simp] theorem State.setAir_counters (s : State) (v : AirMonitor) : (s.setAir v).counters = s.counters := rfl
@[simp] theorem State.setAir_pending (s : State) (v : AirMonitor) : (s.setAir v).pending = s.pending := rfl
@[simp] theorem State.setAir_self (s : State) : s.setAir s.air = s := rfl
@[simp] theorem State.setAir_setAir (s : State) (v w : AirMonitor) : (s.setAir v).setAir w = s.setAir w := rfl

@[simp] theorem State.setVent_station (s : State) (v : Ventilation) : (s.setVent v).station = s.station := rfl
@[simp] theorem State.setVent_settings (s : State) (v : Ventilation) : (s.setVent v).settings = s.settings := rfl
@[simp] theorem State.setVent_startup (s : State) (v : Ventilation) : (s.setVent v).startup = s.startup := rfl
@[simp] theorem State.setVent_inputs (s : State) (v : Ventilation) : (s.setVent v).inputs = s.inputs := rfl
@[simp] theorem State.setVent_air (s : State) (v : Ventilation) : (s.setVent v).air = s.air := rfl
@[simp] theorem State.setVent_vent (s : State) (v : Ventilation) : (s.setVent v).vent = v := rfl
@[simp] theorem State.setVent_bays (s : State) (v : Ventilation) : (s.setVent v).bays = s.bays := rfl
@[simp] theorem State.setVent_peers (s : State) (v : Ventilation) : (s.setVent v).peers = s.peers := rfl
@[simp] theorem State.setVent_guide (s : State) (v : Ventilation) : (s.setVent v).guide = s.guide := rfl
@[simp] theorem State.setVent_light (s : State) (v : Ventilation) : (s.setVent v).light = s.light := rfl
@[simp] theorem State.setVent_bus (s : State) (v : Ventilation) : (s.setVent v).bus = s.bus := rfl
@[simp] theorem State.setVent_counters (s : State) (v : Ventilation) : (s.setVent v).counters = s.counters := rfl
@[simp] theorem State.setVent_pending (s : State) (v : Ventilation) : (s.setVent v).pending = s.pending := rfl
@[simp] theorem State.setVent_self (s : State) : s.setVent s.vent = s := rfl
@[simp] theorem State.setVent_setVent (s : State) (v w : Ventilation) : (s.setVent v).setVent w = s.setVent w := rfl

@[simp] theorem State.setBays_station (s : State) (v : BayMonitor) : (s.setBays v).station = s.station := rfl
@[simp] theorem State.setBays_settings (s : State) (v : BayMonitor) : (s.setBays v).settings = s.settings := rfl
@[simp] theorem State.setBays_startup (s : State) (v : BayMonitor) : (s.setBays v).startup = s.startup := rfl
@[simp] theorem State.setBays_inputs (s : State) (v : BayMonitor) : (s.setBays v).inputs = s.inputs := rfl
@[simp] theorem State.setBays_air (s : State) (v : BayMonitor) : (s.setBays v).air = s.air := rfl
@[simp] theorem State.setBays_vent (s : State) (v : BayMonitor) : (s.setBays v).vent = s.vent := rfl
@[simp] theorem State.setBays_bays (s : State) (v : BayMonitor) : (s.setBays v).bays = v := rfl
@[simp] theorem State.setBays_peers (s : State) (v : BayMonitor) : (s.setBays v).peers = s.peers := rfl
@[simp] theorem State.setBays_guide (s : State) (v : BayMonitor) : (s.setBays v).guide = s.guide := rfl
@[simp] theorem State.setBays_light (s : State) (v : BayMonitor) : (s.setBays v).light = s.light := rfl
@[simp] theorem State.setBays_bus (s : State) (v : BayMonitor) : (s.setBays v).bus = s.bus := rfl
@[simp] theorem State.setBays_counters (s : State) (v : BayMonitor) : (s.setBays v).counters = s.counters := rfl
@[simp] theorem State.setBays_pending (s : State) (v : BayMonitor) : (s.setBays v).pending = s.pending := rfl
@[simp] theorem State.setBays_self (s : State) : s.setBays s.bays = s := rfl
@[simp] theorem State.setBays_setBays (s : State) (v w : BayMonitor) : (s.setBays v).setBays w = s.setBays w := rfl

@[simp] theorem State.setPeers_station (s : State) (v : PeerTable) : (s.setPeers v).station = s.station := rfl
@[simp] theorem State.setPeers_settings (s : State) (v : PeerTable) : (s.setPeers v).settings = s.settings := rfl
@[simp] theorem State.setPeers_startup (s : State) (v : PeerTable) : (s.setPeers v).startup = s.startup := rfl
@[simp] theorem State.setPeers_inputs (s : State) (v : PeerTable) : (s.setPeers v).inputs = s.inputs := rfl
@[simp] theorem State.setPeers_air (s : State) (v : PeerTable) : (s.setPeers v).air = s.air := rfl
@[simp] theorem State.setPeers_vent (s : State) (v : PeerTable) : (s.setPeers v).vent = s.vent := rfl
@[simp] theorem State.setPeers_bays (s : State) (v : PeerTable) : (s.setPeers v).bays = s.bays := rfl
@[simp] theorem State.setPeers_peers (s : State) (v : PeerTable) : (s.setPeers v).peers = v := rfl
@[simp] theorem State.setPeers_guide (s : State) (v : PeerTable) : (s.setPeers v).guide = s.guide := rfl
@[simp] theorem State.setPeers_light (s : State) (v : PeerTable) : (s.setPeers v).light = s.light := rfl
@[simp] theorem State.setPeers_bus (s : State) (v : PeerTable) : (s.setPeers v).bus = s.bus := rfl
@[simp] theorem State.setPeers_counters (s : State) (v : PeerTable) : (s.setPeers v).counters = s.counters := rfl
@[simp] theorem State.setPeers_pending (s : State) (v : PeerTable) : (s.setPeers v).pending = s.pending := rfl
@[simp] theorem State.setPeers_self (s : State) : s.setPeers s.peers = s := rfl
@[simp] theorem State.setPeers_setPeers (s : State) (v w : PeerTable) : (s.setPeers v).setPeers w = s.setPeers w := rfl

@[simp] theorem State.setGuide_station (s : State) (v : Guidance) : (s.setGuide v).station = s.station := rfl
@[simp] theorem State.setGuide_settings (s : State) (v : Guidance) : (s.setGuide v).settings = s.settings := rfl
@[simp] theorem State.setGuide_startup (s : State) (v : Guidance) : (s.setGuide v).startup = s.startup := rfl
@[simp] theorem State.setGuide_inputs (s : State) (v : Guidance) : (s.setGuide v).inputs = s.inputs := rfl
@[simp] theorem State.setGuide_air (s : State) (v : Guidance) : (s.setGuide v).air = s.air := rfl
@[simp] theorem State.setGuide_vent (s : State) (v : Guidance) : (s.setGuide v).vent = s.vent := rfl
@[simp] theorem State.setGuide_bays (s : State) (v : Guidance) : (s.setGuide v).bays = s.bays := rfl
@[simp] theorem State.setGuide_peers (s : State) (v : Guidance) : (s.setGuide v).peers = s.peers := rfl
@[simp] theorem State.setGuide_guide (s : State) (v : Guidance) : (s.setGuide v).guide = v := rfl
@[simp] theorem State.setGuide_light (s : State) (v : Guidance) : (s.setGuide v).light = s.light := rfl
@[simp] theorem State.setGuide_bus (s : State) (v : Guidance) : (s.setGuide v).bus = s.bus := rfl
@[simp] theorem State.setGuide_counters (s : State) (v : Guidance) : (s.setGuide v).counters = s.counters := rfl
@[simp] theorem State.setGuide_pending (s : State) (v : Guidance) : (s.setGuide v).pending = s.pending := rfl
@[simp] theorem State.setGuide_self (s : State) : s.setGuide s.guide = s := rfl
@[simp] theorem State.setGuide_setGuide (s : State) (v w : Guidance) : (s.setGuide v).setGuide w = s.setGuide w := rfl

@[simp] theorem State.setLight_station (s : State) (v : Lighting) : (s.setLight v).station = s.station := rfl
@[simp] theorem State.setLight_settings (s : State) (v : Lighting) : (s.setLight v).settings = s.settings := rfl
@[simp] theorem State.setLight_startup (s : State) (v : Lighting) : (s.setLight v).startup = s.startup := rfl
@[simp] theorem State.setLight_inputs (s : State) (v : Lighting) : (s.setLight v).inputs = s.inputs := rfl
@[simp] theorem State.setLight_air (s : State) (v : Lighting) : (s.setLight v).air = s.air := rfl
@[simp] theorem State.setLight_vent (s : State) (v : Lighting) : (s.setLight v).vent = s.vent := rfl
@[simp] theorem State.setLight_bays (s : State) (v : Lighting) : (s.setLight v).bays = s.bays := rfl
@[simp] theorem State.setLight_peers (s : State) (v : Lighting) : (s.setLight v).peers = s.peers := rfl
@[simp] theorem State.setLight_guide (s : State) (v : Lighting) : (s.setLight v).guide = s.guide := rfl
@[simp] theorem State.setLight_light (s : State) (v : Lighting) : (s.setLight v).light = v := rfl
@[simp] theorem State.setLight_bus (s : State) (v : Lighting) : (s.setLight v).bus = s.bus := rfl
@[simp] theorem State.setLight_counters (s : State) (v : Lighting) : (s.setLight v).counters = s.counters := rfl
@[simp] theorem State.setLight_pending (s : State) (v : Lighting) : (s.setLight v).pending = s.pending := rfl
@[simp] theorem State.setLight_self (s : State) : s.setLight s.light = s := rfl
@[simp] theorem State.setLight_setLight (s : State) (v w : Lighting) : (s.setLight v).setLight w = s.setLight w := rfl

@[simp] theorem State.setBus_station (s : State) (v : BusInterface) : (s.setBus v).station = s.station := rfl
@[simp] theorem State.setBus_settings (s : State) (v : BusInterface) : (s.setBus v).settings = s.settings := rfl
@[simp] theorem State.setBus_startup (s : State) (v : BusInterface) : (s.setBus v).startup = s.startup := rfl
@[simp] theorem State.setBus_inputs (s : State) (v : BusInterface) : (s.setBus v).inputs = s.inputs := rfl
@[simp] theorem State.setBus_air (s : State) (v : BusInterface) : (s.setBus v).air = s.air := rfl
@[simp] theorem State.setBus_vent (s : State) (v : BusInterface) : (s.setBus v).vent = s.vent := rfl
@[simp] theorem State.setBus_bays (s : State) (v : BusInterface) : (s.setBus v).bays = s.bays := rfl
@[simp] theorem State.setBus_peers (s : State) (v : BusInterface) : (s.setBus v).peers = s.peers := rfl
@[simp] theorem State.setBus_guide (s : State) (v : BusInterface) : (s.setBus v).guide = s.guide := rfl
@[simp] theorem State.setBus_light (s : State) (v : BusInterface) : (s.setBus v).light = s.light := rfl
@[simp] theorem State.setBus_bus (s : State) (v : BusInterface) : (s.setBus v).bus = v := rfl
@[simp] theorem State.setBus_counters (s : State) (v : BusInterface) : (s.setBus v).counters = s.counters := rfl
@[simp] theorem State.setBus_pending (s : State) (v : BusInterface) : (s.setBus v).pending = s.pending := rfl
@[simp] theorem State.setBus_self (s : State) : s.setBus s.bus = s := rfl
@[simp] theorem State.setBus_setBus (s : State) (v w : BusInterface) : (s.setBus v).setBus w = s.setBus w := rfl

@[simp] theorem State.setCounters_station (s : State) (v : Counters) : (s.setCounters v).station = s.station := rfl
@[simp] theorem State.setCounters_settings (s : State) (v : Counters) : (s.setCounters v).settings = s.settings := rfl
@[simp] theorem State.setCounters_startup (s : State) (v : Counters) : (s.setCounters v).startup = s.startup := rfl
@[simp] theorem State.setCounters_inputs (s : State) (v : Counters) : (s.setCounters v).inputs = s.inputs := rfl
@[simp] theorem State.setCounters_air (s : State) (v : Counters) : (s.setCounters v).air = s.air := rfl
@[simp] theorem State.setCounters_vent (s : State) (v : Counters) : (s.setCounters v).vent = s.vent := rfl
@[simp] theorem State.setCounters_bays (s : State) (v : Counters) : (s.setCounters v).bays = s.bays := rfl
@[simp] theorem State.setCounters_peers (s : State) (v : Counters) : (s.setCounters v).peers = s.peers := rfl
@[simp] theorem State.setCounters_guide (s : State) (v : Counters) : (s.setCounters v).guide = s.guide := rfl
@[simp] theorem State.setCounters_light (s : State) (v : Counters) : (s.setCounters v).light = s.light := rfl
@[simp] theorem State.setCounters_bus (s : State) (v : Counters) : (s.setCounters v).bus = s.bus := rfl
@[simp] theorem State.setCounters_counters (s : State) (v : Counters) : (s.setCounters v).counters = v := rfl
@[simp] theorem State.setCounters_pending (s : State) (v : Counters) : (s.setCounters v).pending = s.pending := rfl
@[simp] theorem State.setCounters_self (s : State) : s.setCounters s.counters = s := rfl
@[simp] theorem State.setCounters_setCounters (s : State) (v w : Counters) : (s.setCounters v).setCounters w = s.setCounters w := rfl

@[simp] theorem State.setPending_station (s : State) (v : List Instr) : (s.setPending v).station = s.station := rfl
@[simp] theorem State.setPending_settings (s : State) (v : List Instr) : (s.setPending v).settings = s.settings := rfl
@[simp] theorem State.setPending_startup (s : State) (v : List Instr) : (s.setPending v).startup = s.startup := rfl
@[simp] theorem State.setPending_inputs (s : State) (v : List Instr) : (s.setPending v).inputs = s.inputs := rfl
@[simp] theorem State.setPending_air (s : State) (v : List Instr) : (s.setPending v).air = s.air := rfl
@[simp] theorem State.setPending_vent (s : State) (v : List Instr) : (s.setPending v).vent = s.vent := rfl
@[simp] theorem State.setPending_bays (s : State) (v : List Instr) : (s.setPending v).bays = s.bays := rfl
@[simp] theorem State.setPending_peers (s : State) (v : List Instr) : (s.setPending v).peers = s.peers := rfl
@[simp] theorem State.setPending_guide (s : State) (v : List Instr) : (s.setPending v).guide = s.guide := rfl
@[simp] theorem State.setPending_light (s : State) (v : List Instr) : (s.setPending v).light = s.light := rfl
@[simp] theorem State.setPending_bus (s : State) (v : List Instr) : (s.setPending v).bus = s.bus := rfl
@[simp] theorem State.setPending_counters (s : State) (v : List Instr) : (s.setPending v).counters = s.counters := rfl
@[simp] theorem State.setPending_pending (s : State) (v : List Instr) : (s.setPending v).pending = v := rfl
@[simp] theorem State.setPending_self (s : State) : s.setPending s.pending = s := rfl
@[simp] theorem State.setPending_setPending (s : State) (v w : List Instr) : (s.setPending v).setPending w = s.setPending w := rfl

end Sys2Proof.Machine
end

