-- ==== Sys2Proof/Laws/Frames.lean ====
section
/-! SUPPORT. What each shared operation over State leaves alone, field by field, and in one equation all it can change. -/

namespace Sys2Proof.Machine

-- One proof after another: many small proofs side by side ask the compiler for more threads than its memory limit allows.
set_option Elab.async false

/-- Two states with equal fields are equal. -/
theorem State.ext_fields {s t : State} (h1 : s.station = t.station) (h2 : s.settings = t.settings)
    (h3 : s.startup = t.startup) (h4 : s.inputs = t.inputs) (h5 : s.air = t.air) (h6 : s.vent = t.vent)
    (h7 : s.bays = t.bays) (h8 : s.peers = t.peers) (h9 : s.guide = t.guide) (h10 : s.light = t.light)
    (h11 : s.bus = t.bus) (h12 : s.counters = t.counters) (h13 : s.pending = t.pending) : s = t := by
  cases s; cases t; simp_all

/-! ### Ops / count -/

@[simp] theorem State.count_station (s : State) (n : CounterName) : (s.count n).station = s.station := by
  simp [State.count]
@[simp] theorem State.count_settings (s : State) (n : CounterName) : (s.count n).settings = s.settings := by
  simp [State.count]
@[simp] theorem State.count_startup (s : State) (n : CounterName) : (s.count n).startup = s.startup := by
  simp [State.count]
@[simp] theorem State.count_inputs (s : State) (n : CounterName) : (s.count n).inputs = s.inputs := by
  simp [State.count]
@[simp] theorem State.count_air (s : State) (n : CounterName) : (s.count n).air = s.air := by
  simp [State.count]
@[simp] theorem State.count_vent (s : State) (n : CounterName) : (s.count n).vent = s.vent := by
  simp [State.count]
@[simp] theorem State.count_bays (s : State) (n : CounterName) : (s.count n).bays = s.bays := by
  simp [State.count]
@[simp] theorem State.count_peers (s : State) (n : CounterName) : (s.count n).peers = s.peers := by
  simp [State.count]
@[simp] theorem State.count_guide (s : State) (n : CounterName) : (s.count n).guide = s.guide := by
  simp [State.count]
@[simp] theorem State.count_light (s : State) (n : CounterName) : (s.count n).light = s.light := by
  simp [State.count]
@[simp] theorem State.count_bus (s : State) (n : CounterName) : (s.count n).bus = s.bus := by
  simp [State.count]
@[simp] theorem State.count_pending (s : State) (n : CounterName) : (s.count n).pending = s.pending := by
  simp [State.count]

/-- All that `count` can change: `counters`. -/
theorem State.count_only (s : State) (n : CounterName) :
    s.count n = s.setCounters (s.count n).counters :=
  State.ext_fields (by simp) (by simp) (by simp) (by simp) (by simp) (by simp) (by simp) (by simp) (by simp) (by simp) (by simp) (by simp) (by simp)

/-! ### Lighting -/

@[simp] theorem State.presence_station (s : State) (set : ChannelSet) : (s.presence set).station = s.station := by
  simp [State.presence]
@[simp] theorem State.presence_settings (s : State) (set : ChannelSet) : (s.presence set).settings = s.settings := by
  simp [State.presence]
@[simp] theorem State.presence_startup (s : State) (set : ChannelSet) : (s.presence set).startup = s.startup := by
  simp [State.presence]
@[simp] theorem State.presence_inputs (s : State) (set : ChannelSet) : (s.presence set).inputs = s.inputs := by
  simp [State.presence]
@[simp] theorem State.presence_air (s : State) (set : ChannelSet) : (s.presence set).air = s.air := by
  simp [State.presence]
@[simp] theorem State.presence_vent (s : State) (set : ChannelSet) : (s.presence set).vent = s.vent := by
  simp [State.presence]
@[simp] theorem State.presence_bays (s : State) (set : ChannelSet) : (s.presence set).bays = s.bays := by
  simp [State.presence]
@[simp] theorem State.presence_peers (s : State) (set : ChannelSet) : (s.presence set).peers = s.peers := by
  simp [State.presence]
@[simp] theorem State.presence_guide (s : State) (set : ChannelSet) : (s.presence set).guide = s.guide := by
  simp [State.presence]
@[simp] theorem State.presence_bus (s : State) (set : ChannelSet) : (s.presence set).bus = s.bus := by
  simp [State.presence]
@[simp] theorem State.presence_counters (s : State) (set : ChannelSet) : (s.presence set).counters = s.counters := by
  simp [State.presence]
@[simp] theorem State.presence_pending (s : State) (set : ChannelSet) : (s.presence set).pending = s.pending := by
  simp [State.presence]

/-- All that `presence` can change: `light`. -/
theorem State.presence_only (s : State) (set : ChannelSet) :
    s.presence set = s.setLight (s.presence set).light :=
  State.ext_fields (by simp) (by simp) (by simp) (by simp) (by simp) (by simp) (by simp) (by simp) (by simp) (by simp) (by simp) (by simp) (by simp)

@[simp] theorem State.presenceAt_station (s : State) (channel : Nat) : (s.presenceAt channel).station = s.station := by
  simp [State.presenceAt]
@[simp] theorem State.presenceAt_settings (s : State) (channel : Nat) : (s.presenceAt channel).settings = s.settings := by
  simp [State.presenceAt]
@[simp] theorem State.presenceAt_startup (s : State) (channel : Nat) : (s.presenceAt channel).startup = s.startup := by
  simp [State.presenceAt]
@[simp] theorem State.presenceAt_inputs (s : State) (channel : Nat) : (s.presenceAt channel).inputs = s.inputs := by
  simp [State.presenceAt]
@[simp] theorem State.presenceAt_air (s : State) (channel : Nat) : (s.presenceAt channel).air = s.air := by
  simp [State.presenceAt]
@[simp] theorem State.presenceAt_vent (s : State) (channel : Nat) : (s.presenceAt channel).vent = s.vent := by
  simp [State.presenceAt]
@[simp] theorem State.presenceAt_bays (s : State) (channel : Nat) : (s.presenceAt channel).bays = s.bays := by
  simp [State.presenceAt]
@[simp] theorem State.presenceAt_peers (s : State) (channel : Nat) : (s.presenceAt channel).peers = s.peers := by
  simp [State.presenceAt]
@[simp] theorem State.presenceAt_guide (s : State) (channel : Nat) : (s.presenceAt channel).guide = s.guide := by
  simp [State.presenceAt]
@[simp] theorem State.presenceAt_bus (s : State) (channel : Nat) : (s.presenceAt channel).bus = s.bus := by
  simp [State.presenceAt]
@[simp] theorem State.presenceAt_counters (s : State) (channel : Nat) : (s.presenceAt channel).counters = s.counters := by
  simp [State.presenceAt]
@[simp] theorem State.presenceAt_pending (s : State) (channel : Nat) : (s.presenceAt channel).pending = s.pending := by
  simp [State.presenceAt]

/-- All that `presenceAt` can change: `light`. -/
theorem State.presenceAt_only (s : State) (channel : Nat) :
    s.presenceAt channel = s.setLight (s.presenceAt channel).light :=
  State.ext_fields (by simp) (by simp) (by simp) (by simp) (by simp) (by simp) (by simp) (by simp) (by simp) (by simp) (by simp) (by simp) (by simp)

@[simp] theorem State.formForcing_station (s : State) : s.formForcing.station = s.station := by
  simp only [State.formForcing]; (repeat' split) <;> simp
@[simp] theorem State.formForcing_settings (s : State) : s.formForcing.settings = s.settings := by
  simp only [State.formForcing]; (repeat' split) <;> simp
@[simp] theorem State.formForcing_startup (s : State) : s.formForcing.startup = s.startup := by
  simp only [State.formForcing]; (repeat' split) <;> simp
@[simp] theorem State.formForcing_inputs (s : State) : s.formForcing.inputs = s.inputs := by
  simp only [State.formForcing]; (repeat' split) <;> simp
@[simp] theorem State.formForcing_air (s : State) : s.formForcing.air = s.air := by
  simp only [State.formForcing]; (repeat' split) <;> simp
@[simp] theorem State.formForcing_vent (s : State) : s.formForcing.vent = s.vent := by
  simp only [State.formForcing]; (repeat' split) <;> simp
@[simp] theorem State.formForcing_bays (s : State) : s.formForcing.bays = s.bays := by
  simp only [State.formForcing]; (repeat' split) <;> simp
@[simp] theorem State.formForcing_peers (s : State) : s.formForcing.peers = s.peers := by
  simp only [State.formForcing]; (repeat' split) <;> simp
@[simp] theorem State.formForcing_guide (s : State) : s.formForcing.guide = s.guide := by
  simp only [State.formForcing]; (repeat' split) <;> simp
@[simp] theorem State.formForcing_bus (s : State) : s.formForcing.bus = s.bus := by
  simp only [State.formForcing]; (repeat' split) <;> simp
@[simp] theorem State.formForcing_counters (s : State) : s.formForcing.counters = s.counters := by
  simp only [State.formForcing]; (repeat' split) <;> simp
@[simp] theorem State.formForcing_pending (s : State) : s.formForcing.pending = s.pending := by
  simp only [State.formForcing]; (repeat' split) <;> simp

/-- All that `formForcing` can change: `light`. -/
theorem State.formForcing_only (s : State) :
    s.formForcing = s.setLight s.formForcing.light :=
  State.ext_fields (by simp) (by simp) (by simp) (by simp) (by simp) (by simp) (by simp) (by simp) (by simp) (by simp) (by simp) (by simp) (by simp)

@[simp] theorem State.setRepeat_station (s : State) (n : Nat) (t : Timer) : (s.setRepeat n t).station = s.station := by
  simp only [State.setRepeat]; (repeat' split) <;> simp
@[simp] theorem State.setRepeat_settings (s : State) (n : Nat) (t : Timer) : (s.setRepeat n t).settings = s.settings := by
  simp only [State.setRepeat]; (repeat' split) <;> simp
@[simp] theorem State.setRepeat_startup (s : State) (n : Nat) (t : Timer) : (s.setRepeat n t).startup = s.startup := by
  simp only [State.setRepeat]; (repeat' split) <;> simp
@[simp] theorem State.setRepeat_inputs (s : State) (n : Nat) (t : Timer) : (s.setRepeat n t).inputs = s.inputs := by
  simp only [State.setRepeat]; (repeat' split) <;> simp
@[simp] theorem State.setRepeat_air (s : State) (n : Nat) (t : Timer) : (s.setRepeat n t).air = s.air := by
  simp only [State.setRepeat]; (repeat' split) <;> simp
@[simp] theorem State.setRepeat_vent (s : State) (n : Nat) (t : Timer) : (s.setRepeat n t).vent = s.vent := by
  simp only [State.setRepeat]; (repeat' split) <;> simp
@[simp] theorem State.setRepeat_bays (s : State) (n : Nat) (t : Timer) : (s.setRepeat n t).bays = s.bays := by
  simp only [State.setRepeat]; (repeat' split) <;> simp
@[simp] theorem State.setRepeat_peers (s : State) (n : Nat) (t : Timer) : (s.setRepeat n t).peers = s.peers := by
  simp only [State.setRepeat]; (repeat' split) <;> simp
@[simp] theorem State.setRepeat_guide (s : State) (n : Nat) (t : Timer) : (s.setRepeat n t).guide = s.guide := by
  simp only [State.setRepeat]; (repeat' split) <;> simp
@[simp] theorem State.setRepeat_bus (s : State) (n : Nat) (t : Timer) : (s.setRepeat n t).bus = s.bus := by
  simp only [State.setRepeat]; (repeat' split) <;> simp
@[simp] theorem State.setRepeat_counters (s : State) (n : Nat) (t : Timer) : (s.setRepeat n t).counters = s.counters := by
  simp only [State.setRepeat]; (repeat' split) <;> simp
@[simp] theorem State.setRepeat_pending (s : State) (n : Nat) (t : Timer) : (s.setRepeat n t).pending = s.pending := by
  simp only [State.setRepeat]; (repeat' split) <;> simp

/-- All that `setRepeat` can change: `light`. -/
theorem State.setRepeat_only (s : State) (n : Nat) (t : Timer) :
    s.setRepeat n t = s.setLight (s.setRepeat n t).light :=
  State.ext_fields (by simp) (by simp) (by simp) (by simp) (by simp) (by simp) (by simp) (by simp) (by simp) (by simp) (by simp) (by simp) (by simp)

/-! ### Sending -/

@[simp] theorem State.beginAttempt_station (s : State) (cls : TxClass) (kind destination : Byte) (payload : List Byte) : (s.beginAttempt cls kind destination payload).station = s.station := by
  simp [State.beginAttempt]
@[simp] theorem State.beginAttempt_settings (s : State) (cls : TxClass) (kind destination : Byte) (payload : List Byte) : (s.beginAttempt cls kind destination payload).settings = s.settings := by
  simp [State.beginAttempt]
@[simp] theorem State.beginAttempt_startup (s : State) (cls : TxClass) (kind destination : Byte) (payload : List Byte) : (s.beginAttempt cls kind destination payload).startup = s.startup := by
  simp [State.beginAttempt]
@[simp] theorem State.beginAttempt_inputs (s : State) (cls : TxClass) (kind destination : Byte) (payload : List Byte) : (s.beginAttempt cls kind destination payload).inputs = s.inputs := by
  simp [State.beginAttempt]
@[simp] theorem State.beginAttempt_air (s : State) (cls : TxClass) (kind destination : Byte) (payload : List Byte) : (s.beginAttempt cls kind destination payload).air = s.air := by
  simp [State.beginAttempt]
@[simp] theorem State.beginAttempt_vent (s : State) (cls : TxClass) (kind destination : Byte) (payload : List Byte) : (s.beginAttempt cls kind destination payload).vent = s.vent := by
  simp [State.beginAttempt]
@[simp] theorem State.beginAttempt_bays (s : State) (cls : TxClass) (kind destination : Byte) (payload : List Byte) : (s.beginAttempt cls kind destination payload).bays = s.bays := by
  simp [State.beginAttempt]
@[simp] theorem State.beginAttempt_peers (s : State) (cls : TxClass) (kind destination : Byte) (payload : List Byte) : (s.beginAttempt cls kind destination payload).peers = s.peers := by
  simp [State.beginAttempt]
@[simp] theorem State.beginAttempt_guide (s : State) (cls : TxClass) (kind destination : Byte) (payload : List Byte) : (s.beginAttempt cls kind destination payload).guide = s.guide := by
  simp [State.beginAttempt]
@[simp] theorem State.beginAttempt_light (s : State) (cls : TxClass) (kind destination : Byte) (payload : List Byte) : (s.beginAttempt cls kind destination payload).light = s.light := by
  simp [State.beginAttempt]
@[simp] theorem State.beginAttempt_counters (s : State) (cls : TxClass) (kind destination : Byte) (payload : List Byte) : (s.beginAttempt cls kind destination payload).counters = s.counters := by
  simp [State.beginAttempt]
@[simp] theorem State.beginAttempt_pending (s : State) (cls : TxClass) (kind destination : Byte) (payload : List Byte) : (s.beginAttempt cls kind destination payload).pending = s.pending := by
  simp [State.beginAttempt]

/-- All that `beginAttempt` can change: `bus`. -/
theorem State.beginAttempt_only (s : State) (cls : TxClass) (kind destination : Byte) (payload : List Byte) :
    s.beginAttempt cls kind destination payload = s.setBus (s.beginAttempt cls kind destination payload).bus :=
  State.ext_fields (by simp) (by simp) (by simp) (by simp) (by simp) (by simp) (by simp) (by simp) (by simp) (by simp) (by simp) (by simp) (by simp)

@[simp] theorem State.beginAlert_station (s : State) : s.beginAlert.station = s.station := by
  simp [State.beginAlert]
@[simp] theorem State.beginAlert_settings (s : State) : s.beginAlert.settings = s.settings := by
  simp [State.beginAlert]
@[simp] theorem State.beginAlert_startup (s : State) : s.beginAlert.startup = s.startup := by
  simp [State.beginAlert]
@[simp] theorem State.beginAlert_inputs (s : State) : s.beginAlert.inputs = s.inputs := by
  simp [State.beginAlert]
@[simp] theorem State.beginAlert_air (s : State) : s.beginAlert.air = s.air := by
  simp [State.beginAlert]
@[simp] theorem State.beginAlert_vent (s : State) : s.beginAlert.vent = s.vent := by
  simp [State.beginAlert]
@[simp] theorem State.beginAlert_bays (s : State) : s.beginAlert.bays = s.bays := by
  simp [State.beginAlert]
@[simp] theorem State.beginAlert_peers (s : State) : s.beginAlert.peers = s.peers := by
  simp [State.beginAlert]
@[simp] theorem State.beginAlert_guide (s : State) : s.beginAlert.guide = s.guide := by
  simp [State.beginAlert]
@[simp] theorem State.beginAlert_light (s : State) : s.beginAlert.light = s.light := by
  simp [State.beginAlert]
@[simp] theorem State.beginAlert_counters (s : State) : s.beginAlert.counters = s.counters := by
  simp [State.beginAlert]
@[simp] theorem State.beginAlert_pending (s : State) : s.beginAlert.pending = s.pending := by
  simp [State.beginAlert]

/-- All that `beginAlert` can change: `bus`. -/
theorem State.beginAlert_only (s : State) :
    s.beginAlert = s.setBus s.beginAlert.bus :=
  State.ext_fields (by simp) (by simp) (by simp) (by simp) (by simp) (by simp) (by simp) (by simp) (by simp) (by simp) (by simp) (by simp) (by simp)

@[simp] theorem State.enterGap_station (s : State) : s.enterGap.station = s.station := by
  simp only [State.enterGap]; (repeat' split) <;> simp
@[simp] theorem State.enterGap_settings (s : State) : s.enterGap.settings = s.settings := by
  simp only [State.enterGap]; (repeat' split) <;> simp
@[simp] theorem State.enterGap_startup (s : State) : s.enterGap.startup = s.startup := by
  simp only [State.enterGap]; (repeat' split) <;> simp
@[simp] theorem State.enterGap_inputs (s : State) : s.enterGap.inputs = s.inputs := by
  simp only [State.enterGap]; (repeat' split) <;> simp
@[simp] theorem State.enterGap_air (s : State) : s.enterGap.air = s.air := by
  simp only [State.enterGap]; (repeat' split) <;> simp
@[simp] theorem State.enterGap_vent (s : State) : s.enterGap.vent = s.vent := by
  simp only [State.enterGap]; (repeat' split) <;> simp
@[simp] theorem State.enterGap_bays (s : State) : s.enterGap.bays = s.bays := by
  simp only [State.enterGap]; (repeat' split) <;> simp
@[simp] theorem State.enterGap_peers (s : State) : s.enterGap.peers = s.peers := by
  simp only [State.enterGap]; (repeat' split) <;> simp
@[simp] theorem State.enterGap_guide (s : State) : s.enterGap.guide = s.guide := by
  simp only [State.enterGap]; (repeat' split) <;> simp
@[simp] theorem State.enterGap_light (s : State) : s.enterGap.light = s.light := by
  simp only [State.enterGap]; (repeat' split) <;> simp
@[simp] theorem State.enterGap_counters (s : State) : s.enterGap.counters = s.counters := by
  simp only [State.enterGap]; (repeat' split) <;> simp
@[simp] theorem State.enterGap_pending (s : State) : s.enterGap.pending = s.pending := by
  simp only [State.enterGap]; (repeat' split) <;> simp

/-- All that `enterGap` can change: `bus`. -/
theorem State.enterGap_only (s : State) :
    s.enterGap = s.setBus s.enterGap.bus :=
  State.ext_fields (by simp) (by simp) (by simp) (by simp) (by simp) (by simp) (by simp) (by simp) (by simp) (by simp) (by simp) (by simp) (by simp)

@[simp] theorem State.frameJoined_station (s : State) : s.frameJoined.station = s.station := by
  simp only [State.frameJoined]; (repeat' split) <;> simp
@[simp] theorem State.frameJoined_settings (s : State) : s.frameJoined.settings = s.settings := by
  simp only [State.frameJoined]; (repeat' split) <;> simp
@[simp] theorem State.frameJoined_startup (s : State) : s.frameJoined.startup = s.startup := by
  simp only [State.frameJoined]; (repeat' split) <;> simp
@[simp] theorem State.frameJoined_inputs (s : State) : s.frameJoined.inputs = s.inputs := by
  simp only [State.frameJoined]; (repeat' split) <;> simp
@[simp] theorem State.frameJoined_air (s : State) : s.frameJoined.air = s.air := by
  simp only [State.frameJoined]; (repeat' split) <;> simp
@[simp] theorem State.frameJoined_vent (s : State) : s.frameJoined.vent = s.vent := by
  simp only [State.frameJoined]; (repeat' split) <;> simp
@[simp] theorem State.frameJoined_bays (s : State) : s.frameJoined.bays = s.bays := by
  simp only [State.frameJoined]; (repeat' split) <;> simp
@[simp] theorem State.frameJoined_peers (s : State) : s.frameJoined.peers = s.peers := by
  simp only [State.frameJoined]; (repeat' split) <;> simp
@[simp] theorem State.frameJoined_guide (s : State) : s.frameJoined.guide = s.guide := by
  simp only [State.frameJoined]; (repeat' split) <;> simp
@[simp] theorem State.frameJoined_light (s : State) : s.frameJoined.light = s.light := by
  simp only [State.frameJoined]; (repeat' split) <;> simp
@[simp] theorem State.frameJoined_counters (s : State) : s.frameJoined.counters = s.counters := by
  simp only [State.frameJoined]; (repeat' split) <;> simp
@[simp] theorem State.frameJoined_pending (s : State) : s.frameJoined.pending = s.pending := by
  simp only [State.frameJoined]; (repeat' split) <;> simp

/-- All that `frameJoined` can change: `bus`. -/
theorem State.frameJoined_only (s : State) :
    s.frameJoined = s.setBus s.frameJoined.bus :=
  State.ext_fields (by simp) (by simp) (by simp) (by simp) (by simp) (by simp) (by simp) (by simp) (by simp) (by simp) (by simp) (by simp) (by simp)

@[simp] theorem State.join_station (s : State) (cls : TxClass) (content : FrameContent) : (s.join cls content).station = s.station := by
  simp [State.join]
@[simp] theorem State.join_settings (s : State) (cls : TxClass) (content : FrameContent) : (s.join cls content).settings = s.settings := by
  simp [State.join]
@[simp] theorem State.join_startup (s : State) (cls : TxClass) (content : FrameContent) : (s.join cls content).startup = s.startup := by
  simp [State.join]
@[simp] theorem State.join_inputs (s : State) (cls : TxClass) (content : FrameContent) : (s.join cls content).inputs = s.inputs := by
  simp [State.join]
@[simp] theorem State.join_air (s : State) (cls : TxClass) (content : FrameContent) : (s.join cls content).air = s.air := by
  simp [State.join]
@[simp] theorem State.join_vent (s : State) (cls : TxClass) (content : FrameContent) : (s.join cls content).vent = s.vent := by
  simp [State.join]
@[simp] theorem State.join_bays (s : State) (cls : TxClass) (content : FrameContent) : (s.join cls content).bays = s.bays := by
  simp [State.join]
@[simp] theorem State.join_peers (s : State) (cls : TxClass) (content : FrameContent) : (s.join cls content).peers = s.peers := by
  simp [State.join]
@[simp] theorem State.join_guide (s : State) (cls : TxClass) (content : FrameContent) : (s.join cls content).guide = s.guide := by
  simp [State.join]
@[simp] theorem State.join_light (s : State) (cls : TxClass) (content : FrameContent) : (s.join cls content).light = s.light := by
  simp [State.join]
@[simp] theorem State.join_counters (s : State) (cls : TxClass) (content : FrameContent) : (s.join cls content).counters = s.counters := by
  simp [State.join]
@[simp] theorem State.join_pending (s : State) (cls : TxClass) (content : FrameContent) : (s.join cls content).pending = s.pending := by
  simp [State.join]

/-- All that `join` can change: `bus`. -/
theorem State.join_only (s : State) (cls : TxClass) (content : FrameContent) :
    s.join cls content = s.setBus (s.join cls content).bus :=
  State.ext_fields (by simp) (by simp) (by simp) (by simp) (by simp) (by simp) (by simp) (by simp) (by simp) (by simp) (by simp) (by simp) (by simp)

@[simp] theorem State.queueAlert_station (s : State) : s.queueAlert.station = s.station := by
  simp only [State.queueAlert]; (repeat' split) <;> simp
@[simp] theorem State.queueAlert_settings (s : State) : s.queueAlert.settings = s.settings := by
  simp only [State.queueAlert]; (repeat' split) <;> simp
@[simp] theorem State.queueAlert_startup (s : State) : s.queueAlert.startup = s.startup := by
  simp only [State.queueAlert]; (repeat' split) <;> simp
@[simp] theorem State.queueAlert_inputs (s : State) : s.queueAlert.inputs = s.inputs := by
  simp only [State.queueAlert]; (repeat' split) <;> simp
@[simp] theorem State.queueAlert_air (s : State) : s.queueAlert.air = s.air := by
  simp only [State.queueAlert]; (repeat' split) <;> simp
@[simp] theorem State.queueAlert_vent (s : State) : s.queueAlert.vent = s.vent := by
  simp only [State.queueAlert]; (repeat' split) <;> simp
@[simp] theorem State.queueAlert_bays (s : State) : s.queueAlert.bays = s.bays := by
  simp only [State.queueAlert]; (repeat' split) <;> simp
@[simp] theorem State.queueAlert_peers (s : State) : s.queueAlert.peers = s.peers := by
  simp only [State.queueAlert]; (repeat' split) <;> simp
@[simp] theorem State.queueAlert_guide (s : State) : s.queueAlert.guide = s.guide := by
  simp only [State.queueAlert]; (repeat' split) <;> simp
@[simp] theorem State.queueAlert_light (s : State) : s.queueAlert.light = s.light := by
  simp only [State.queueAlert]; (repeat' split) <;> simp
@[simp] theorem State.queueAlert_counters (s : State) : s.queueAlert.counters = s.counters := by
  simp only [State.queueAlert]; (repeat' split) <;> simp
@[simp] theorem State.queueAlert_pending (s : State) : s.queueAlert.pending = s.pending := by
  simp only [State.queueAlert]; (repeat' split) <;> simp

/-- All that `queueAlert` can change: `bus`. -/
theorem State.queueAlert_only (s : State) :
    s.queueAlert = s.setBus s.queueAlert.bus :=
  State.ext_fields (by simp) (by simp) (by simp) (by simp) (by simp) (by simp) (by simp) (by simp) (by simp) (by simp) (by simp) (by simp) (by simp)

@[simp] theorem State.queueStatus_station (s : State) : s.queueStatus.station = s.station := by
  simp only [State.queueStatus]; (repeat' split) <;> simp
@[simp] theorem State.queueStatus_settings (s : State) : s.queueStatus.settings = s.settings := by
  simp only [State.queueStatus]; (repeat' split) <;> simp
@[simp] theorem State.queueStatus_startup (s : State) : s.queueStatus.startup = s.startup := by
  simp only [State.queueStatus]; (repeat' split) <;> simp
@[simp] theorem State.queueStatus_inputs (s : State) : s.queueStatus.inputs = s.inputs := by
  simp only [State.queueStatus]; (repeat' split) <;> simp
@[simp] theorem State.queueStatus_air (s : State) : s.queueStatus.air = s.air := by
  simp only [State.queueStatus]; (repeat' split) <;> simp
@[simp] theorem State.queueStatus_vent (s : State) : s.queueStatus.vent = s.vent := by
  simp only [State.queueStatus]; (repeat' split) <;> simp
@[simp] theorem State.queueStatus_bays (s : State) : s.queueStatus.bays = s.bays := by
  simp only [State.queueStatus]; (repeat' split) <;> simp
@[simp] theorem State.queueStatus_peers (s : State) : s.queueStatus.peers = s.peers := by
  simp only [State.queueStatus]; (repeat' split) <;> simp
@[simp] theorem State.queueStatus_guide (s : State) : s.queueStatus.guide = s.guide := by
  simp only [State.queueStatus]; (repeat' split) <;> simp
@[simp] theorem State.queueStatus_light (s : State) : s.queueStatus.light = s.light := by
  simp only [State.queueStatus]; (repeat' split) <;> simp
@[simp] theorem State.queueStatus_counters (s : State) : s.queueStatus.counters = s.counters := by
  simp only [State.queueStatus]; (repeat' split) <;> simp
@[simp] theorem State.queueStatus_pending (s : State) : s.queueStatus.pending = s.pending := by
  simp only [State.queueStatus]; (repeat' split) <;> simp

/-- All that `queueStatus` can change: `bus`. -/
theorem State.queueStatus_only (s : State) :
    s.queueStatus = s.setBus s.queueStatus.bus :=
  State.ext_fields (by simp) (by simp) (by simp) (by simp) (by simp) (by simp) (by simp) (by simp) (by simp) (by simp) (by simp) (by simp) (by simp)

@[simp] theorem State.tellSignificant_station (s : State) : s.tellSignificant.station = s.station := by
  simp only [State.tellSignificant]; (repeat' split) <;> simp
@[simp] theorem State.tellSignificant_settings (s : State) : s.tellSignificant.settings = s.settings := by
  simp only [State.tellSignificant]; (repeat' split) <;> simp
@[simp] theorem State.tellSignificant_startup (s : State) : s.tellSignificant.startup = s.startup := by
  simp only [State.tellSignificant]; (repeat' split) <;> simp
@[simp] theorem State.tellSignificant_inputs (s : State) : s.tellSignificant.inputs = s.inputs := by
  simp only [State.tellSignificant]; (repeat' split) <;> simp
@[simp] theorem State.tellSignificant_air (s : State) : s.tellSignificant.air = s.air := by
  simp only [State.tellSignificant]; (repeat' split) <;> simp
@[simp] theorem State.tellSignificant_vent (s : State) : s.tellSignificant.vent = s.vent := by
  simp only [State.tellSignificant]; (repeat' split) <;> simp
@[simp] theorem State.tellSignificant_bays (s : State) : s.tellSignificant.bays = s.bays := by
  simp only [State.tellSignificant]; (repeat' split) <;> simp
@[simp] theorem State.tellSignificant_peers (s : State) : s.tellSignificant.peers = s.peers := by
  simp only [State.tellSignificant]; (repeat' split) <;> simp
@[simp] theorem State.tellSignificant_guide (s : State) : s.tellSignificant.guide = s.guide := by
  simp only [State.tellSignificant]; (repeat' split) <;> simp
@[simp] theorem State.tellSignificant_light (s : State) : s.tellSignificant.light = s.light := by
  simp only [State.tellSignificant]; (repeat' split) <;> simp
@[simp] theorem State.tellSignificant_counters (s : State) : s.tellSignificant.counters = s.counters := by
  simp only [State.tellSignificant]; (repeat' split) <;> simp
@[simp] theorem State.tellSignificant_pending (s : State) : s.tellSignificant.pending = s.pending := by
  simp only [State.tellSignificant]; (repeat' split) <;> simp

/-- All that `tellSignificant` can change: `bus`. -/
theorem State.tellSignificant_only (s : State) :
    s.tellSignificant = s.setBus s.tellSignificant.bus :=
  State.ext_fields (by simp) (by simp) (by simp) (by simp) (by simp) (by simp) (by simp) (by simp) (by simp) (by simp) (by simp) (by simp) (by simp)

@[simp] theorem State.queuePassage_station (s : State) (named : Nat) : (s.queuePassage named).station = s.station := by
  simp only [State.queuePassage]; (repeat' split) <;> simp
@[simp] theorem State.queuePassage_settings (s : State) (named : Nat) : (s.queuePassage named).settings = s.settings := by
  simp only [State.queuePassage]; (repeat' split) <;> simp
@[simp] theorem State.queuePassage_startup (s : State) (named : Nat) : (s.queuePassage named).startup = s.startup := by
  simp only [State.queuePassage]; (repeat' split) <;> simp
@[simp] theorem State.queuePassage_inputs (s : State) (named : Nat) : (s.queuePassage named).inputs = s.inputs := by
  simp only [State.queuePassage]; (repeat' split) <;> simp
@[simp] theorem State.queuePassage_air (s : State) (named : Nat) : (s.queuePassage named).air = s.air := by
  simp only [State.queuePassage]; (repeat' split) <;> simp
@[simp] theorem State.queuePassage_vent (s : State) (named : Nat) : (s.queuePassage named).vent = s.vent := by
  simp only [State.queuePassage]; (repeat' split) <;> simp
@[simp] theorem State.queuePassage_bays (s : State) (named : Nat) : (s.queuePassage named).bays = s.bays := by
  simp only [State.queuePassage]; (repeat' split) <;> simp
@[simp] theorem State.queuePassage_peers (s : State) (named : Nat) : (s.queuePassage named).peers = s.peers := by
  simp only [State.queuePassage]; (repeat' split) <;> simp
@[simp] theorem State.queuePassage_guide (s : State) (named : Nat) : (s.queuePassage named).guide = s.guide := by
  simp only [State.queuePassage]; (repeat' split) <;> simp
@[simp] theorem State.queuePassage_light (s : State) (named : Nat) : (s.queuePassage named).light = s.light := by
  simp only [State.queuePassage]; (repeat' split) <;> simp
@[simp] theorem State.queuePassage_pending (s : State) (named : Nat) : (s.queuePassage named).pending = s.pending := by
  simp only [State.queuePassage]; (repeat' split) <;> simp

/-- All that `queuePassage` can change: `bus`, `counters`. -/
theorem State.queuePassage_only (s : State) (named : Nat) :
    s.queuePassage named = (s.setBus (s.queuePassage named).bus).setCounters (s.queuePassage named).counters :=
  State.ext_fields (by simp) (by simp) (by simp) (by simp) (by simp) (by simp) (by simp) (by simp) (by simp) (by simp) (by simp) (by simp) (by simp)

@[simp] theorem State.lineBusy_station (s : State) : s.lineBusy.station = s.station := by
  simp [State.lineBusy]
@[simp] theorem State.lineBusy_settings (s : State) : s.lineBusy.settings = s.settings := by
  simp [State.lineBusy]
@[simp] theorem State.lineBusy_startup (s : State) : s.lineBusy.startup = s.startup := by
  simp [State.lineBusy]
@[simp] theorem State.lineBusy_inputs (s : State) : s.lineBusy.inputs = s.inputs := by
  simp [State.lineBusy]
@[simp] theorem State.lineBusy_air (s : State) : s.lineBusy.air = s.air := by
  simp [State.lineBusy]
@[simp] theorem State.lineBusy_vent (s : State) : s.lineBusy.vent = s.vent := by
  simp [State.lineBusy]
@[simp] theorem State.lineBusy_bays (s : State) : s.lineBusy.bays = s.bays := by
  simp [State.lineBusy]
@[simp] theorem State.lineBusy_peers (s : State) : s.lineBusy.peers = s.peers := by
  simp [State.lineBusy]
@[simp] theorem State.lineBusy_guide (s : State) : s.lineBusy.guide = s.guide := by
  simp [State.lineBusy]
@[simp] theorem State.lineBusy_light (s : State) : s.lineBusy.light = s.light := by
  simp [State.lineBusy]
@[simp] theorem State.lineBusy_counters (s : State) : s.lineBusy.counters = s.counters := by
  simp [State.lineBusy]
@[simp] theorem State.lineBusy_pending (s : State) : s.lineBusy.pending = s.pending := by
  simp [State.lineBusy]

/-- All that `lineBusy` can change: `bus`. -/
theorem State.lineBusy_only (s : State) :
    s.lineBusy = s.setBus s.lineBusy.bus :=
  State.ext_fields (by simp) (by simp) (by simp) (by simp) (by simp) (by simp) (by simp) (by simp) (by simp) (by simp) (by simp) (by simp) (by simp)

/-! ### Guidance -/

@[simp] theorem State.formImages_station (s : State) : s.formImages.station = s.station := by
  simp [State.formImages]
@[simp] theorem State.formImages_settings (s : State) : s.formImages.settings = s.settings := by
  simp [State.formImages]
@[simp] theorem State.formImages_startup (s : State) : s.formImages.startup = s.startup := by
  simp [State.formImages]
@[simp] theorem State.formImages_inputs (s : State) : s.formImages.inputs = s.inputs := by
  simp [State.formImages]
@[simp] theorem State.formImages_air (s : State) : s.formImages.air = s.air := by
  simp [State.formImages]
@[simp] theorem State.formImages_vent (s : State) : s.formImages.vent = s.vent := by
  simp [State.formImages]
@[simp] theorem State.formImages_bays (s : State) : s.formImages.bays = s.bays := by
  simp [State.formImages]
@[simp] theorem State.formImages_peers (s : State) : s.formImages.peers = s.peers := by
  simp [State.formImages]
@[simp] theorem State.formImages_light (s : State) : s.formImages.light = s.light := by
  simp [State.formImages]
@[simp] theorem State.formImages_bus (s : State) : s.formImages.bus = s.bus := by
  simp [State.formImages]
@[simp] theorem State.formImages_counters (s : State) : s.formImages.counters = s.counters := by
  simp [State.formImages]
@[simp] theorem State.formImages_pending (s : State) : s.formImages.pending = s.pending := by
  simp [State.formImages]

/-- All that `formImages` can change: `guide`. -/
theorem State.formImages_only (s : State) :
    s.formImages = s.setGuide s.formImages.guide :=
  State.ext_fields (by simp) (by simp) (by simp) (by simp) (by simp) (by simp) (by simp) (by simp) (by simp) (by simp) (by simp) (by simp) (by simp)

@[simp] theorem State.rowsEvaluated_station (s : State) : s.rowsEvaluated.station = s.station := by
  simp only [State.rowsEvaluated]; (repeat' split) <;> simp
@[simp] theorem State.rowsEvaluated_settings (s : State) : s.rowsEvaluated.settings = s.settings := by
  simp only [State.rowsEvaluated]; (repeat' split) <;> simp
@[simp] theorem State.rowsEvaluated_startup (s : State) : s.rowsEvaluated.startup = s.startup := by
  simp only [State.rowsEvaluated]; (repeat' split) <;> simp
@[simp] theorem State.rowsEvaluated_inputs (s : State) : s.rowsEvaluated.inputs = s.inputs := by
  simp only [State.rowsEvaluated]; (repeat' split) <;> simp
@[simp] theorem State.rowsEvaluated_air (s : State) : s.rowsEvaluated.air = s.air := by
  simp only [State.rowsEvaluated]; (repeat' split) <;> simp
@[simp] theorem State.rowsEvaluated_vent (s : State) : s.rowsEvaluated.vent = s.vent := by
  simp only [State.rowsEvaluated]; (repeat' split) <;> simp
@[simp] theorem State.rowsEvaluated_bays (s : State) : s.rowsEvaluated.bays = s.bays := by
  simp only [State.rowsEvaluated]; (repeat' split) <;> simp
@[simp] theorem State.rowsEvaluated_peers (s : State) : s.rowsEvaluated.peers = s.peers := by
  simp only [State.rowsEvaluated]; (repeat' split) <;> simp
@[simp] theorem State.rowsEvaluated_light (s : State) : s.rowsEvaluated.light = s.light := by
  simp only [State.rowsEvaluated]; (repeat' split) <;> simp
@[simp] theorem State.rowsEvaluated_bus (s : State) : s.rowsEvaluated.bus = s.bus := by
  simp only [State.rowsEvaluated]; (repeat' split) <;> simp
@[simp] theorem State.rowsEvaluated_counters (s : State) : s.rowsEvaluated.counters = s.counters := by
  simp only [State.rowsEvaluated]; (repeat' split) <;> simp
@[simp] theorem State.rowsEvaluated_pending (s : State) : s.rowsEvaluated.pending = s.pending := by
  simp only [State.rowsEvaluated]; (repeat' split) <;> simp

/-- All that `rowsEvaluated` can change: `guide`. -/
theorem State.rowsEvaluated_only (s : State) :
    s.rowsEvaluated = s.setGuide s.rowsEvaluated.guide :=
  State.ext_fields (by simp) (by simp) (by simp) (by simp) (by simp) (by simp) (by simp) (by simp) (by simp) (by simp) (by simp) (by simp) (by simp)

@[simp] theorem State.guidanceTold_station (s : State) (cause atCapture : Bool) : (s.guidanceTold cause atCapture).station = s.station := by
  simp only [State.guidanceTold]; (repeat' split) <;> simp
@[simp] theorem State.guidanceTold_settings (s : State) (cause atCapture : Bool) : (s.guidanceTold cause atCapture).settings = s.settings := by
  simp only [State.guidanceTold]; (repeat' split) <;> simp
@[simp] theorem State.guidanceTold_startup (s : State) (cause atCapture : Bool) : (s.guidanceTold cause atCapture).startup = s.startup := by
  simp only [State.guidanceTold]; (repeat' split) <;> simp
@[simp] theorem State.guidanceTold_inputs (s : State) (cause atCapture : Bool) : (s.guidanceTold cause atCapture).inputs = s.inputs := by
  simp only [State.guidanceTold]; (repeat' split) <;> simp
@[simp] theorem State.guidanceTold_air (s : State) (cause atCapture : Bool) : (s.guidanceTold cause atCapture).air = s.air := by
  simp only [State.guidanceTold]; (repeat' split) <;> simp
@[simp] theorem State.guidanceTold_vent (s : State) (cause atCapture : Bool) : (s.guidanceTold cause atCapture).vent = s.vent := by
  simp only [State.guidanceTold]; (repeat' split) <;> simp
@[simp] theorem State.guidanceTold_bays (s : State) (cause atCapture : Bool) : (s.guidanceTold cause atCapture).bays = s.bays := by
  simp only [State.guidanceTold]; (repeat' split) <;> simp
@[simp] theorem State.guidanceTold_peers (s : State) (cause atCapture : Bool) : (s.guidanceTold cause atCapture).peers = s.peers := by
  simp only [State.guidanceTold]; (repeat' split) <;> simp
@[simp] theorem State.guidanceTold_light (s : State) (cause atCapture : Bool) : (s.guidanceTold cause atCapture).light = s.light := by
  simp only [State.guidanceTold]; (repeat' split) <;> simp
@[simp] theorem State.guidanceTold_counters (s : State) (cause atCapture : Bool) : (s.guidanceTold cause atCapture).counters = s.counters := by
  simp only [State.guidanceTold]; (repeat' split) <;> simp
@[simp] theorem State.guidanceTold_pending (s : State) (cause atCapture : Bool) : (s.guidanceTold cause atCapture).pending = s.pending := by
  simp only [State.guidanceTold]; (repeat' split) <;> simp

/-- All that `guidanceTold` can change: `guide`, `bus`. -/
theorem State.guidanceTold_only (s : State) (cause atCapture : Bool) :
    s.guidanceTold cause atCapture = (s.setGuide (s.guidanceTold cause atCapture).guide).setBus (s.guidanceTold cause atCapture).bus :=
  State.ext_fields (by simp) (by simp) (by simp) (by simp) (by simp) (by simp) (by simp) (by simp) (by simp) (by simp) (by simp) (by simp) (by simp)

/-! ### Ventilation -/

@[simp] theorem State.allocate_station (s : State) : s.allocate.station = s.station := by
  simp only [State.allocate]; (repeat' split) <;> simp
@[simp] theorem State.allocate_settings (s : State) : s.allocate.settings = s.settings := by
  simp only [State.allocate]; (repeat' split) <;> simp
@[simp] theorem State.allocate_startup (s : State) : s.allocate.startup = s.startup := by
  simp only [State.allocate]; (repeat' split) <;> simp
@[simp] theorem State.allocate_inputs (s : State) : s.allocate.inputs = s.inputs := by
  simp only [State.allocate]; (repeat' split) <;> simp
@[simp] theorem State.allocate_air (s : State) : s.allocate.air = s.air := by
  simp only [State.allocate]; (repeat' split) <;> simp
@[simp] theorem State.allocate_bays (s : State) : s.allocate.bays = s.bays := by
  simp only [State.allocate]; (repeat' split) <;> simp
@[simp] theorem State.allocate_peers (s : State) : s.allocate.peers = s.peers := by
  simp only [State.allocate]; (repeat' split) <;> simp
@[simp] theorem State.allocate_light (s : State) : s.allocate.light = s.light := by
  simp only [State.allocate]; (repeat' split) <;> simp
@[simp] theorem State.allocate_counters (s : State) : s.allocate.counters = s.counters := by
  simp only [State.allocate]; (repeat' split) <;> simp
@[simp] theorem State.allocate_pending (s : State) : s.allocate.pending = s.pending := by
  simp only [State.allocate]; (repeat' split) <;> simp

/-- All that `allocate` can change: `vent`, `guide`, `bus`. -/
theorem State.allocate_only (s : State) :
    s.allocate = ((s.setVent s.allocate.vent).setGuide s.allocate.guide).setBus s.allocate.bus :=
  State.ext_fields (by simp) (by simp) (by simp) (by simp) (by simp) (by simp) (by simp) (by simp) (by simp) (by simp) (by simp) (by simp) (by simp)

@[simp] theorem State.recompute_station (s : State) (atAirSample : Bool) : (s.recompute atAirSample).station = s.station := by
  simp only [State.recompute]; (repeat' split) <;> simp
@[simp] theorem State.recompute_settings (s : State) (atAirSample : Bool) : (s.recompute atAirSample).settings = s.settings := by
  simp only [State.recompute]; (repeat' split) <;> simp
@[simp] theorem State.recompute_startup (s : State) (atAirSample : Bool) : (s.recompute atAirSample).startup = s.startup := by
  simp only [State.recompute]; (repeat' split) <;> simp
@[simp] theorem State.recompute_inputs (s : State) (atAirSample : Bool) : (s.recompute atAirSample).inputs = s.inputs := by
  simp only [State.recompute]; (repeat' split) <;> simp
@[simp] theorem State.recompute_air (s : State) (atAirSample : Bool) : (s.recompute atAirSample).air = s.air := by
  simp only [State.recompute]; (repeat' split) <;> simp
@[simp] theorem State.recompute_bays (s : State) (atAirSample : Bool) : (s.recompute atAirSample).bays = s.bays := by
  simp only [State.recompute]; (repeat' split) <;> simp
@[simp] theorem State.recompute_peers (s : State) (atAirSample : Bool) : (s.recompute atAirSample).peers = s.peers := by
  simp only [State.recompute]; (repeat' split) <;> simp
@[simp] theorem State.recompute_light (s : State) (atAirSample : Bool) : (s.recompute atAirSample).light = s.light := by
  simp only [State.recompute]; (repeat' split) <;> simp
@[simp] theorem State.recompute_counters (s : State) (atAirSample : Bool) : (s.recompute atAirSample).counters = s.counters := by
  simp only [State.recompute]; (repeat' split) <;> simp
@[simp] theorem State.recompute_pending (s : State) (atAirSample : Bool) : (s.recompute atAirSample).pending = s.pending := by
  simp only [State.recompute]; (repeat' split) <;> simp

/-- All that `recompute` can change: `vent`, `guide`, `bus`. -/
theorem State.recompute_only (s : State) (atAirSample : Bool) :
    s.recompute atAirSample = ((s.setVent (s.recompute atAirSample).vent).setGuide (s.recompute atAirSample).guide).setBus (s.recompute atAirSample).bus :=
  State.ext_fields (by simp) (by simp) (by simp) (by simp) (by simp) (by simp) (by simp) (by simp) (by simp) (by simp) (by simp) (by simp) (by simp)

@[simp] theorem State.endFanOverride_station (s : State) : s.endFanOverride.station = s.station := by
  simp [State.endFanOverride]
@[simp] theorem State.endFanOverride_settings (s : State) : s.endFanOverride.settings = s.settings := by
  simp [State.endFanOverride]
@[simp] theorem State.endFanOverride_startup (s : State) : s.endFanOverride.startup = s.startup := by
  simp [State.endFanOverride]
@[simp] theorem State.endFanOverride_inputs (s : State) : s.endFanOverride.inputs = s.inputs := by
  simp [State.endFanOverride]
@[simp] theorem State.endFanOverride_air (s : State) : s.endFanOverride.air = s.air := by
  simp [State.endFanOverride]
@[simp] theorem State.endFanOverride_bays (s : State) : s.endFanOverride.bays = s.bays := by
  simp [State.endFanOverride]
@[simp] theorem State.endFanOverride_peers (s : State) : s.endFanOverride.peers = s.peers := by
  simp [State.endFanOverride]
@[simp] theorem State.endFanOverride_light (s : State) : s.endFanOverride.light = s.light := by
  simp [State.endFanOverride]
@[simp] theorem State.endFanOverride_counters (s : State) : s.endFanOverride.counters = s.counters := by
  simp [State.endFanOverride]
@[simp] theorem State.endFanOverride_pending (s : State) : s.endFanOverride.pending = s.pending := by
  simp [State.endFanOverride]

/-- All that `endFanOverride` can change: `vent`, `guide`, `bus`. -/
theorem State.endFanOverride_only (s : State) :
    s.endFanOverride = ((s.setVent s.endFanOverride.vent).setGuide s.endFanOverride.guide).setBus s.endFanOverride.bus :=
  State.ext_fields (by simp) (by simp) (by simp) (by simp) (by simp) (by simp) (by simp) (by simp) (by simp) (by simp) (by simp) (by simp) (by simp)

@[simp] theorem State.ventilationListens_station (s : State) : s.ventilationListens.station = s.station := by
  simp [State.ventilationListens]
@[simp] theorem State.ventilationListens_settings (s : State) : s.ventilationListens.settings = s.settings := by
  simp [State.ventilationListens]
@[simp] theorem State.ventilationListens_startup (s : State) : s.ventilationListens.startup = s.startup := by
  simp [State.ventilationListens]
@[simp] theorem State.ventilationListens_inputs (s : State) : s.ventilationListens.inputs = s.inputs := by
  simp [State.ventilationListens]
@[simp] theorem State.ventilationListens_air (s : State) : s.ventilationListens.air = s.air := by
  simp [State.ventilationListens]
@[simp] theorem State.ventilationListens_bays (s : State) : s.ventilationListens.bays = s.bays := by
  simp [State.ventilationListens]
@[simp] theorem State.ventilationListens_peers (s : State) : s.ventilationListens.peers = s.peers := by
  simp [State.ventilationListens]
@[simp] theorem State.ventilationListens_light (s : State) : s.ventilationListens.light = s.light := by
  simp [State.ventilationListens]
@[simp] theorem State.ventilationListens_counters (s : State) : s.ventilationListens.counters = s.counters := by
  simp [State.ventilationListens]
@[simp] theorem State.ventilationListens_pending (s : State) : s.ventilationListens.pending = s.pending := by
  simp [State.ventilationListens]

/-- All that `ventilationListens` can change: `vent`, `guide`, `bus`. -/
theorem State.ventilationListens_only (s : State) :
    s.ventilationListens = ((s.setVent s.ventilationListens.vent).setGuide s.ventilationListens.guide).setBus s.ventilationListens.bus :=
  State.ext_fields (by simp) (by simp) (by simp) (by simp) (by simp) (by simp) (by simp) (by simp) (by simp) (by simp) (by simp) (by simp) (by simp)

@[simp] theorem State.ventilationFallsBack_station (s : State) : s.ventilationFallsBack.station = s.station := by
  simp [State.ventilationFallsBack]
@[simp] theorem State.ventilationFallsBack_settings (s : State) : s.ventilationFallsBack.settings = s.settings := by
  simp [State.ventilationFallsBack]
@[simp] theorem State.ventilationFallsBack_startup (s : State) : s.ventilationFallsBack.startup = s.startup := by
  simp [State.ventilationFallsBack]
@[simp] theorem State.ventilationFallsBack_inputs (s : State) : s.ventilationFallsBack.inputs = s.inputs := by
  simp [State.ventilationFallsBack]
@[simp] theorem State.ventilationFallsBack_air (s : State) : s.ventilationFallsBack.air = s.air := by
  simp [State.ventilationFallsBack]
@[simp] theorem State.ventilationFallsBack_bays (s : State) : s.ventilationFallsBack.bays = s.bays := by
  simp [State.ventilationFallsBack]
@[simp] theorem State.ventilationFallsBack_peers (s : State) : s.ventilationFallsBack.peers = s.peers := by
  simp [State.ventilationFallsBack]
@[simp] theorem State.ventilationFallsBack_light (s : State) : s.ventilationFallsBack.light = s.light := by
  simp [State.ventilationFallsBack]
@[simp] theorem State.ventilationFallsBack_counters (s : State) : s.ventilationFallsBack.counters = s.counters := by
  simp [State.ventilationFallsBack]
@[simp] theorem State.ventilationFallsBack_pending (s : State) : s.ventilationFallsBack.pending = s.pending := by
  simp [State.ventilationFallsBack]

/-- All that `ventilationFallsBack` can change: `vent`, `guide`, `bus`. -/
theorem State.ventilationFallsBack_only (s : State) :
    s.ventilationFallsBack = ((s.setVent s.ventilationFallsBack.vent).setGuide s.ventilationFallsBack.guide).setBus s.ventilationFallsBack.bus :=
  State.ext_fields (by simp) (by simp) (by simp) (by simp) (by simp) (by simp) (by simp) (by simp) (by simp) (by simp) (by simp) (by simp) (by simp)

/-! ### Air -/

@[simp] theorem State.airSettled_station (s : State) (a : AirMonitor) : (s.airSettled a).station = s.station := by
  simp only [State.airSettled]; (repeat' split) <;> simp
@[simp] theorem State.airSettled_settings (s : State) (a : AirMonitor) : (s.airSettled a).settings = s.settings := by
  simp only [State.airSettled]; (repeat' split) <;> simp
@[simp] theorem State.airSettled_startup (s : State) (a : AirMonitor) : (s.airSettled a).startup = s.startup := by
  simp only [State.airSettled]; (repeat' split) <;> simp
@[simp] theorem State.airSettled_inputs (s : State) (a : AirMonitor) : (s.airSettled a).inputs = s.inputs := by
  simp only [State.airSettled]; (repeat' split) <;> simp
@[simp] theorem State.airSettled_bays (s : State) (a : AirMonitor) : (s.airSettled a).bays = s.bays := by
  simp only [State.airSettled]; (repeat' split) <;> simp
@[simp] theorem State.airSettled_peers (s : State) (a : AirMonitor) : (s.airSettled a).peers = s.peers := by
  simp only [State.airSettled]; (repeat' split) <;> simp
@[simp] theorem State.airSettled_counters (s : State) (a : AirMonitor) : (s.airSettled a).counters = s.counters := by
  simp only [State.airSettled]; (repeat' split) <;> simp
@[simp] theorem State.airSettled_pending (s : State) (a : AirMonitor) : (s.airSettled a).pending = s.pending := by
  simp only [State.airSettled]; (repeat' split) <;> simp

/-- All that `airSettled` can change: `air`, `vent`, `guide`, `light`, `bus`. -/
theorem State.airSettled_only (s : State) (a : AirMonitor) :
    s.airSettled a = ((((s.setAir (s.airSettled a).air).setVent (s.airSettled a).vent).setGuide (s.airSettled a).guide).setLight (s.airSettled a).light).setBus (s.airSettled a).bus :=
  State.ext_fields (by simp) (by simp) (by simp) (by simp) (by simp) (by simp) (by simp) (by simp) (by simp) (by simp) (by simp) (by simp) (by simp)

@[simp] theorem State.airSample_station (s : State) : s.airSample.station = s.station := by
  simp [State.airSample]
@[simp] theorem State.airSample_settings (s : State) : s.airSample.settings = s.settings := by
  simp [State.airSample]
@[simp] theorem State.airSample_startup (s : State) : s.airSample.startup = s.startup := by
  simp [State.airSample]
@[simp] theorem State.airSample_inputs (s : State) : s.airSample.inputs = s.inputs := by
  simp [State.airSample]
@[simp] theorem State.airSample_bays (s : State) : s.airSample.bays = s.bays := by
  simp [State.airSample]
@[simp] theorem State.airSample_peers (s : State) : s.airSample.peers = s.peers := by
  simp [State.airSample]
@[simp] theorem State.airSample_counters (s : State) : s.airSample.counters = s.counters := by
  simp [State.airSample]
@[simp] theorem State.airSample_pending (s : State) : s.airSample.pending = s.pending := by
  simp [State.airSample]

/-- All that `airSample` can change: `air`, `vent`, `guide`, `light`, `bus`. -/
theorem State.airSample_only (s : State) :
    s.airSample = ((((s.setAir s.airSample.air).setVent s.airSample.vent).setGuide s.airSample.guide).setLight s.airSample.light).setBus s.airSample.bus :=
  State.ext_fields (by simp) (by simp) (by simp) (by simp) (by simp) (by simp) (by simp) (by simp) (by simp) (by simp) (by simp) (by simp) (by simp)

@[simp] theorem State.roundEnds_station (s : State) : s.roundEnds.station = s.station := by
  simp only [State.roundEnds]; split <;> simp
@[simp] theorem State.roundEnds_settings (s : State) : s.roundEnds.settings = s.settings := by
  simp only [State.roundEnds]; split <;> simp
@[simp] theorem State.roundEnds_startup (s : State) : s.roundEnds.startup = s.startup := by
  simp only [State.roundEnds]; split <;> simp
@[simp] theorem State.roundEnds_inputs (s : State) : s.roundEnds.inputs = s.inputs := by
  simp only [State.roundEnds]; split <;> simp
@[simp] theorem State.roundEnds_bays (s : State) : s.roundEnds.bays = s.bays := by
  simp only [State.roundEnds]; split <;> simp
@[simp] theorem State.roundEnds_peers (s : State) : s.roundEnds.peers = s.peers := by
  simp only [State.roundEnds]; split <;> simp
@[simp] theorem State.roundEnds_counters (s : State) : s.roundEnds.counters = s.counters := by
  simp only [State.roundEnds]; split <;> simp
@[simp] theorem State.roundEnds_pending (s : State) : s.roundEnds.pending = s.pending := by
  simp only [State.roundEnds]; split <;> simp

/-- All that `roundEnds` can change: `air`, `vent`, `guide`, `light`, `bus`. -/
theorem State.roundEnds_only (s : State) :
    s.roundEnds = ((((s.setAir s.roundEnds.air).setVent s.roundEnds.vent).setGuide s.roundEnds.guide).setLight s.roundEnds.light).setBus s.roundEnds.bus :=
  State.ext_fields (by simp) (by simp) (by simp) (by simp) (by simp) (by simp) (by simp) (by simp) (by simp) (by simp) (by simp) (by simp) (by simp)

@[simp] theorem State.pollHead_station (s : State) (n : Nat) : (s.pollHead n).station = s.station := by
  simp [State.pollHead]
@[simp] theorem State.pollHead_settings (s : State) (n : Nat) : (s.pollHead n).settings = s.settings := by
  simp [State.pollHead]
@[simp] theorem State.pollHead_startup (s : State) (n : Nat) : (s.pollHead n).startup = s.startup := by
  simp [State.pollHead]
@[simp] theorem State.pollHead_inputs (s : State) (n : Nat) : (s.pollHead n).inputs = s.inputs := by
  simp [State.pollHead]
@[simp] theorem State.pollHead_vent (s : State) (n : Nat) : (s.pollHead n).vent = s.vent := by
  simp [State.pollHead]
@[simp] theorem State.pollHead_bays (s : State) (n : Nat) : (s.pollHead n).bays = s.bays := by
  simp [State.pollHead]
@[simp] theorem State.pollHead_peers (s : State) (n : Nat) : (s.pollHead n).peers = s.peers := by
  simp [State.pollHead]
@[simp] theorem State.pollHead_guide (s : State) (n : Nat) : (s.pollHead n).guide = s.guide := by
  simp [State.pollHead]
@[simp] theorem State.pollHead_light (s : State) (n : Nat) : (s.pollHead n).light = s.light := by
  simp [State.pollHead]
@[simp] theorem State.pollHead_bus (s : State) (n : Nat) : (s.pollHead n).bus = s.bus := by
  simp [State.pollHead]
@[simp] theorem State.pollHead_counters (s : State) (n : Nat) : (s.pollHead n).counters = s.counters := by
  simp [State.pollHead]
@[simp] theorem State.pollHead_pending (s : State) (n : Nat) : (s.pollHead n).pending = s.pending := by
  simp [State.pollHead]

/-- All that `pollHead` can change: `air`. -/
theorem State.pollHead_only (s : State) (n : Nat) :
    s.pollHead n = s.setAir (s.pollHead n).air :=
  State.ext_fields (by simp) (by simp) (by simp) (by simp) (by simp) (by simp) (by simp) (by simp) (by simp) (by simp) (by simp) (by simp) (by simp)

@[simp] theorem State.afterPoll_station (s : State) (n : Nat) : (s.afterPoll n).station = s.station := by
  simp only [State.afterPoll]; (repeat' split) <;> simp
@[simp] theorem State.afterPoll_settings (s : State) (n : Nat) : (s.afterPoll n).settings = s.settings := by
  simp only [State.afterPoll]; (repeat' split) <;> simp
@[simp] theorem State.afterPoll_startup (s : State) (n : Nat) : (s.afterPoll n).startup = s.startup := by
  simp only [State.afterPoll]; (repeat' split) <;> simp
@[simp] theorem State.afterPoll_inputs (s : State) (n : Nat) : (s.afterPoll n).inputs = s.inputs := by
  simp only [State.afterPoll]; (repeat' split) <;> simp
@[simp] theorem State.afterPoll_bays (s : State) (n : Nat) : (s.afterPoll n).bays = s.bays := by
  simp only [State.afterPoll]; (repeat' split) <;> simp
@[simp] theorem State.afterPoll_peers (s : State) (n : Nat) : (s.afterPoll n).peers = s.peers := by
  simp only [State.afterPoll]; (repeat' split) <;> simp
@[simp] theorem State.afterPoll_counters (s : State) (n : Nat) : (s.afterPoll n).counters = s.counters := by
  simp only [State.afterPoll]; (repeat' split) <;> simp
@[simp] theorem State.afterPoll_pending (s : State) (n : Nat) : (s.afterPoll n).pending = s.pending := by
  simp only [State.afterPoll]; (repeat' split) <;> simp

/-- All that `afterPoll` can change: `air`, `vent`, `guide`, `light`, `bus`. -/
theorem State.afterPoll_only (s : State) (n : Nat) :
    s.afterPoll n = ((((s.setAir (s.afterPoll n).air).setVent (s.afterPoll n).vent).setGuide (s.afterPoll n).guide).setLight (s.afterPoll n).light).setBus (s.afterPoll n).bus :=
  State.ext_fields (by simp) (by simp) (by simp) (by simp) (by simp) (by simp) (by simp) (by simp) (by simp) (by simp) (by simp) (by simp) (by simp)

@[simp] theorem State.startRound_station (s : State) : s.startRound.station = s.station := by
  simp only [State.startRound]; (repeat' split) <;> simp
@[simp] theorem State.startRound_settings (s : State) : s.startRound.settings = s.settings := by
  simp only [State.startRound]; (repeat' split) <;> simp
@[simp] theorem State.startRound_startup (s : State) : s.startRound.startup = s.startup := by
  simp only [State.startRound]; (repeat' split) <;> simp
@[simp] theorem State.startRound_inputs (s : State) : s.startRound.inputs = s.inputs := by
  simp only [State.startRound]; (repeat' split) <;> simp
@[simp] theorem State.startRound_bays (s : State) : s.startRound.bays = s.bays := by
  simp only [State.startRound]; (repeat' split) <;> simp
@[simp] theorem State.startRound_peers (s : State) : s.startRound.peers = s.peers := by
  simp only [State.startRound]; (repeat' split) <;> simp
@[simp] theorem State.startRound_counters (s : State) : s.startRound.counters = s.counters := by
  simp only [State.startRound]; (repeat' split) <;> simp
@[simp] theorem State.startRound_pending (s : State) : s.startRound.pending = s.pending := by
  simp only [State.startRound]; (repeat' split) <;> simp

/-- All that `startRound` can change: `air`, `vent`, `guide`, `light`, `bus`. -/
theorem State.startRound_only (s : State) :
    s.startRound = ((((s.setAir s.startRound.air).setVent s.startRound.vent).setGuide s.startRound.guide).setLight s.startRound.light).setBus s.startRound.bus :=
  State.ext_fields (by simp) (by simp) (by simp) (by simp) (by simp) (by simp) (by simp) (by simp) (by simp) (by simp) (by simp) (by simp) (by simp)

/-! ### Bays -/

@[simp] theorem State.changeBay_station (s : State) (n : Nat) (f : Bay → Bay) : (s.changeBay n f).station = s.station := by
  simp only [State.changeBay]; (repeat' split) <;> simp
@[simp] theorem State.changeBay_settings (s : State) (n : Nat) (f : Bay → Bay) : (s.changeBay n f).settings = s.settings := by
  simp only [State.changeBay]; (repeat' split) <;> simp
@[simp] theorem State.changeBay_startup (s : State) (n : Nat) (f : Bay → Bay) : (s.changeBay n f).startup = s.startup := by
  simp only [State.changeBay]; (repeat' split) <;> simp
@[simp] theorem State.changeBay_inputs (s : State) (n : Nat) (f : Bay → Bay) : (s.changeBay n f).inputs = s.inputs := by
  simp only [State.changeBay]; (repeat' split) <;> simp
@[simp] theorem State.changeBay_air (s : State) (n : Nat) (f : Bay → Bay) : (s.changeBay n f).air = s.air := by
  simp only [State.changeBay]; (repeat' split) <;> simp
@[simp] theorem State.changeBay_vent (s : State) (n : Nat) (f : Bay → Bay) : (s.changeBay n f).vent = s.vent := by
  simp only [State.changeBay]; (repeat' split) <;> simp
@[simp] theorem State.changeBay_peers (s : State) (n : Nat) (f : Bay → Bay) : (s.changeBay n f).peers = s.peers := by
  simp only [State.changeBay]; (repeat' split) <;> simp
@[simp] theorem State.changeBay_light (s : State) (n : Nat) (f : Bay → Bay) : (s.changeBay n f).light = s.light := by
  simp only [State.changeBay]; (repeat' split) <;> simp
@[simp] theorem State.changeBay_counters (s : State) (n : Nat) (f : Bay → Bay) : (s.changeBay n f).counters = s.counters := by
  simp only [State.changeBay]; (repeat' split) <;> simp
@[simp] theorem State.changeBay_pending (s : State) (n : Nat) (f : Bay → Bay) : (s.changeBay n f).pending = s.pending := by
  simp only [State.changeBay]; (repeat' split) <;> simp

/-- All that `changeBay` can change: `bays`, `guide`, `bus`. -/
theorem State.changeBay_only (s : State) (n : Nat) (f : Bay → Bay) :
    s.changeBay n f = ((s.setBays (s.changeBay n f).bays).setGuide (s.changeBay n f).guide).setBus (s.changeBay n f).bus :=
  State.ext_fields (by simp) (by simp) (by simp) (by simp) (by simp) (by simp) (by simp) (by simp) (by simp) (by simp) (by simp) (by simp) (by simp)

@[simp] theorem State.bayAnswered_station (s : State) (n : Nat) (a : BayAnswer) : (s.bayAnswered n a).station = s.station := by
  simp only [State.bayAnswered]; (repeat' split) <;> simp
@[simp] theorem State.bayAnswered_settings (s : State) (n : Nat) (a : BayAnswer) : (s.bayAnswered n a).settings = s.settings := by
  simp only [State.bayAnswered]; (repeat' split) <;> simp
@[simp] theorem State.bayAnswered_startup (s : State) (n : Nat) (a : BayAnswer) : (s.bayAnswered n a).startup = s.startup := by
  simp only [State.bayAnswered]; (repeat' split) <;> simp
@[simp] theorem State.bayAnswered_inputs (s : State) (n : Nat) (a : BayAnswer) : (s.bayAnswered n a).inputs = s.inputs := by
  simp only [State.bayAnswered]; (repeat' split) <;> simp
@[simp] theorem State.bayAnswered_air (s : State) (n : Nat) (a : BayAnswer) : (s.bayAnswered n a).air = s.air := by
  simp only [State.bayAnswered]; (repeat' split) <;> simp
@[simp] theorem State.bayAnswered_vent (s : State) (n : Nat) (a : BayAnswer) : (s.bayAnswered n a).vent = s.vent := by
  simp only [State.bayAnswered]; (repeat' split) <;> simp
@[simp] theorem State.bayAnswered_peers (s : State) (n : Nat) (a : BayAnswer) : (s.bayAnswered n a).peers = s.peers := by
  simp only [State.bayAnswered]; (repeat' split) <;> simp
@[simp] theorem State.bayAnswered_counters (s : State) (n : Nat) (a : BayAnswer) : (s.bayAnswered n a).counters = s.counters := by
  simp only [State.bayAnswered]; (repeat' split) <;> simp
@[simp] theorem State.bayAnswered_pending (s : State) (n : Nat) (a : BayAnswer) : (s.bayAnswered n a).pending = s.pending := by
  simp only [State.bayAnswered]; (repeat' split) <;> simp

/-- All that `bayAnswered` can change: `bays`, `guide`, `light`, `bus`. -/
theorem State.bayAnswered_only (s : State) (n : Nat) (a : BayAnswer) :
    s.bayAnswered n a = (((s.setBays (s.bayAnswered n a).bays).setGuide (s.bayAnswered n a).guide).setLight (s.bayAnswered n a).light).setBus (s.bayAnswered n a).bus :=
  State.ext_fields (by simp) (by simp) (by simp) (by simp) (by simp) (by simp) (by simp) (by simp) (by simp) (by simp) (by simp) (by simp) (by simp)

@[simp] theorem State.readAfter_station (s : State) (n : Nat) : (s.readAfter n).station = s.station := by
  simp only [State.readAfter]; (repeat' split) <;> simp
@[simp] theorem State.readAfter_settings (s : State) (n : Nat) : (s.readAfter n).settings = s.settings := by
  simp only [State.readAfter]; (repeat' split) <;> simp
@[simp] theorem State.readAfter_startup (s : State) (n : Nat) : (s.readAfter n).startup = s.startup := by
  simp only [State.readAfter]; (repeat' split) <;> simp
@[simp] theorem State.readAfter_inputs (s : State) (n : Nat) : (s.readAfter n).inputs = s.inputs := by
  simp only [State.readAfter]; (repeat' split) <;> simp
@[simp] theorem State.readAfter_air (s : State) (n : Nat) : (s.readAfter n).air = s.air := by
  simp only [State.readAfter]; (repeat' split) <;> simp
@[simp] theorem State.readAfter_vent (s : State) (n : Nat) : (s.readAfter n).vent = s.vent := by
  simp only [State.readAfter]; (repeat' split) <;> simp
@[simp] theorem State.readAfter_peers (s : State) (n : Nat) : (s.readAfter n).peers = s.peers := by
  simp only [State.readAfter]; (repeat' split) <;> simp
@[simp] theorem State.readAfter_guide (s : State) (n : Nat) : (s.readAfter n).guide = s.guide := by
  simp only [State.readAfter]; (repeat' split) <;> simp
@[simp] theorem State.readAfter_light (s : State) (n : Nat) : (s.readAfter n).light = s.light := by
  simp only [State.readAfter]; (repeat' split) <;> simp
@[simp] theorem State.readAfter_bus (s : State) (n : Nat) : (s.readAfter n).bus = s.bus := by
  simp only [State.readAfter]; (repeat' split) <;> simp
@[simp] theorem State.readAfter_counters (s : State) (n : Nat) : (s.readAfter n).counters = s.counters := by
  simp only [State.readAfter]; (repeat' split) <;> simp
@[simp] theorem State.readAfter_pending (s : State) (n : Nat) : (s.readAfter n).pending = s.pending := by
  simp only [State.readAfter]; (repeat' split) <;> simp

/-- All that `readAfter` can change: `bays`. -/
theorem State.readAfter_only (s : State) (n : Nat) :
    s.readAfter n = s.setBays (s.readAfter n).bays :=
  State.ext_fields (by simp) (by simp) (by simp) (by simp) (by simp) (by simp) (by simp) (by simp) (by simp) (by simp) (by simp) (by simp) (by simp)

@[simp] theorem State.endRead_station (s : State) (r : BayRead) (a : BayAnswer) : (s.endRead r a).station = s.station := by
  simp only [State.endRead]; (repeat' split) <;> simp
@[simp] theorem State.endRead_settings (s : State) (r : BayRead) (a : BayAnswer) : (s.endRead r a).settings = s.settings := by
  simp only [State.endRead]; (repeat' split) <;> simp
@[simp] theorem State.endRead_startup (s : State) (r : BayRead) (a : BayAnswer) : (s.endRead r a).startup = s.startup := by
  simp only [State.endRead]; (repeat' split) <;> simp
@[simp] theorem State.endRead_inputs (s : State) (r : BayRead) (a : BayAnswer) : (s.endRead r a).inputs = s.inputs := by
  simp only [State.endRead]; (repeat' split) <;> simp
@[simp] theorem State.endRead_air (s : State) (r : BayRead) (a : BayAnswer) : (s.endRead r a).air = s.air := by
  simp only [State.endRead]; (repeat' split) <;> simp
@[simp] theorem State.endRead_vent (s : State) (r : BayRead) (a : BayAnswer) : (s.endRead r a).vent = s.vent := by
  simp only [State.endRead]; (repeat' split) <;> simp
@[simp] theorem State.endRead_peers (s : State) (r : BayRead) (a : BayAnswer) : (s.endRead r a).peers = s.peers := by
  simp only [State.endRead]; (repeat' split) <;> simp
@[simp] theorem State.endRead_counters (s : State) (r : BayRead) (a : BayAnswer) : (s.endRead r a).counters = s.counters := by
  simp only [State.endRead]; (repeat' split) <;> simp
@[simp] theorem State.endRead_pending (s : State) (r : BayRead) (a : BayAnswer) : (s.endRead r a).pending = s.pending := by
  simp only [State.endRead]; (repeat' split) <;> simp

/-- All that `endRead` can change: `bays`, `guide`, `light`, `bus`. -/
theorem State.endRead_only (s : State) (r : BayRead) (a : BayAnswer) :
    s.endRead r a = (((s.setBays (s.endRead r a).bays).setGuide (s.endRead r a).guide).setLight (s.endRead r a).light).setBus (s.endRead r a).bus :=
  State.ext_fields (by simp) (by simp) (by simp) (by simp) (by simp) (by simp) (by simp) (by simp) (by simp) (by simp) (by simp) (by simp) (by simp)

@[simp] theorem State.startScan_station (s : State) : s.startScan.station = s.station := by
  simp [State.startScan]
@[simp] theorem State.startScan_settings (s : State) : s.startScan.settings = s.settings := by
  simp [State.startScan]
@[simp] theorem State.startScan_startup (s : State) : s.startScan.startup = s.startup := by
  simp [State.startScan]
@[simp] theorem State.startScan_inputs (s : State) : s.startScan.inputs = s.inputs := by
  simp [State.startScan]
@[simp] theorem State.startScan_air (s : State) : s.startScan.air = s.air := by
  simp [State.startScan]
@[simp] theorem State.startScan_vent (s : State) : s.startScan.vent = s.vent := by
  simp [State.startScan]
@[simp] theorem State.startScan_peers (s : State) : s.startScan.peers = s.peers := by
  simp [State.startScan]
@[simp] theorem State.startScan_guide (s : State) : s.startScan.guide = s.guide := by
  simp [State.startScan]
@[simp] theorem State.startScan_light (s : State) : s.startScan.light = s.light := by
  simp [State.startScan]
@[simp] theorem State.startScan_bus (s : State) : s.startScan.bus = s.bus := by
  simp [State.startScan]
@[simp] theorem State.startScan_counters (s : State) : s.startScan.counters = s.counters := by
  simp [State.startScan]
@[simp] theorem State.startScan_pending (s : State) : s.startScan.pending = s.pending := by
  simp [State.startScan]

/-- All that `startScan` can change: `bays`. -/
theorem State.startScan_only (s : State) :
    s.startScan = s.setBays s.startScan.bays :=
  State.ext_fields (by simp) (by simp) (by simp) (by simp) (by simp) (by simp) (by simp) (by simp) (by simp) (by simp) (by simp) (by simp) (by simp)

@[simp] theorem State.passage_station (s : State) (g : GateSettings) (p : Passage) : (s.passage g p).station = s.station := by
  simp only [State.passage]; (repeat' split) <;> simp
@[simp] theorem State.passage_settings (s : State) (g : GateSettings) (p : Passage) : (s.passage g p).settings = s.settings := by
  simp only [State.passage]; (repeat' split) <;> simp
@[simp] theorem State.passage_startup (s : State) (g : GateSettings) (p : Passage) : (s.passage g p).startup = s.startup := by
  simp only [State.passage]; (repeat' split) <;> simp
@[simp] theorem State.passage_inputs (s : State) (g : GateSettings) (p : Passage) : (s.passage g p).inputs = s.inputs := by
  simp only [State.passage]; (repeat' split) <;> simp
@[simp] theorem State.passage_air (s : State) (g : GateSettings) (p : Passage) : (s.passage g p).air = s.air := by
  simp only [State.passage]; (repeat' split) <;> simp
@[simp] theorem State.passage_vent (s : State) (g : GateSettings) (p : Passage) : (s.passage g p).vent = s.vent := by
  simp only [State.passage]; (repeat' split) <;> simp
@[simp] theorem State.passage_peers (s : State) (g : GateSettings) (p : Passage) : (s.passage g p).peers = s.peers := by
  simp only [State.passage]; (repeat' split) <;> simp
@[simp] theorem State.passage_guide (s : State) (g : GateSettings) (p : Passage) : (s.passage g p).guide = s.guide := by
  simp only [State.passage]; (repeat' split) <;> simp
@[simp] theorem State.passage_pending (s : State) (g : GateSettings) (p : Passage) : (s.passage g p).pending = s.pending := by
  simp only [State.passage]; (repeat' split) <;> simp

/-- All that `passage` can change: `bays`, `light`, `bus`, `counters`. -/
theorem State.passage_only (s : State) (g : GateSettings) (p : Passage) :
    s.passage g p = (((s.setBays (s.passage g p).bays).setLight (s.passage g p).light).setBus (s.passage g p).bus).setCounters (s.passage g p).counters :=
  State.ext_fields (by simp) (by simp) (by simp) (by simp) (by simp) (by simp) (by simp) (by simp) (by simp) (by simp) (by simp) (by simp) (by simp)

@[simp] theorem State.baysListen_station (s : State) : s.baysListen.station = s.station := by
  simp [State.baysListen]
@[simp] theorem State.baysListen_settings (s : State) : s.baysListen.settings = s.settings := by
  simp [State.baysListen]
@[simp] theorem State.baysListen_startup (s : State) : s.baysListen.startup = s.startup := by
  simp [State.baysListen]
@[simp] theorem State.baysListen_inputs (s : State) : s.baysListen.inputs = s.inputs := by
  simp [State.baysListen]
@[simp] theorem State.baysListen_air (s : State) : s.baysListen.air = s.air := by
  simp [State.baysListen]
@[simp] theorem State.baysListen_vent (s : State) : s.baysListen.vent = s.vent := by
  simp [State.baysListen]
@[simp] theorem State.baysListen_peers (s : State) : s.baysListen.peers = s.peers := by
  simp [State.baysListen]
@[simp] theorem State.baysListen_guide (s : State) : s.baysListen.guide = s.guide := by
  simp [State.baysListen]
@[simp] theorem State.baysListen_light (s : State) : s.baysListen.light = s.light := by
  simp [State.baysListen]
@[simp] theorem State.baysListen_bus (s : State) : s.baysListen.bus = s.bus := by
  simp [State.baysListen]
@[simp] theorem State.baysListen_counters (s : State) : s.baysListen.counters = s.counters := by
  simp [State.baysListen]
@[simp] theorem State.baysListen_pending (s : State) : s.baysListen.pending = s.pending := by
  simp [State.baysListen]

/-- All that `baysListen` can change: `bays`. -/
theorem State.baysListen_only (s : State) :
    s.baysListen = s.setBays s.baysListen.bays :=
  State.ext_fields (by simp) (by simp) (by simp) (by simp) (by simp) (by simp) (by simp) (by simp) (by simp) (by simp) (by simp) (by simp) (by simp)

/-! ### Peers -/

@[simp] theorem State.peersChanged_station (s : State) (slots : List (Option Peer)) (told : Bool) : (s.peersChanged slots told).station = s.station := by
  simp only [State.peersChanged]; (repeat' split) <;> simp
@[simp] theorem State.peersChanged_settings (s : State) (slots : List (Option Peer)) (told : Bool) : (s.peersChanged slots told).settings = s.settings := by
  simp only [State.peersChanged]; (repeat' split) <;> simp
@[simp] theorem State.peersChanged_startup (s : State) (slots : List (Option Peer)) (told : Bool) : (s.peersChanged slots told).startup = s.startup := by
  simp only [State.peersChanged]; (repeat' split) <;> simp
@[simp] theorem State.peersChanged_inputs (s : State) (slots : List (Option Peer)) (told : Bool) : (s.peersChanged slots told).inputs = s.inputs := by
  simp only [State.peersChanged]; (repeat' split) <;> simp
@[simp] theorem State.peersChanged_air (s : State) (slots : List (Option Peer)) (told : Bool) : (s.peersChanged slots told).air = s.air := by
  simp only [State.peersChanged]; (repeat' split) <;> simp
@[simp] theorem State.peersChanged_bays (s : State) (slots : List (Option Peer)) (told : Bool) : (s.peersChanged slots told).bays = s.bays := by
  simp only [State.peersChanged]; (repeat' split) <;> simp
@[simp] theorem State.peersChanged_light (s : State) (slots : List (Option Peer)) (told : Bool) : (s.peersChanged slots told).light = s.light := by
  simp only [State.peersChanged]; (repeat' split) <;> simp
@[simp] theorem State.peersChanged_counters (s : State) (slots : List (Option Peer)) (told : Bool) : (s.peersChanged slots told).counters = s.counters := by
  simp only [State.peersChanged]; (repeat' split) <;> simp
@[simp] theorem State.peersChanged_pending (s : State) (slots : List (Option Peer)) (told : Bool) : (s.peersChanged slots told).pending = s.pending := by
  simp only [State.peersChanged]; (repeat' split) <;> simp

/-- All that `peersChanged` can change: `vent`, `peers`, `guide`, `bus`. -/
theorem State.peersChanged_only (s : State) (slots : List (Option Peer)) (told : Bool) :
    s.peersChanged slots told = (((s.setVent (s.peersChanged slots told).vent).setPeers (s.peersChanged slots told).peers).setGuide (s.peersChanged slots told).guide).setBus (s.peersChanged slots told).bus :=
  State.ext_fields (by simp) (by simp) (by simp) (by simp) (by simp) (by simp) (by simp) (by simp) (by simp) (by simp) (by simp) (by simp) (by simp)

@[simp] theorem State.takeBulletin_station (s : State) (source : Byte) (b : Bulletin) : (s.takeBulletin source b).station = s.station := by
  simp only [State.takeBulletin]; (repeat' split) <;> simp
@[simp] theorem State.takeBulletin_settings (s : State) (source : Byte) (b : Bulletin) : (s.takeBulletin source b).settings = s.settings := by
  simp only [State.takeBulletin]; (repeat' split) <;> simp
@[simp] theorem State.takeBulletin_startup (s : State) (source : Byte) (b : Bulletin) : (s.takeBulletin source b).startup = s.startup := by
  simp only [State.takeBulletin]; (repeat' split) <;> simp
@[simp] theorem State.takeBulletin_inputs (s : State) (source : Byte) (b : Bulletin) : (s.takeBulletin source b).inputs = s.inputs := by
  simp only [State.takeBulletin]; (repeat' split) <;> simp
@[simp] theorem State.takeBulletin_air (s : State) (source : Byte) (b : Bulletin) : (s.takeBulletin source b).air = s.air := by
  simp only [State.takeBulletin]; (repeat' split) <;> simp
@[simp] theorem State.takeBulletin_bays (s : State) (source : Byte) (b : Bulletin) : (s.takeBulletin source b).bays = s.bays := by
  simp only [State.takeBulletin]; (repeat' split) <;> simp
@[simp] theorem State.takeBulletin_pending (s : State) (source : Byte) (b : Bulletin) : (s.takeBulletin source b).pending = s.pending := by
  simp only [State.takeBulletin]; (repeat' split) <;> simp

/-- All that `takeBulletin` can change: `vent`, `peers`, `guide`, `light`, `bus`, `counters`. -/
theorem State.takeBulletin_only (s : State) (source : Byte) (b : Bulletin) :
    s.takeBulletin source b = (((((s.setVent (s.takeBulletin source b).vent).setPeers (s.takeBulletin source b).peers).setGuide (s.takeBulletin source b).guide).setLight (s.takeBulletin source b).light).setBus (s.takeBulletin source b).bus).setCounters (s.takeBulletin source b).counters :=
  State.ext_fields (by simp) (by simp) (by simp) (by simp) (by simp) (by simp) (by simp) (by simp) (by simp) (by simp) (by simp) (by simp) (by simp)

@[simp] theorem State.peersListen_station (s : State) : s.peersListen.station = s.station := by
  simp [State.peersListen]
@[simp] theorem State.peersListen_settings (s : State) : s.peersListen.settings = s.settings := by
  simp [State.peersListen]
@[simp] theorem State.peersListen_startup (s : State) : s.peersListen.startup = s.startup := by
  simp [State.peersListen]
@[simp] theorem State.peersListen_inputs (s : State) : s.peersListen.inputs = s.inputs := by
  simp [State.peersListen]
@[simp] theorem State.peersListen_air (s : State) : s.peersListen.air = s.air := by
  simp [State.peersListen]
@[simp] theorem State.peersListen_vent (s : State) : s.peersListen.vent = s.vent := by
  simp [State.peersListen]
@[simp] theorem State.peersListen_bays (s : State) : s.peersListen.bays = s.bays := by
  simp [State.peersListen]
@[simp] theorem State.peersListen_guide (s : State) : s.peersListen.guide = s.guide := by
  simp [State.peersListen]
@[simp] theorem State.peersListen_light (s : State) : s.peersListen.light = s.light := by
  simp [State.peersListen]
@[simp] theorem State.peersListen_bus (s : State) : s.peersListen.bus = s.bus := by
  simp [State.peersListen]
@[simp] theorem State.peersListen_counters (s : State) : s.peersListen.counters = s.counters := by
  simp [State.peersListen]
@[simp] theorem State.peersListen_pending (s : State) : s.peersListen.pending = s.pending := by
  simp [State.peersListen]

/-- All that `peersListen` can change: `peers`. -/
theorem State.peersListen_only (s : State) :
    s.peersListen = s.setPeers s.peersListen.peers :=
  State.ext_fields (by simp) (by simp) (by simp) (by simp) (by simp) (by simp) (by simp) (by simp) (by simp) (by simp) (by simp) (by simp) (by simp)

@[simp] theorem State.lightingListens_station (s : State) : s.lightingListens.station = s.station := by
  simp [State.lightingListens]
@[simp] theorem State.lightingListens_settings (s : State) : s.lightingListens.settings = s.settings := by
  simp [State.lightingListens]
@[simp] theorem State.lightingListens_startup (s : State) : s.lightingListens.startup = s.startup := by
  simp [State.lightingListens]
@[simp] theorem State.lightingListens_inputs (s : State) : s.lightingListens.inputs = s.inputs := by
  simp [State.lightingListens]
@[simp] theorem State.lightingListens_air (s : State) : s.lightingListens.air = s.air := by
  simp [State.lightingListens]
@[simp] theorem State.lightingListens_vent (s : State) : s.lightingListens.vent = s.vent := by
  simp [State.lightingListens]
@[simp] theorem State.lightingListens_bays (s : State) : s.lightingListens.bays = s.bays := by
  simp [State.lightingListens]
@[simp] theorem State.lightingListens_peers (s : State) : s.lightingListens.peers = s.peers := by
  simp [State.lightingListens]
@[simp] theorem State.lightingListens_guide (s : State) : s.lightingListens.guide = s.guide := by
  simp [State.lightingListens]
@[simp] theorem State.lightingListens_bus (s : State) : s.lightingListens.bus = s.bus := by
  simp [State.lightingListens]
@[simp] theorem State.lightingListens_counters (s : State) : s.lightingListens.counters = s.counters := by
  simp [State.lightingListens]
@[simp] theorem State.lightingListens_pending (s : State) : s.lightingListens.pending = s.pending := by
  simp [State.lightingListens]

/-- All that `lightingListens` can change: `light`. -/
theorem State.lightingListens_only (s : State) :
    s.lightingListens = s.setLight s.lightingListens.light :=
  State.ext_fields (by simp) (by simp) (by simp) (by simp) (by simp) (by simp) (by simp) (by simp) (by simp) (by simp) (by simp) (by simp) (by simp)

/-! ### Sending an attempt, receiving a frame -/

@[simp] theorem State.captureStatus_station (s : State) : s.captureStatus.station = s.station := by
  simp [State.captureStatus]
@[simp] theorem State.captureStatus_settings (s : State) : s.captureStatus.settings = s.settings := by
  simp [State.captureStatus]
@[simp] theorem State.captureStatus_startup (s : State) : s.captureStatus.startup = s.startup := by
  simp [State.captureStatus]
@[simp] theorem State.captureStatus_inputs (s : State) : s.captureStatus.inputs = s.inputs := by
  simp [State.captureStatus]
@[simp] theorem State.captureStatus_air (s : State) : s.captureStatus.air = s.air := by
  simp [State.captureStatus]
@[simp] theorem State.captureStatus_vent (s : State) : s.captureStatus.vent = s.vent := by
  simp [State.captureStatus]
@[simp] theorem State.captureStatus_bays (s : State) : s.captureStatus.bays = s.bays := by
  simp [State.captureStatus]
@[simp] theorem State.captureStatus_peers (s : State) : s.captureStatus.peers = s.peers := by
  simp [State.captureStatus]
@[simp] theorem State.captureStatus_light (s : State) : s.captureStatus.light = s.light := by
  simp [State.captureStatus]
@[simp] theorem State.captureStatus_counters (s : State) : s.captureStatus.counters = s.counters := by
  simp [State.captureStatus]
@[simp] theorem State.captureStatus_pending (s : State) : s.captureStatus.pending = s.pending := by
  simp [State.captureStatus]

/-- All that `captureStatus` can change: `guide`, `bus`. -/
theorem State.captureStatus_only (s : State) :
    s.captureStatus = (s.setGuide s.captureStatus.guide).setBus s.captureStatus.bus :=
  State.ext_fields (by simp) (by simp) (by simp) (by simp) (by simp) (by simp) (by simp) (by simp) (by simp) (by simp) (by simp) (by simp) (by simp)

@[simp] theorem State.beginHead_station (s : State) (cls : TxClass) : (s.beginHead cls).station = s.station := by
  simp only [State.beginHead]; (repeat' split) <;> simp
@[simp] theorem State.beginHead_settings (s : State) (cls : TxClass) : (s.beginHead cls).settings = s.settings := by
  simp only [State.beginHead]; (repeat' split) <;> simp
@[simp] theorem State.beginHead_startup (s : State) (cls : TxClass) : (s.beginHead cls).startup = s.startup := by
  simp only [State.beginHead]; (repeat' split) <;> simp
@[simp] theorem State.beginHead_inputs (s : State) (cls : TxClass) : (s.beginHead cls).inputs = s.inputs := by
  simp only [State.beginHead]; (repeat' split) <;> simp
@[simp] theorem State.beginHead_air (s : State) (cls : TxClass) : (s.beginHead cls).air = s.air := by
  simp only [State.beginHead]; (repeat' split) <;> simp
@[simp] theorem State.beginHead_vent (s : State) (cls : TxClass) : (s.beginHead cls).vent = s.vent := by
  simp only [State.beginHead]; (repeat' split) <;> simp
@[simp] theorem State.beginHead_bays (s : State) (cls : TxClass) : (s.beginHead cls).bays = s.bays := by
  simp only [State.beginHead]; (repeat' split) <;> simp
@[simp] theorem State.beginHead_peers (s : State) (cls : TxClass) : (s.beginHead cls).peers = s.peers := by
  simp only [State.beginHead]; (repeat' split) <;> simp
@[simp] theorem State.beginHead_light (s : State) (cls : TxClass) : (s.beginHead cls).light = s.light := by
  simp only [State.beginHead]; (repeat' split) <;> simp
@[simp] theorem State.beginHead_counters (s : State) (cls : TxClass) : (s.beginHead cls).counters = s.counters := by
  simp only [State.beginHead]; (repeat' split) <;> simp
@[simp] theorem State.beginHead_pending (s : State) (cls : TxClass) : (s.beginHead cls).pending = s.pending := by
  simp only [State.beginHead]; (repeat' split) <;> simp

/-- All that `beginHead` can change: `guide`, `bus`. -/
theorem State.beginHead_only (s : State) (cls : TxClass) :
    s.beginHead cls = (s.setGuide (s.beginHead cls).guide).setBus (s.beginHead cls).bus :=
  State.ext_fields (by simp) (by simp) (by simp) (by simp) (by simp) (by simp) (by simp) (by simp) (by simp) (by simp) (by simp) (by simp) (by simp)

@[simp] theorem State.bayGoesOut_station (s : State) (n : Nat) : (s.bayGoesOut n).station = s.station := by
  simp [State.bayGoesOut]
@[simp] theorem State.bayGoesOut_settings (s : State) (n : Nat) : (s.bayGoesOut n).settings = s.settings := by
  simp [State.bayGoesOut]
@[simp] theorem State.bayGoesOut_startup (s : State) (n : Nat) : (s.bayGoesOut n).startup = s.startup := by
  simp [State.bayGoesOut]
@[simp] theorem State.bayGoesOut_inputs (s : State) (n : Nat) : (s.bayGoesOut n).inputs = s.inputs := by
  simp [State.bayGoesOut]
@[simp] theorem State.bayGoesOut_air (s : State) (n : Nat) : (s.bayGoesOut n).air = s.air := by
  simp [State.bayGoesOut]
@[simp] theorem State.bayGoesOut_vent (s : State) (n : Nat) : (s.bayGoesOut n).vent = s.vent := by
  simp [State.bayGoesOut]
@[simp] theorem State.bayGoesOut_peers (s : State) (n : Nat) : (s.bayGoesOut n).peers = s.peers := by
  simp [State.bayGoesOut]
@[simp] theorem State.bayGoesOut_light (s : State) (n : Nat) : (s.bayGoesOut n).light = s.light := by
  simp [State.bayGoesOut]
@[simp] theorem State.bayGoesOut_counters (s : State) (n : Nat) : (s.bayGoesOut n).counters = s.counters := by
  simp [State.bayGoesOut]
@[simp] theorem State.bayGoesOut_pending (s : State) (n : Nat) : (s.bayGoesOut n).pending = s.pending := by
  simp [State.bayGoesOut]

/-- All that `bayGoesOut` can change: `bays`, `guide`, `bus`. -/
theorem State.bayGoesOut_only (s : State) (n : Nat) :
    s.bayGoesOut n = ((s.setBays (s.bayGoesOut n).bays).setGuide (s.bayGoesOut n).guide).setBus (s.bayGoesOut n).bus :=
  State.ext_fields (by simp) (by simp) (by simp) (by simp) (by simp) (by simp) (by simp) (by simp) (by simp) (by simp) (by simp) (by simp) (by simp)

@[simp] theorem State.frameDiscarded_station (s : State) : s.frameDiscarded.station = s.station := by
  simp only [State.frameDiscarded]; (repeat' split) <;> simp
@[simp] theorem State.frameDiscarded_settings (s : State) : s.frameDiscarded.settings = s.settings := by
  simp only [State.frameDiscarded]; (repeat' split) <;> simp
@[simp] theorem State.frameDiscarded_startup (s : State) : s.frameDiscarded.startup = s.startup := by
  simp only [State.frameDiscarded]; (repeat' split) <;> simp
@[simp] theorem State.frameDiscarded_inputs (s : State) : s.frameDiscarded.inputs = s.inputs := by
  simp only [State.frameDiscarded]; (repeat' split) <;> simp
@[simp] theorem State.frameDiscarded_air (s : State) : s.frameDiscarded.air = s.air := by
  simp only [State.frameDiscarded]; (repeat' split) <;> simp
@[simp] theorem State.frameDiscarded_vent (s : State) : s.frameDiscarded.vent = s.vent := by
  simp only [State.frameDiscarded]; (repeat' split) <;> simp
@[simp] theorem State.frameDiscarded_bays (s : State) : s.frameDiscarded.bays = s.bays := by
  simp only [State.frameDiscarded]; (repeat' split) <;> simp
@[simp] theorem State.frameDiscarded_peers (s : State) : s.frameDiscarded.peers = s.peers := by
  simp only [State.frameDiscarded]; (repeat' split) <;> simp
@[simp] theorem State.frameDiscarded_guide (s : State) : s.frameDiscarded.guide = s.guide := by
  simp only [State.frameDiscarded]; (repeat' split) <;> simp
@[simp] theorem State.frameDiscarded_light (s : State) : s.frameDiscarded.light = s.light := by
  simp only [State.frameDiscarded]; (repeat' split) <;> simp
@[simp] theorem State.frameDiscarded_counters (s : State) : s.frameDiscarded.counters = s.counters := by
  simp only [State.frameDiscarded]; (repeat' split) <;> simp
@[simp] theorem State.frameDiscarded_pending (s : State) : s.frameDiscarded.pending = s.pending := by
  simp only [State.frameDiscarded]; (repeat' split) <;> simp

/-- All that `frameDiscarded` can change: `bus`. -/
theorem State.frameDiscarded_only (s : State) :
    s.frameDiscarded = s.setBus s.frameDiscarded.bus :=
  State.ext_fields (by simp) (by simp) (by simp) (by simp) (by simp) (by simp) (by simp) (by simp) (by simp) (by simp) (by simp) (by simp) (by simp)

@[simp] theorem State.frameEnded_station (s : State) : s.frameEnded.station = s.station := by
  simp [State.frameEnded]
@[simp] theorem State.frameEnded_settings (s : State) : s.frameEnded.settings = s.settings := by
  simp [State.frameEnded]
@[simp] theorem State.frameEnded_startup (s : State) : s.frameEnded.startup = s.startup := by
  simp [State.frameEnded]
@[simp] theorem State.frameEnded_inputs (s : State) : s.frameEnded.inputs = s.inputs := by
  simp [State.frameEnded]
@[simp] theorem State.frameEnded_air (s : State) : s.frameEnded.air = s.air := by
  simp [State.frameEnded]
@[simp] theorem State.frameEnded_vent (s : State) : s.frameEnded.vent = s.vent := by
  simp [State.frameEnded]
@[simp] theorem State.frameEnded_bays (s : State) : s.frameEnded.bays = s.bays := by
  simp [State.frameEnded]
@[simp] theorem State.frameEnded_peers (s : State) : s.frameEnded.peers = s.peers := by
  simp [State.frameEnded]
@[simp] theorem State.frameEnded_guide (s : State) : s.frameEnded.guide = s.guide := by
  simp [State.frameEnded]
@[simp] theorem State.frameEnded_light (s : State) : s.frameEnded.light = s.light := by
  simp [State.frameEnded]
@[simp] theorem State.frameEnded_counters (s : State) : s.frameEnded.counters = s.counters := by
  simp [State.frameEnded]
@[simp] theorem State.frameEnded_pending (s : State) : s.frameEnded.pending = s.pending := by
  simp [State.frameEnded]

/-- All that `frameEnded` can change: `bus`. -/
theorem State.frameEnded_only (s : State) :
    s.frameEnded = s.setBus s.frameEnded.bus :=
  State.ext_fields (by simp) (by simp) (by simp) (by simp) (by simp) (by simp) (by simp) (by simp) (by simp) (by simp) (by simp) (by simp) (by simp)

@[simp] theorem State.frameAccepted_station (s : State) : s.frameAccepted.station = s.station := by
  simp [State.frameAccepted]
@[simp] theorem State.frameAccepted_settings (s : State) : s.frameAccepted.settings = s.settings := by
  simp [State.frameAccepted]
@[simp] theorem State.frameAccepted_startup (s : State) : s.frameAccepted.startup = s.startup := by
  simp [State.frameAccepted]
@[simp] theorem State.frameAccepted_inputs (s : State) : s.frameAccepted.inputs = s.inputs := by
  simp [State.frameAccepted]
@[simp] theorem State.frameAccepted_air (s : State) : s.frameAccepted.air = s.air := by
  simp [State.frameAccepted]
@[simp] theorem State.frameAccepted_vent (s : State) : s.frameAccepted.vent = s.vent := by
  simp [State.frameAccepted]
@[simp] theorem State.frameAccepted_bays (s : State) : s.frameAccepted.bays = s.bays := by
  simp [State.frameAccepted]
@[simp] theorem State.frameAccepted_peers (s : State) : s.frameAccepted.peers = s.peers := by
  simp [State.frameAccepted]
@[simp] theorem State.frameAccepted_guide (s : State) : s.frameAccepted.guide = s.guide := by
  simp [State.frameAccepted]
@[simp] theorem State.frameAccepted_light (s : State) : s.frameAccepted.light = s.light := by
  simp [State.frameAccepted]
@[simp] theorem State.frameAccepted_pending (s : State) : s.frameAccepted.pending = s.pending := by
  simp [State.frameAccepted]

/-- All that `frameAccepted` can change: `bus`, `counters`. -/
theorem State.frameAccepted_only (s : State) :
    s.frameAccepted = (s.setBus s.frameAccepted.bus).setCounters s.frameAccepted.counters :=
  State.ext_fields (by simp) (by simp) (by simp) (by simp) (by simp) (by simp) (by simp) (by simp) (by simp) (by simp) (by simp) (by simp) (by simp)

end Sys2Proof.Machine
end

