-- ==== Sys2Proof/Laws/Ops.lean ====
section
/-! SUPPORT. What the shared operations do: counting, telling the Guidance Unit, recomputing demand, the air sample,
allocation, ending a bay read, taking a frame, class selection, a collision, executing a command. -/

namespace Sys2Proof.Machine

/-! ### Counters -/

/-- Counting one name raises that counter and leaves the fifteen others. -/
theorem Counters.get_bump (c : Counters) (n m : CounterName) :
    (c.bump n).get m = if m = n then (c.get n).bump else c.get m := by
  cases n <;> cases m <;> rfl

/-- The counter read after counting. -/
theorem State.count_get (s : State) (n m : CounterName) :
    (s.count n).counters.get m = if m = n then (s.counters.get n).bump else s.counters.get m :=
  Counters.get_bump _ _ _

/-- Every name is one of the sixteen. -/
theorem CounterName.mem_all (n : CounterName) : n ∈ CounterName.all := by cases n <;> decide

/-! ### Resets -/

@[simp] theorem State.afterReset_station (s : State) (st : Station) (u : StartUp) (c : Counters) :
    (s.afterReset st u c).station = st := rfl
@[simp] theorem State.afterReset_counters (s : State) (st : Station) (u : StartUp) (c : Counters) :
    (s.afterReset st u c).counters = c := rfl
@[simp] theorem State.afterReset_pending (s : State) (st : Station) (u : StartUp) (c : Counters) :
    (s.afterReset st u c).pending = s.pending := rfl
@[simp] theorem State.restartTaken_counters (s : State) : s.restartTaken.counters = s.counters := rfl
@[simp] theorem State.restartTaken_station (s : State) : s.restartTaken.station = .starting := rfl
@[simp] theorem State.restartTaken_pending (s : State) : s.restartTaken.pending = s.pending := rfl

/-! ### Allocation and demand -/

/-- What every part of an allocation pass leaves: the demand values, the override. -/
structure Ventilation.SameDemand (v w : Ventilation) : Prop where
  floor : v.floor = w.floor
  demand : v.demand = w.demand
  commanded : v.commanded = w.commanded
  override : v.override = w.override

theorem Ventilation.SameDemand.trans {u v w : Ventilation} (a : u.SameDemand v) (b : v.SameDemand w) :
    u.SameDemand w :=
  ⟨a.floor.trans b.floor, a.demand.trans b.demand, a.commanded.trans b.commanded, a.override.trans b.override⟩

theorem Ventilation.advanceDuty_sameDemand (v : Ventilation) : v.advanceDuty.SameDemand v := by
  unfold Ventilation.advanceDuty; repeat' split
  all_goals exact ⟨rfl, rfl, rfl, rfl⟩

theorem Ventilation.setRunList_sameDemand (v : Ventilation) (l : List Nat) : (v.setRunList l).SameDemand v := by
  unfold Ventilation.setRunList; split
  · exact (Ventilation.advanceDuty_sameDemand _).trans ⟨rfl, rfl, rfl, rfl⟩
  · exact ⟨rfl, rfl, rfl, rfl⟩

theorem Ventilation.removeExcess_sameDemand (v : Ventilation) (c : Settings) (n : Nat) :
    (v.removeExcess c n).SameDemand v :=
  (Ventilation.setRunList_sameDemand _ _).trans ⟨rfl, rfl, rfl, rfl⟩

theorem Ventilation.startNext_sameDemand (v : Ventilation) (c : Settings) (b : Bool) :
    (v.startNext c b).SameDemand v := by
  unfold Ventilation.startNext; repeat' split
  all_goals exact ⟨rfl, rfl, rfl, rfl⟩

theorem Ventilation.addShort_sameDemand (v : Ventilation) (n : Nat) : (v.addShort n).SameDemand v :=
  ⟨rfl, rfl, rfl, rfl⟩

theorem Ventilation.mapFan_sameDemand (v : Ventilation) (n : Nat) (f : Fan → Fan) :
    (v.mapFan n f).SameDemand v :=
  ⟨rfl, rfl, rfl, rfl⟩

theorem Ventilation.finishPass_sameDemand (v : Ventilation) (c : Settings) : (v.finishPass c).SameDemand v :=
  ⟨rfl, rfl, rfl, rfl⟩

/-- Allocation passes leave floor, D, C and the override. -/
theorem Ventilation.passes_sameDemand (c : Settings) (i : Inputs) (b : Bool) (k : Nat) (v : Ventilation) :
    (v.passes c i b k).SameDemand v := by
  induction k generalizing v with
  | zero => exact ⟨rfl, rfl, rfl, rfl⟩
  | succ k ih =>
    have started : (((v.removeExcess c (plannedCount v.commanded v.healthyCount)).addShort
        (plannedCount v.commanded v.healthyCount)).startNext c b).SameDemand v :=
      (Ventilation.startNext_sameDemand _ _ _).trans
        ((Ventilation.addShort_sameDemand _ _).trans (Ventilation.removeExcess_sameDemand _ _ _))
    simp only [Ventilation.passes]
    split
    · exact (ih _).trans ((Ventilation.mapFan_sameDemand _ _ _).trans started)
    · exact (Ventilation.finishPass_sameDemand _ _).trans started

/-- The Ventilation Controller after an allocation pass. -/
theorem State.allocate_vent (s : State) :
    s.allocate.vent =
      s.vent.passes s.settings s.inputs (decide (s.station = .fallback)) (s.vent.fans.length + 1) := by
  simp only [State.allocate]; split <;> simp

/-- An allocation pass leaves floor, D, C and the override. -/
theorem State.allocate_sameDemand (s : State) : s.allocate.vent.SameDemand s.vent := by
  rw [State.allocate_vent]; exact Ventilation.passes_sameDemand _ _ _ _ _

/-- A recomputation in LISTENING or NORMAL: the floor and D are the ones that stand, C is stepped at an air sample and
lifted to the floor, the override stays (R27, R31, R32). -/
theorem State.recompute_demand (s : State) (h : s.working = true) (b : Bool) :
    (s.recompute b).vent.floor = s.floorNow ∧ (s.recompute b).vent.demand = s.demandNow ∧
      (s.recompute b).vent.commanded =
        max (if b = true then stepCommanded s.settings s.demandNow s.vent.commanded else s.vent.commanded)
          s.floorNow ∧
      (s.recompute b).vent.override = s.vent.override := by
  simp only [State.recompute, h, if_true]
  exact ⟨(State.allocate_sameDemand _).floor, (State.allocate_sameDemand _).demand,
    (State.allocate_sameDemand _).commanded, (State.allocate_sameDemand _).override⟩

/-- Outside LISTENING and NORMAL no recomputation is made (R49). -/
theorem State.recompute_idle (s : State) (h : s.working = false) (b : Bool) : s.recompute b = s := by
  simp [State.recompute, h]

/-- D is never below the floor (R31). -/
theorem State.floorNow_le_demandNow (s : State) : s.floorNow ≤ s.demandNow := by
  unfold State.demandNow; split <;> simp

/-! ### The air sample -/

/-- Whatever follows from a new level, the Air Monitor is the one settled on (R13, R17). -/
@[simp] theorem State.airSettled_air (s : State) (air : AirMonitor) : (s.airSettled air).air = air := by
  simp only [State.airSettled]; split <;> simp

/-- What the air sample leaves in the Air Monitor: the head states others read, the own index and the alarm step of the
records as they stand, and nothing else (R12, R13, R17). -/
theorem State.airSample_air (s : State) :
    s.airSample.air = { s.air with
      sampled := s.air.heads.map Head.sampled, ownIndex := s.air.indexNow
      level := (s.settings.alarmStep s.air.indexNow s.air.level s.air.holdTimer).1
      holdTimer := (s.settings.alarmStep s.air.indexNow s.air.level s.air.holdTimer).2
      expiring := false } := by
  simp [State.airSample]

/-- ALARM_HOLD_TIMER_EXPIRY is the air sample that a round's end waits for, or nothing (R2, R13, R17). -/
theorem execAlarmHoldTimerExpiry_eq (s : State) :
    execAlarmHoldTimerExpiry s = .next (if s.working && s.air.expiring then s.airSample else s) := by
  unfold execAlarmHoldTimerExpiry; split <;> rfl

/-- What it takes for the hold timer to expire at a sample of the records: a running count that reaches the clear hold,
and an index that raises no level and is below the release point (R16, R17). -/
theorem State.sampleExpiresHold_iff (s : State) :
    s.sampleExpiresHold = true ↔ ∃ e i, s.air.holdTimer = some e ∧ s.air.indexNow = some i ∧
      (s.settings.levelMet i).code ≤ s.air.level.code ∧ i < s.settings.releasePoint s.air.level ∧
      0 < clearHold s.settings.holdCode ∧ clearHold s.settings.holdCode ≤ e + 1 := by
  unfold State.sampleExpiresHold; split <;> simp_all [and_assoc]

/-- The end of a round is its air sample, or leaves that sample to the expiry of the hold timer where this is the very
next command (R2, R13, R17). -/
theorem State.roundEnds_cases (s : State) :
    s.sampleExpiresHold = true ∧ s.pending.head? = some .alarmHoldTimerExpiry ∧
        s.roundEnds = s.setAir { s.air with expiring := true } ∨
      (s.sampleExpiresHold = false ∨ s.pending.head? ≠ some .alarmHoldTimerExpiry) ∧ s.roundEnds = s.airSample := by
  unfold State.roundEnds State.holdExpiryIsNext; split
  · rename_i h; simp only [Bool.and_eq_true, decide_eq_true_eq] at h; exact .inl ⟨h.1, h.2, rfl⟩
  · rename_i h; simp only [Bool.and_eq_true, decide_eq_true_eq, not_and] at h
    refine .inr ⟨?_, rfl⟩
    cases hs : s.sampleExpiresHold
    · exact .inl rfl
    · exact .inr (h hs)

/-- A round starts with a poll of its first head, or ends at once; the sample of the round before comes first where it is
still due (R2). -/
theorem State.startRound_cases (s : State) :
    s.air.expiring = false ∧
        s.startRound = (s.setAir { s.air with roundTimer := some (seconds 1), poll := none }).afterPoll 0 ∨
      s.air.expiring = true ∧
        ∃ t, t = (s.setAir { s.air with roundTimer := some (seconds 1), poll := none }).airSample ∧
        (s.startRound = t ∨ ∃ h ∈ s.air.heads, s.startRound = t.pollHead h.settings.number) := by
  unfold State.startRound
  split
  · refine .inr ⟨‹_›, _, rfl, ?_⟩
    split
    · exact .inr ⟨_, List.mem_of_find?_eq_some ‹_›, rfl⟩
    · exact .inl rfl
  · exact .inl ⟨by simp_all, rfl⟩

/-! ### The queue of commands plays no part in what an air sample does -/

theorem State.setGuide_setPending (s : State) (v : Guidance) (q : List Instr) :
    (s.setPending q).setGuide v = (s.setGuide v).setPending q := rfl

theorem State.setBus_setPending (s : State) (v : BusInterface) (q : List Instr) :
    (s.setPending q).setBus v = (s.setBus v).setPending q := rfl

theorem State.setVent_setPending (s : State) (v : Ventilation) (q : List Instr) :
    (s.setPending q).setVent v = (s.setVent v).setPending q := rfl

theorem State.setLight_setPending (s : State) (v : Lighting) (q : List Instr) :
    (s.setPending q).setLight v = (s.setLight v).setPending q := rfl

theorem State.setAir_setPending (s : State) (v : AirMonitor) (q : List Instr) :
    (s.setPending q).setAir v = (s.setAir v).setPending q := rfl

theorem State.frameJoined_setPending (s : State) (q : List Instr) :
    (s.setPending q).frameJoined = s.frameJoined.setPending q := by
  have gap : (s.setPending q).enterGap = s.enterGap.setPending q := by
    simp only [State.enterGap, State.setPending_settings, State.setPending_bus]
    (repeat' split) <;> rfl
  simp only [State.frameJoined, gap, State.setPending_bus, State.setBus_setPending]
  split
  · cases s.bus.lineIdle <;> rfl
  · rfl

theorem State.join_setPending (s : State) (cls : TxClass) (content : FrameContent) (q : List Instr) :
    (s.setPending q).join cls content = (s.join cls content).setPending q :=
  State.frameJoined_setPending (s.setBus _) q

theorem State.queueAlert_setPending (s : State) (q : List Instr) :
    (s.setPending q).queueAlert = s.queueAlert.setPending q := by
  rw [State.queueAlert, State.queueAlert, State.join_setPending]
  exact (apply_ite (State.setPending · q) _ _ _).symm

theorem State.queueStatus_setPending (s : State) (q : List Instr) :
    (s.setPending q).queueStatus = s.queueStatus.setPending q := by
  rw [State.queueStatus, State.queueStatus, State.setBus_setPending, State.join_setPending]
  exact (apply_ite (State.setPending · q) _ _ _).symm

theorem State.tellSignificant_setPending (s : State) (q : List Instr) :
    (s.setPending q).tellSignificant = s.tellSignificant.setPending q := by
  rw [State.tellSignificant, State.tellSignificant, State.queueStatus_setPending, apply_ite (State.setPending · q)]
  simp only [State.setPending_bus]
  cases s.bus.spacingTimer <;> rfl

theorem State.rowsShown_setPending (s : State) (q : List Instr) :
    (s.setPending q).rowsEvaluated.formImages = s.rowsEvaluated.formImages.setPending q := by
  have rows : (s.setPending q).rowsEvaluated = s.rowsEvaluated.setPending q := by
    simp only [State.rowsEvaluated, apply_ite (State.setPending · q)]; rfl
  rw [rows]; rfl

theorem State.guidanceTold_setPending (s : State) (cause atCapture : Bool) (q : List Instr) :
    (s.setPending q).guidanceTold cause atCapture = (s.guidanceTold cause atCapture).setPending q := by
  simp only [State.guidanceTold, State.setGuide_setPending, State.rowsShown_setPending,
    State.tellSignificant_setPending, State.setPending_guide, apply_ite (State.setPending · q)]
  rfl

theorem State.allocate_setPending (s : State) (q : List Instr) :
    (s.setPending q).allocate = s.allocate.setPending q := by
  simp only [State.allocate, State.setVent_setPending, State.guidanceTold_setPending, State.setPending_vent,
    State.setPending_settings, State.setPending_inputs, State.setPending_station, apply_ite (State.setPending · q)]
  rfl

theorem State.recompute_setPending (s : State) (b : Bool) (q : List Instr) :
    (s.setPending q).recompute b = (s.recompute b).setPending q := by
  simp only [State.recompute, State.setVent_setPending, State.allocate_setPending, apply_ite (State.setPending · q)]
  rfl

theorem State.formForcing_setPending (s : State) (q : List Instr) :
    (s.setPending q).formForcing = s.formForcing.setPending q := by
  simp only [State.formForcing, State.setPending_light, show (s.setPending q).forcingHolds = s.forcingHolds from rfl]
  split <;> rfl

/-- An air sample neither reads nor changes the queue of commands. -/
theorem State.airSample_setPending (s : State) (q : List Instr) :
    (s.setPending q).airSample = s.airSample.setPending q := by
  simp only [State.airSample, State.airSettled, State.setAir_setPending, State.queueAlert_setPending,
    State.recompute_setPending, State.guidanceTold_setPending, State.formForcing_setPending, State.setPending_air,
    State.setPending_settings, apply_ite (State.setPending · q)]

/-! ### Bay reads -/

/-- A read whose bay was put out of service during it ends without its answer (R51). -/
theorem State.endRead_discarded (s : State) {r : BayRead} (h : r.discarded = true) (a : BayAnswer) :
    s.endRead r a = s.readAfter r.bay := by simp [State.endRead, h]

/-- Any other read ends with its answer, and the next bay is read (R51). -/
theorem State.endRead_answered (s : State) {r : BayRead} (h : r.discarded = false) (a : BayAnswer) :
    s.endRead r a = (s.bayAnswered r.bay a).readAfter r.bay := by simp [State.endRead, h]

/-! ### Frames -/

/-- A station that takes frames takes this one (R132). -/
theorem State.onFrame_taken (s t : State) (h : s.takesFrames = true) : s.onFrame t = t := by simp [State.onFrame, h]

/-- Any other discards it (R132, R138). -/
theorem State.onFrame_discarded (s t : State) (h : s.takesFrames = false) : s.onFrame t = s.frameDiscarded := by
  simp [State.onFrame, h]

/-! ### Guidance -/

/-- The closure state after the Guidance Unit has been told is the one its sources give (R91). -/
@[simp] theorem State.guidanceTold_closed (s : State) (c a : Bool) :
    (s.guidanceTold c a).guide.closed = s.closureHolds := by
  have shown (t : State) : t.rowsEvaluated.formImages.guide.closed = t.guide.closed := by
    simp only [State.formImages, State.rowsEvaluated, State.setGuide_guide]; split <;> rfl
  simp only [State.guidanceTold]
  (repeat' split) <;> simp [shown]

@[simp] theorem State.guidanceTold_serviceClose (s : State) (c a : Bool) :
    (s.guidanceTold c a).guide.serviceClose = s.guide.serviceClose := by
  have shown (t : State) : t.rowsEvaluated.formImages.guide.serviceClose = t.guide.serviceClose := by
    simp only [State.formImages, State.rowsEvaluated, State.setGuide_guide]; split <;> rfl
  simp only [State.guidanceTold]
  (repeat' split) <;> simp [shown]

/-! ### Choosing what to send -/

/-- A class chosen has a frame waiting (R152). -/
theorem chooseClass_nonEmpty {sel : Selection} {q : Queues} {k k' : Credits} {cls : TxClass}
    (h : chooseClass sel q k = some (cls, k')) : q.get cls ≠ [] := by
  have mem : ∀ c, c ∈ q.nonEmpty → q.get c ≠ [] := by
    intro c hc
    simpa [Queues.nonEmpty] using (List.mem_filter.mp hc).2
  cases sel with
  | strict =>
    simp only [chooseClass, Option.map_eq_some_iff, Prod.mk.injEq] at h
    obtain ⟨c, hc, rfl, -⟩ := h
    exact mem _ (List.mem_of_head? hc)
  | weighted =>
    simp only [chooseClass, Option.map_eq_some_iff, Prod.mk.injEq] at h
    obtain ⟨c, hc, rfl, -⟩ := h
    exact mem _ (List.mem_of_find?_eq_some hc)

/-- No class is chosen only when every queue is empty (R152). -/
theorem chooseClass_none {sel : Selection} {q : Queues} {k : Credits} (h : chooseClass sel q k = none) :
    q.nonEmpty = [] := by
  cases sel with
  | strict => simpa [chooseClass] using h
  | weighted =>
    simp only [chooseClass, Option.map_eq_none_iff] at h
    rcases hq : q.nonEmpty with _ | ⟨c, cs⟩
    · rfl
    · exfalso
      rw [hq] at h
      split at h
      · rw [List.find?_eq_none] at h
        have := h c (by simp)
        cases c <;> simp [Credits.get, Credits.full] at this
      · rename_i hz
        rw [List.find?_eq_none] at h
        refine hz (List.all_eq_true.mpr fun d hd => ?_)
        have := h d hd
        simp at this
        simp [this]

/-! ### Collisions -/

/-- After a collision the frame stays with one attempt more, and a class whose frames capture their content keeps no
other (R145, R146, R156). -/
@[simp] theorem retryHead_cons (cls : TxClass) (f : QueuedFrame) (rest : List QueuedFrame) :
    retryHead cls (f :: rest) =
      { f with attempts := f.attempts + 1 } :: (if cls.capturesContent then [] else rest) := rfl

/-! ### Service commands -/

/-- What no service command changes. -/
structure State.SameBasis (s t : State) : Prop where
  station : s.station = t.station
  settings : s.settings = t.settings
  startup : s.startup = t.startup
  inputs : s.inputs = t.inputs
  air : s.air = t.air
  peers : s.peers = t.peers
  pending : s.pending = t.pending

/-- Executing a command leaves the station state, the settings, the inputs, the Air Monitor, the Peer Table and the
queue of commands (R162, "Every one of them is DONE when its owner takes it"). -/
theorem executeCommand_sameBasis (code : Byte) (args : List Byte) (s : State) :
    (executeCommand code args s).state.SameBasis s := by
  unfold executeCommand
  (repeat' split) <;>
    simp only [queryZone, queryBays, queryPeers, queryCounters, setFanOverride, clearFanOverride, lockOutFan,
      unlockFan, clearFanFault, returnFan, reserveBay, releaseBay, setBayService, closeZone, openZone,
      setLightOverride, clearLightOverride, restartCommand, Executed.refuse, Executed.did] <;>
    (repeat' split) <;> constructor <;> simp

end Sys2Proof.Machine
end

