-- ==== Sys2Proof/Tests/Slice0.lean ====
section
/-! SUPPORT. Tests: what well-formedness refuses, the worked cases of the spec (every expected value is the spec's), and
for every statement with hypotheses a state and operands that meet them, clause by clause, at the ends of their
ranges. -/

namespace Sys2Proof.Tests
open Sys2Proof Sys2Proof.Machine

set_option Elab.async false

/-! ### Well-formedness refuses an operand outside its range -/

theorem test_wf_record_of_259_bytes : (Instr.settingsReadComplete (List.replicate 259 0#8)).WellFormed = false := by
  decide +kernel

theorem test_wf_head : [Instr.headAnswer 0 .ok 0, .headAnswer 7 .ok 0, .headAnswer 6 .ok 4096].map Instr.WellFormed =
    [false, false, false] := by decide

theorem test_wf_fan : [Instr.runConfirmActive 7, .runConfirmLost 0, .confirmTimerExpiry 7, .fallbackStartTimerExpiry 0,
    .lossTimerExpiry 7, .coastTimerExpiry 0].all (fun c => !c.WellFormed) = true := by decide

theorem test_wf_bay : [Instr.bayAnswer 65 .fault, .bayAnswer 0 .fault, .reservationExpiry 65].all
    (fun c => !c.WellFormed) = true := by decide

theorem test_wf_gate : [Instr.loopChange 5 .outer true, .loopChange 0 .inner true, .gateTimerExpiry 5].all
    (fun c => !c.WellFormed) = true := by decide

theorem test_wf_sign : [Instr.signRefreshTimerExpiry 5, .signRefreshTimerExpiry 0, .signAnswer []].all
    (fun c => !c.WellFormed) = true := by decide

theorem test_wf_light : [Instr.motionChange 5 true, .motionRepeatTimerExpiry 0, .channelHoldTimerExpiry 9,
    .dimTimerExpiry 0, .lightOverrideExpiry 9].all (fun c => !c.WellFormed) = true := by decide

theorem test_wf_rejects : [Instr.addressFilterReject 3#8 12#8, .lengthByteReject 48#8, .frameCheckFail 1#8 49#8 true].all
    (fun c => !c.WellFormed) = true := by decide

/-- The 48 argument bytes a COMMAND cannot carry beside its code. -/
def tooMany : List Byte := List.replicate 48 0#8

theorem test_wf_arguments : [Instr.setFanOverride 60 12 tooMany, .clearFanOverride 60 12 tooMany,
    .lockOutFan 60 12 tooMany, .unlockFan 60 12 tooMany, .clearFanFault 60 12 tooMany, .setBayService 60 12 tooMany,
    .reserveBay 60 12 tooMany, .releaseBay 60 12 tooMany, .closeZone 60 12 tooMany, .openZone 60 12 tooMany,
    .setLightOverride 60 12 tooMany, .clearLightOverride 60 12 tooMany, .queryZone 60 12 tooMany,
    .queryBays 60 12 tooMany, .queryPeers 60 12 tooMany, .queryCounters 60 12 tooMany, .restart 60 12 tooMany,
    .unknownCommand 60 12 5 tooMany, .unknownCommand 60 12 0x7F#8 []].all (fun c => !c.WellFormed) = true := by
  decide +kernel

/-- No row of the table gives bits, so no word spells a command. -/
theorem test_no_word_spells_a_command : decodeTableWord 16 0x1234 = none := by decide

/-! ### A small state: station 12 in LISTENING, with the records of the worked cases -/

/-- The state a run of commands leaves; the state itself where one stops. -/
def after (s : State) (cs : List Instr) : State :=
  match execAll cs s with
  | .next t => t
  | .fault _ => s
  | .refused _ => s

/-- Channel settings of the worked case of Part 6 for channel 3. -/
def channelThree : ChannelSettings :=
  { active := 100, idle := 20, sleep := true, dimMode := .slew, holdSeconds := 60, slew := 10 }

def headOne : HeadSettings := { number := 1, gas := .co, fullScale := 300, shift := 2, limit := 50 }
def headTwo : HeadSettings := { number := 2, gas := .no2, fullScale := 200, shift := 2, limit := 30 }
def neighbour11 : StaticSettings := { address := 11, level := 3, weight := 60, drive := none, entryChannels := 0#8 }
def neighbour14 : StaticSettings :=
  { address := 14, level := 4, weight := 100, drive := some { exit := 2, linkCost := 2 }, entryChannels := 0x0C#8 }
def gateOne : Machine.GateSettings := { number := 1, farSide := none, channels := 0x01#8 }
def gateTwo : Machine.GateSettings := { number := 2, farSide := some 14, channels := 0x0C#8 }
def signOne : SignSettings :=
  { number := 1, mode := .zone, cls := .standard, arrow0 := .left, arrow1 := .rampDown, arrow2 := .right, arrow3 := .back }
def signTwo : SignSettings := { signOne with number := 2, mode := .route }
def bayOf (n : Nat) : BaySettings := { number := n, cls := .standard, channel := 3, inService := true }

/-- Zone 12's settings where the worked cases give them, the defaults elsewhere. -/
def zoneSettings : Settings :=
  { Settings.unread with
    ownAddress := 12, levelNumber := 3, heads := [headOne, headTwo], fans := [1, 2, 3, 4]
    bays := [bayOf 15, bayOf 16, bayOf 17], gates := [gateOne, gateTwo], motion := [0x04#8, 0#8, 0#8, 0#8]
    statics := [neighbour11, neighbour14], signs := [signOne, signTwo] }

/-- A neighbour heard just now with this index, on an open zone. -/
def heardWith (i : Nat) (a : Advert) : Heard :=
  { airIndex := some i, alarm := some .watch, purge := some false, closed := some false
    adverts := some { standard := a, accessible := { cost := 15, free := 0, via := 0 }
                      charging := { cost := 15, free := 0, via := 0 } } }

def fanOf (n : Nat) (f : FanState) : Fan :=
  { number := n, state := f, confirm := none, fallbackStart := none, loss := none, coast := none }

def signAt (c : SignSettings) : Sign :=
  { settings := c, image := .blank, due := true, refresh := some 5000, misses := 0, faultMark := false
    lastStatus := none }

def channelAt (n : Nat) (c : ChannelSettings) : Channel :=
  { number := n, settings := c, state := .active, output := 100, hold := some 1000, dim := none, override := none }

/-- Zone 12 just before the air sample of the worked cases of Parts 1 and 2, here in LISTENING. -/
def zone : State :=
  { State.reset with
    station := .listening, settings := zoneSettings
    startup := { State.reset.startup with readTimer := none, listeningTimer := some 1000 }
    air :=
      { heads :=
          [{ settings := headOne, state := .valid, misses := 0, accumulator := some 768, subIndex := some 96 },
            { settings := headTwo, state := .valid, misses := 0, accumulator := some 384, subIndex := some 80 }]
        sampled :=
          [{ number := 1, state := .valid, subIndex := some 96 }, { number := 2, state := .valid, subIndex := some 80 }]
        ownIndex := some 96, level := .watch, holdTimer := none, roundTimer := some 1000, poll := none
        expiring := false }
    vent :=
      { floor := 25, demand := 70, commanded := 50, override := none
        fans := [fanOf 1 .stopped, fanOf 2 .stopped, fanOf 3 .running, fanOf 4 .running], runList := [3, 4]
        startQueue := [], dutyPointer := some 3, speed := 100, ventDegraded := false, ventLost := false }
    bays :=
      { bays :=
          [{ Bay.fresh (bayOf 15) with state := .free }, { Bay.fresh (bayOf 16) with state := .occupied },
            { Bay.fresh (bayOf 17) with state := .reserved, reservation := some (.remaining 740000) }]
        scanTimer := some 500, reading := none
        gates := [{ settings := gateOne, state := .clear, timer := none }, { settings := gateTwo, state := .clear, timer := none }]
        ring := { TrafficRing.empty with current := 9 }, ringTimer := some 10000 }
    peers :=
      { slots :=
          [some { Peer.ofStatic neighbour11 with
              age := 0, state := .fresh, heard := heardWith 130 { cost := 0, free := 14, via := 11 } },
            some { Peer.ofStatic neighbour14 with
              age := 1, state := .fresh, heard := heardWith 90 { cost := 1, free := 30, via := 15 } }] ++
          List.replicate 14 none
        sweepTimer := some 5000, sympathy := false }
    guide := { Guidance.afterReset with signs := [signAt signOne, signAt signTwo] }
    light :=
      { channels := [1, 2, 3, 4, 5, 6, 7, 8].map (fun n => channelAt n (if n = 3 then channelThree else .default))
        forcing := false, motionSets := zoneSettings.motion, repeatTimers := List.replicate 4 none }
    bus := { BusInterface.afterReset with assembler := .awaitMarker, periodTimer := some 5000, jitter := 12 } }

/-- The zone in NORMAL with its routes and images formed. -/
def open12 : State := after zone [.listeningTimerExpiry]

/-- The zone asked for a poll of this head. -/
def polling (n : Nat) : State := { zone with air := { zone.air with poll := some { head := n, window := 100 } } }

/-- The zone with these frames to send and its transmitter as given. -/
def sendingState (q : Queues) (t : Transmitter) : State :=
  { zone with bus := { zone.bus with queues := q, transmitter := t } }

def statusFrame : QueuedFrame := { content := .status, attempts := 0 }
def alertFrame : QueuedFrame := { content := .alert, attempts := 0 }
def reportFrame (restart : Bool) (attempts : Nat) : QueuedFrame :=
  { content := .report 60#8 [0x7F#8, 0#8] restart, attempts }

/-- The small state meets every soundness predicate. -/
theorem test_zone_counters_and_sending : zone.CountersSound ∧ zone.SendingSound := by decide +kernel
theorem test_zone_lighting_and_demand : zone.LightingSound ∧ zone.DemandSound := by decide +kernel
theorem test_zone_guidance_and_bays : zone.GuidanceSound ∧ zone.BaysSound := by decide +kernel
theorem test_zone_peers : zone.PeersSound := by decide +kernel
theorem test_zone_fans : zone.FansSound := by decide +kernel
theorem test_zone_air : zone.AirSound := by decide +kernel

theorem test_open12_is_sound : open12.station = .normal ∧ open12.GuidanceSound ∧ open12.SendingSound := by
  decide +kernel

/-! ### Reset and start-up (Part 10) -/

/-- From reset with nothing placed the read of the settings has its 100 ms, counted down by the clock. -/
theorem test_reset_waits_for_settings : step State.reset = .next State.reset.tick ∧
    State.reset.tick.startup.readTimer = some 99 := ⟨rfl, by decide +kernel⟩

/-- "A memory that does not answer ... fails", and the station enters FALLBACK with C at 70. -/
theorem test_late_read_is_fallback : (after State.reset [.settingsReadTimeout]).station = .fallback ∧
    (after State.reset [.settingsReadTimeout]).vent.commanded = 70 := by decide +kernel

/-- A reset during work holds the part, and its end leaves STARTING. -/
theorem test_line_reset : (after zone [.lineReset]).station = .heldInReset ∧
    (after zone [.lineReset, .resetEnd]).station = .starting := by decide +kernel

/-- Power-on reset and a fall of the supply. -/
theorem test_power : (after zone [.powerOnReset]).startup.powerOnTimer = some 20 ∧
    (after zone [.supplyFallsBelowRange, .resetEnd]).station = .heldInReset := by decide +kernel

/-- Bytes 2..257 of a record of station 12, in five parts, with what the worked case spoils left as operands. -/
def partA (tWarning : Half) : List Byte :=
  [0#8, 254#8, 12#8, 3#8, 5#8, 5#8, 0#8, 0#8, 60#8] ++ halfBytes tWarning ++ [0#8, 150#8, 10#8, 3#8] ++
    List.replicate 36 0#8 ++ [0x0F#8, 0#8, 40#8, 0#8, 120#8]
def partB (coast : Byte) : List Byte :=
  [5#8, 40#8, 0#8, 25#8, 60#8, 100#8, 50#8, 40#8, 10#8, 2#8, 0#8, 30#8, 20#8, coast, 4#8, 6#8] ++ List.replicate 32 0#8
def partC (far : Byte) : List Byte :=
  List.replicate 38 0#8 ++ [1#8, far, 4#8] ++ List.replicate 7 0#8
def partD (slot4 : Byte) : List Byte :=
  [11#8, 3#8, 60#8, 0#8, 0#8] ++ List.replicate 10 0#8 ++ [slot4, 4#8] ++ List.replicate 39 0#8
def partE : List Byte := (List.replicate 8 [100#8, 10#8, 0#8, 1#8, 0x2C#8, 5#8]).flatten

/-- The whole record. -/
def recordOf (tWarning : Half) (coast far slot4 : Byte) (crc : Half) : List Byte :=
  [0x4C#8, 0x18#8] ++ (partA tWarning ++ (partB coast ++ (partC far ++ (partD slot4 ++ partE)))) ++ halfBytes crc

/-- "Worked case: a record with five faults". -/
theorem test_five_faults :
    (fun (c : Corrected Settings) =>
      (c.corrections, c.value.tWarning, c.value.coastTime, c.value.statics.map StaticSettings.address))
      (settingsOfRecord (recordOf 1200#16 5#8 12#8 11#8 0#16)) = (5, 100, 10, [11]) := by decide +kernel

/-- The CRC of a record without faults, formed outside the model. -/
theorem test_record_crc : crc16 (partA 100#16 ++ (partB 30#8 ++ (partC 0#8 ++ (partD 0#8 ++ partE)))) = 0x6ACB#16 := by
  have a₁ : ((partA 100#16).take 28).foldl crcByte 0xFFFF#16 = 0xEB71#16 := by decide +kernel
  have a₂ : ((partA 100#16).drop 28).foldl crcByte 0xEB71#16 = 0x24E2#16 := by decide +kernel
  have a : (partA 100#16).foldl crcByte 0xFFFF#16 = 0x24E2#16 := by
    rw [← List.take_append_drop 28 (partA 100#16), List.foldl_append, a₁, a₂]
  have b : (partB 30#8).foldl crcByte 0x24E2#16 = 0xE2A4#16 := by decide +kernel
  have c : (partC 0#8).foldl crcByte 0xE2A4#16 = 0x8E4F#16 := by decide +kernel
  have d₁ : ((partD 0#8).take 28).foldl crcByte 0x8E4F#16 = 0x3F6B#16 := by decide +kernel
  have d₂ : ((partD 0#8).drop 28).foldl crcByte 0x3F6B#16 = 0x6156#16 := by decide +kernel
  have d : (partD 0#8).foldl crcByte 0x8E4F#16 = 0x6156#16 := by
    rw [← List.take_append_drop 28 (partD 0#8), List.foldl_append, d₁, d₂]
  have e : partE.foldl crcByte 0x6156#16 = 0x6ACB#16 := by decide +kernel
  simp only [crc16, List.foldl_append, a, b, c, d, e]

/-- That record passes the check. -/
def goodRecord : List Byte := recordOf 100#16 30#8 0#8 0#8 0x6ACB#16

theorem test_good_record_passes : recordPasses (goodRecord.take 260) = true := by
  have covered : ((goodRecord.take 260).drop 2).take 256 =
      partA 100#16 ++ (partB 30#8 ++ (partC 0#8 ++ (partD 0#8 ++ partE))) := by decide +kernel
  unfold recordPasses
  rw [covered, test_record_crc]
  decide +kernel

/-- A memory that answers with fewer bytes, or with a bad signature, fails. -/
theorem test_bad_records : (after State.reset [.settingsReadComplete (goodRecord.take 259)]).station = .fallback ∧
    (after State.reset [.settingsReadComplete (goodRecord.set 0 0x4D#8)]).station = .fallback := by decide +kernel

theorem test_listening_ends : open12.station = .normal ∧ open12.startup.listeningTimer = none := by decide +kernel

/-- RESTART to 63 is taken at once and answered with no REPORT. -/
theorem test_restart_to_all : (after zone [.restart 60#8 63#8 []]).station = .starting := by decide +kernel

/-! ### Air (Part 1) -/

/-- "Worked case: two heads at one air sample". -/
theorem test_two_heads :
    (after zone [.pollRoundStart, .headAnswer 1 .ok 820, .headAnswer 2 .ok 512]).air.heads.map
      (fun h => (h.accumulator, h.subIndex)) = [(some 816, some 102), (some 388, some 80)] ∧
    (after zone [.pollRoundStart, .headAnswer 1 .ok 820, .headAnswer 2 .ok 512]).air.level = .warning ∧
    (after zone [.pollRoundStart, .headAnswer 1 .ok 820, .headAnswer 2 .ok 512]).bus.queues.alert = [alertFrame] := by
  decide +kernel

/-- The rounding table of R10, and 967 falling to 966. -/
theorem test_filter_rounding :
    [956, 957, 958, 959, 960, 967].map (fun a => nextAccumulator 2 60 (some a)) = [957, 958, 959, 960, 960, 966] := by
  decide

/-- Three missed polls put a head in FAULT, and each counts HEAD_MISS. -/
theorem test_missed_poll : (after (polling 1) [.headAnswerWindowExpiry]).counters.headMiss.count = 1 ∧
    (after (polling 1) [.headAnswerWindowExpiry]).air.poll = some { head := 2, window := 100 } := by decide +kernel

/-- R13: until the air sample closes, the other blocks read the head states and the index of the last sample. -/
theorem test_head_states_are_of_the_sample :
    (fun (t : State) => (t.air.sampled.map SampledHead.state, t.air.ownIndex))
      (after zone [.pollRoundStart, .headAnswer 1 .warmup 0]) = ([.valid, .valid], some 96) ∧
    (fun (t : State) => (t.air.sampled.map SampledHead.state, t.air.ownIndex))
      (after zone [.pollRoundStart, .headAnswer 1 .warmup 0, .headAnswer 2 .ok 512]) = ([.warmup, .valid], some 80) := by
  decide +kernel

/-- The settings of "Worked case: an alarm rising and clearing": hold code 1. -/
def holdOne : Settings := { Settings.unread with holdCode := 1 }

/-- Rows t = 0, 40, 50, 90, 120 and 130 of that case. -/
theorem test_alarm_rows :
    holdOne.alarmStep (some 155) .watch none = (.alarm, none) ∧ holdOne.alarmStep (some 138) .alarm none = (.alarm, some 0) ∧
    holdOne.alarmStep (some 141) .alarm (some 9) = (.alarm, none) ∧
    holdOne.alarmStep (some 88) .alarm (some 29) = (.warning, some 0) ∧
    holdOne.alarmStep (some 70) .warning (some 29) = (.watch, none) ∧
    holdOne.alarmStep none .watch (some 4) = (.watch, none) := by decide

/-- A state at ALARM whose hold of 30 s is about to end with an index of 88 at its sample. -/
def holding : State :=
  { zone with
    settings := { zoneSettings with holdCode := 1 }
    air := { zone.air with
      heads := [{ settings := headOne, state := .valid, misses := 0, accumulator := some 704, subIndex := some 88 }]
      sampled := [{ number := 1, state := .valid, subIndex := some 88 }]
      level := .alarm, ownIndex := some 88, holdTimer := some 29 }
    light := { zone.light with
      forcing := true
      channels := zone.light.channels.map (fun c => { c with state := .forced, output := 100, hold := none }) } }

/-- Its next round polled to the end, with the expiry of the hold timer as the very next command. -/
def roundEnding : State :=
  after { holding with pending := [.alarmHoldTimerExpiry] } [.pollRoundStart, .headAnswerWindowExpiry]

/-- The row t = 90, at once in the command that ends the round, and the same where the expiry is the next command. -/
theorem test_hold_expiry :
    ([after holding [.pollRoundStart, .headAnswerWindowExpiry], after roundEnding [.alarmHoldTimerExpiry]].map
      (fun (t : State) => (t.air.level, t.air.holdTimer, t.bus.queues.alert, t.air.expiring))) =
      [(.warning, some 0, [alertFrame], false), (.warning, some 0, [alertFrame], false)] := by decide +kernel

theorem test_round_ending_is_sound : roundEnding.AirSound := by decide +kernel

/-- R2: a round has one sample; between rounds and inside one there is none, and one still due would come before the
next round. -/
theorem test_one_sample_a_round :
    (after holding [.alarmHoldTimerExpiry, .pollRoundStart, .alarmHoldTimerExpiry]).air.level = .alarm ∧
    (fun (t : State) => (t.air.level, t.air.holdTimer, t.air.poll, t.air.expiring))
      (after roundEnding [.pollRoundStart]) = (.warning, some 0, some { head := 1, window := 100 }, false) := by
  decide +kernel

/-! ### Ventilation (Part 2) -/

/-- "Worked case: demand at one air sample" and row 0 of "fans through a rise, a fall and a fault". -/
theorem test_demand_at_the_sample :
    (fun (v : Ventilation) => (v.floor, v.demand, v.commanded, v.runList, v.speed))
      (after zone [.pollRoundStart, .headAnswer 1 .ok 820, .headAnswer 2 .ok 512]).vent =
      (60, 78, 60, [3, 4, 1], 80) := by decide +kernel

/-- The fans at t = 2 of that case: fan 1 STARTING, fan 2 QUEUED, C at 78. -/
def rising : State :=
  { zone with vent := { zone.vent with
      commanded := 78, demand := 78, runList := [3, 4, 1], startQueue := [2]
      fans := [{ fanOf 1 .starting with confirm := some 18000 }, fanOf 2 .queued, fanOf 3 .running, fanOf 4 .running] } }

/-- Row t = 6: fan 1 confirms, fan 2 is started, s is 78. -/
theorem test_fan_confirms :
    (fun (v : Ventilation) => (v.runList, v.startQueue, v.fans.map Fan.state, v.speed))
      (after rising [.runConfirmActive 1]).vent =
      ([3, 4, 1, 2], [], [.running, .starting, .running, .running], 78) := by decide +kernel

theorem test_confirm_timeout : ((after rising [.confirmTimerExpiry 1]).vent.fan? 1).map Fan.state = some .fault := by
  decide +kernel

/-- The fans at v = 0: fan 4's run-confirm has gone, C is 55. -/
def losing : State :=
  { zone with vent := { zone.vent with
      commanded := 55, demand := 55, floor := 25, runList := [3, 4, 1]
      fans := [fanOf 1 .running, fanOf 2 .stopped, fanOf 3 .running, { fanOf 4 .running with loss := some 1 }] } }

/-- Row v = 2: fan 4 to FAULT, run list 3 and 1, s 83, VENT_DEGRADED set. -/
theorem test_loss_expires :
    (fun (v : Ventilation) => (v.runList, v.fans.map Fan.state, v.speed, v.ventDegraded))
      (after losing [.lossTimerExpiry 4]).vent =
      ([3, 1], [.running, .stopped, .running, .fault], 83, true) := by decide +kernel

/-- The repair: CLEAR FAN FAULT makes fan 4 STOPPING, and fan 2 is started; s is 74. -/
theorem test_clear_fan_fault :
    (fun (v : Ventilation) => (v.runList, v.fans.map Fan.state, v.speed, v.ventDegraded))
      (after losing [.lossTimerExpiry 4, .clearFanFault 60#8 12#8 [4#8]]).vent =
      ([3, 1, 2], [.running, .starting, .running, .stopping], 74, false) := by decide +kernel

/-- The override stands for P and T, but C waits for the air samples. -/
theorem test_fan_override :
    (fun (v : Ventilation) => (v.demand, v.commanded)) (after zone [.setFanOverride 60#8 12#8 [90#8, 5#8]]).vent = (90, 50) ∧
    (after zone [.setFanOverride 60#8 12#8 [90#8, 5#8], .fanOverrideExpiry]).vent.override = none := by decide +kernel

/-- A value above 100 is refused. -/
theorem test_fan_override_refused :
    ((after zone [.setFanOverride 60#8 12#8 [101#8, 5#8]]).bus.queues.report.map QueuedFrame.content) =
      [.report 60#8 [0x10#8, 2#8] false] := by decide +kernel

theorem test_lock_and_unlock :
    ((after zone [.lockOutFan 60#8 12#8 [3#8]]).vent.fan? 3).map Fan.state = some .lockedOut ∧
    ((after zone [.lockOutFan 60#8 12#8 [3#8], .idleEvent, .unlockFan 60#8 12#8 [3#8]]).vent.fan? 3).map Fan.state =
      some .stopping := by decide +kernel

/-- Purge raises the floor and C to 100 within the event, closes the zone and forces the channels. -/
theorem test_purge :
    (fun (t : State) => (t.vent.floor, t.vent.commanded, t.guide.closed, t.light.channels.map Channel.output))
      (after zone [.purgeFilterChange true]) = (100, 100, true, List.replicate 8 100) := by decide +kernel

/-- R20, R146: a new ALERT waits behind one on the line, and one that waits already stands for it. -/
theorem test_purge_alert :
    (after (sendingState { Queues.empty with alert := [alertFrame] } (.sending .alert [])) [.purgeFilterChange true]).bus.queues.alert =
      [alertFrame, alertFrame] ∧
    (after (sendingState { Queues.empty with alert := [alertFrame] } .waitingIdle) [.purgeFilterChange true]).bus.queues.alert =
      [alertFrame] := by decide +kernel

/-! ### Bays and gates (Part 3) -/

/-- The body of "bays 15 to 19" with bays 18 and 19 not configured here: RESERVED with 13 minutes to show. -/
theorem test_query_bays :
    (after zone [.queryBays 60#8 12#8 [15#8, 5#8]]).bus.queues.report.map QueuedFrame.content =
      [.report 60#8 [0x02#8, 0#8, 15#8, 5#8, 0x20#8, 0x30#8, 0x40#8, 13#8, 0#8, 0#8] false] := by decide +kernel

/-- A bay reserved for 15 minutes, and released. -/
theorem test_reserve_and_release :
    ((after zone [.reserveBay 60#8 12#8 [15#8, 15#8]]).bays.bay? 15).map Bay.reservation =
      some (some (.remaining 900000)) ∧
    ((after zone [.releaseBay 60#8 12#8 [17#8]]).bays.bay? 17).map Bay.state = some .free := by decide +kernel

/-- Bay 16 under its read, five ABSENT answers counted. -/
def readingSixteen (discarded : Bool) : State :=
  { zone with bays := { zone.bays with
      reading := some { bay := 16, window := 4, discarded }
      bays := zone.bays.bays.map (fun b => if b.settings.number = 16 then { b with offCount := 5 } else b) } }

/-- The sixth ABSENT answer in a row takes an OCCUPIED bay to FREE and brings up its channel. -/
theorem test_sixth_absent :
    (fun (t : State) => (t.bays.bays.map Bay.state, t.bays.reading))
      (after (readingSixteen false) [.bayAnswer 16 .absent]) =
      ([.free, .free, .reserved], some { bay := 17, window := 4, discarded := false }) := by decide +kernel

/-- R51: an answer in another bay's name is a FAULT answer for the bay read; the answer of a bay put out and back in
service during its read is discarded. In both cases bay 17 is read next. -/
theorem test_bay_answers_not_counted :
    (fun (t : State) => (t.bays.bays.map Bay.state, t.bays.bays.map Bay.faultCount, t.bays.reading.map BayRead.bay))
      (after (readingSixteen false) [.bayAnswer 17 .absent]) = ([.free, .occupied, .reserved], [0, 1, 0], some 17) ∧
    (fun (t : State) => ((t.bays.bay? 16).map Bay.state, (t.bays.bay? 16).map Bay.onCount, t.bays.reading.map BayRead.bay))
      (after (readingSixteen false) [.setBayService 60#8 12#8 [16#8, 0#8], .idleEvent,
        .setBayService 60#8 12#8 [16#8, 1#8], .bayAnswer 16 .present]) = (some .unknown, some 0, some 17) := by
  decide +kernel

/-- "Worked case: one gate through a hesitant exit": one passage OUT, one PASSAGE naming 14, the count at 10. -/
theorem test_hesitant_exit :
    (fun (t : State) => (t.bays.gates.map Gate.state, t.bays.ring.total, t.bus.queues.passage.map QueuedFrame.content))
      (after zone [.loopChange 2 .inner true, .loopChange 2 .outer true, .loopChange 2 .outer false,
        .loopChange 2 .outer true, .loopChange 2 .inner false, .loopChange 2 .outer false]) =
      ([.clear, .clear], 10, [.passage 14#8]) := by decide +kernel

/-- The stopped car of the same case: BLOCKED, GATE_STUCK once, and CLEAR again with no passage. -/
theorem test_stopped_car :
    (fun (t : State) => (t.bays.gates.map Gate.state, t.bays.ring.total, t.counters.gateStuck.count))
      (after zone [.loopChange 1 .outer true, .gateTimerExpiry 1, .loopChange 1 .outer false]) =
      ([.clear, .clear], 9, 1) := by decide +kernel

/-- The ring drops its oldest bucket. -/
theorem test_ring : (after { zone with bays := { zone.bays with ring :=
      { oldest := 2, second := 1, third := 0, fourth := 3, fifth := 4, current := 5 } } }
    [.trafficRingRotation]).bays.ring = { oldest := 1, second := 0, third := 3, fourth := 4, fifth := 5, current := 0 } := by
  decide +kernel

/-! ### The Peer Table (Part 4) -/

/-- A learned entry of the worked case of a full table. -/
def learnedAt (a age : Nat) : Option Peer :=
  some { address := a, origin := .learned, level := none, age, state := if age < 2 then .fresh else .stale
         heard := .absent }

/-- Station 12's full table, the six static entries SILENT. -/
def fullTable : State :=
  { zone with peers := { zone.peers with
      slots := [11, 14, 13, 10, 15, 16].map (fun a => some (Peer.ofStatic { neighbour11 with address := a })) ++
      [learnedAt 20 0, learnedAt 22 1, learnedAt 23 2, learnedAt 25 0, learnedAt 30 2, learnedAt 31 1, learnedAt 33 0,
        learnedAt 35 0, learnedAt 37 1, learnedAt 38 0] } }

/-- The learned slots after the ALERT from 42 and the PASSAGE from 43 of that case. -/
theorem test_full_table :
    (after fullTable [.alertReceived 42#8 { alarm := 1#8, index := 50#16, flags := 0#8 },
        .idleEvent, .passageReceived 43#8 14#8]).peers.slots.map (fun p => (p.map Peer.address).getD 0) =
      [11, 14, 13, 10, 15, 16, 20, 22, 42, 25, 43, 31, 33, 35, 37, 38] := by decide +kernel

/-- Its last row: with every learned entry at age 0 a newcomer is counted in PEER_REJECT. -/
theorem test_no_victim :
    (after { fullTable with peers := { fullTable.peers with
        slots := (List.range 16).map (fun n => learnedAt (n + 20) 0) } }
      [.alertReceived 45#8 { alarm := 3#8, index := 160#16, flags := 0#8 }]).counters.peerReject.count = 1 := by
  decide +kernel

/-- A sweep: age 2 to 3 stays STALE; a learned entry of age 3 is removed. -/
theorem test_sweep :
    (after { fullTable with peers := { fullTable.peers with
        slots := [learnedAt 20 2, learnedAt 22 3] ++ List.replicate 14 none } } [.sweep]).peers.slots.map
      (fun p => p.map Peer.age) = some 3 :: List.replicate 15 none := by decide +kernel

/-- The STATUS station 12 hears from 14. -/
def statusOf14 : StatusPayload :=
  { level := 3#8, alarm := 3#8, index := 155#16, flags := 0#8, demand := 100#8, commanded := 100#8
    standard := { cost := 15#8, free := 0#16, via := 0#8 }, accessible := { cost := 15#8, free := 0#16, via := 0#8 }
    charging := { cost := 15#8, free := 0#16, via := 0#8 } }

/-- A bulletin renews its static entry, which keeps the level number of its settings. -/
theorem test_status_from_neighbour :
    ((after zone [.statusReceived 14#8 statusOf14]).peers.entry? 14).map (fun p => (p.level, p.age, p.heard.airIndex)) =
      some (some 4, 0, some 155) := by decide +kernel

/-- R132, R138: before the next idle event a frame is not received, as after a collision. -/
theorem test_frame_before_the_idle_event :
    (fun (t : State) => (t.counters.rxGood.count, (t.peers.entry? 14).map Peer.age, t.bus.assembler))
      (after { zone with bus := { zone.bus with assembler := .awaitIdle, transmitter := .backoff } }
        [.statusReceived 14#8 statusOf14]) = (0, some 1, .awaitIdle) := by decide +kernel

/-! ### Routes and signs (Part 5) -/

/-- Station 11 of "Worked case: a route through the neighbours", in WARNING, without free STANDARD bays. -/
def station11 : State :=
  { zone with
    settings := { zoneSettings with ownAddress := 11 }
    air := { zone.air with level := .warning }, bays := .afterReset
    peers := { zone.peers with
      slots := [some { Peer.ofStatic { neighbour14 with address := 12, drive := some { exit := 1, linkCost := 1 } } with
          age := 0, state := .fresh, heard := heardWith 102 { cost := 0, free := 14, via := 12 } },
        some { Peer.ofStatic neighbour14 with
          age := 0, state := .fresh, heard := heardWith 90 { cost := 1, free := 30, via := 15 } }] } }

theorem test_route_through_neighbours :
    station11.evaluateRow .standard = { cost := 4, free := 14, via := 12, exit := .by 1 } := by decide +kernel

/-- The table under R104. -/
theorem test_sign_digits : SignImage.ofCount 7 none =
      { display := .count, hundreds := none, tens := none, units := some 7, arrow := none } ∧
    SignImage.ofCount 32 none =
      { display := .count, hundreds := none, tens := some 3, units := some 2, arrow := none } ∧
    SignImage.ofCount 14 (some .rampDown) =
      { display := .count, hundreds := none, tens := some 1, units := some 4, arrow := some .rampDown } := by decide

/-- The SIGN frame of station 11's sign 1, COUNT, blank, 3, 0, RIGHT, before its CRC. -/
theorem test_sign_frame : (signFrameBytes 1
    { display := .count, hundreds := none, tens := some 3, units := some 0, arrow := some .right }).take 7 =
      [0x5A#8, 1#8, 1#8, 0x0F#8, 3#8, 0#8, 3#8] := by decide +kernel

/-- The zone with its exchange with sign 1 in the answer window. -/
def addressed : State :=
  { zone with guide := { zone.guide with exchange := some { Exchange.begin 1 .blank with window := 50 } } }

/-- An exchange begins with the first due sign, and its answer in the window clears it. -/
theorem test_sign_exchange :
    ((after zone [.signExchangeStart]).guide.exchange).map Exchange.sign = some 1 ∧
    ((after addressed [.signAnswer (signAnswerCharacters 1 .defect)]).guide.signs.map Sign.lastStatus) =
      [some .defect, none] ∧
    (after zone [.signExchangeStart, .signAnswerWindowExpiry]).counters.signMiss.count = 1 := by decide +kernel

/-- R108, R144: what comes while the SIGN frame is still sent is discarded. -/
theorem test_sign_answer_before_its_window :
    ((after zone [.signExchangeStart, .signAnswer (signAnswerCharacters 1 .defect)]).guide.signs.map Sign.lastStatus) =
      [none, none] ∧
    ((after zone [.signExchangeStart, .signAnswer [⟨7#8, .good⟩]]).guide.exchange).map Exchange.received = some [] := by
  decide +kernel

/-- R62: FREE green, OCCUPIED red, RESERVED blue, a number not configured off; red in a closed zone. -/
theorem test_lamps : [15, 16, 17, 18].map zone.lamp = [.green, .red, .blue, .off] ∧
    [15, 16, 17, 18].map (after zone [.purgeFilterChange true]).lamp = [.red, .red, .red, .off] := by decide +kernel

/-- CLOSE ZONE and OPEN ZONE. -/
theorem test_close_and_open :
    (after open12 [.closeZone 60#8 12#8 []]).guide.signs.map (fun g => g.image.display) = [.closed, .closed] ∧
    (after open12 [.closeZone 60#8 12#8 [], .idleEvent, .openZone 60#8 12#8 []]).guide.closed = false := by decide +kernel

/-- Station 12's own free bay first: cost 0, one free, exit HERE. -/
theorem test_own_bay_first : open12.guide.rows.standard = { cost := 0, free := 1, via := 12, exit := .here } := by
  decide +kernel

theorem test_fallback_signs :
    ((after State.reset [.settingsReadTimeout, .fallbackSignTimerExpiry]).guide.exchange).map Exchange.sign = some 1 := by
  decide +kernel

theorem test_refresh_makes_due : ((after { zone with guide := { zone.guide with signs :=
    [{ signAt signOne with due := false }] } } [.signRefreshTimerExpiry 1]).guide.signs.map Sign.due) = [true] := by
  decide +kernel

/-! ### Lighting (Part 6) -/

/-- Channel 3 of "Worked case: two channels through an evening", half dimmed at 63.4. -/
def dimmed : State :=
  { zone with light := { zone.light with
      channels := [{ channelAt 3 channelThree with state := .dimming, output := 70, hold := none, dim := some 600 }] } }

/-- Times 60 to 61 and 63.4: the hold ends in DIMMING, a step takes 10, an event brings 100 back for 60 s. -/
theorem test_channel_three :
    ((after zone [.channelHoldTimerExpiry 3, .dimTimerExpiry 3]).light.channels.filter (fun c => c.number = 3)).map
      (fun c => (c.state, c.output)) = [(.dimming, 90)] ∧
    ((after dimmed [.motionChange 1 true]).light.channels).map (fun c => (c.state, c.output, c.hold)) =
      [(.active, 100, some 60000)] := by decide +kernel

/-- "Eight steps ... and reaches its idle level". -/
theorem test_eight_dim_steps :
    (Channel.dimExpires^[8] { channelAt 3 channelThree with state := .dimming, hold := none, dim := some 1000 }).state =
      .idle ∧
    (Channel.dimExpires^[7] { channelAt 3 channelThree with state := .dimming, hold := none, dim := some 1000 }).output =
      30 := by decide +kernel

/-- Level 40 for 10 minutes on channel 3, ended by its expiry and by CLEAR LIGHT OVERRIDE. -/
theorem test_light_override :
    ((after dimmed [.setLightOverride 60#8 12#8 [3#8, 40#8, 10#8]]).light.channels).map
      (fun c => (c.state, c.output)) = [(.overridden, 40)] ∧
    ((after dimmed [.setLightOverride 60#8 12#8 [3#8, 40#8, 10#8], .lightOverrideExpiry 3]).light.channels).map
      Channel.output = [100] ∧
    ((after dimmed [.setLightOverride 60#8 12#8 [0#8, 40#8, 0#8], .idleEvent, .clearLightOverride 60#8 12#8 [0#8]]).light.channels).map
      Channel.state = [.active] := by decide +kernel

theorem test_motion_repeat :
    (after dimmed [.motionChange 1 true, .motionRepeatTimerExpiry 1]).light.repeatTimers =
      [some 5000, none, none, none] := by decide +kernel

/-! ### Receiving (Part 7) -/

/-- "Over the nine bytes 31H to 39H ... this CRC is 29B1H". -/
theorem test_crc_check_value :
    crc16 [0x31#8, 0x32#8, 0x33#8, 0x34#8, 0x35#8, 0x36#8, 0x37#8, 0x38#8, 0x39#8] = 0x29B1#16 := by decide +kernel

/-- R130: a SPACE stop bit is a framing error whatever the parity bit; a wrong parity bit alone is a parity error; a
start that is MARK again at its middle is no character. -/
theorem test_character_verdicts :
    (SampleReceiver.run (.hunting .mark) (samplesOf ((characterBits 0xC5#8).take 9 ++ [.space, .space]))).2 =
      [{ byte := 0xC5#8, verdict := .bad .framing }] ∧
    (SampleReceiver.run (.hunting .mark) (samplesOf ((characterBits 0xC5#8).take 9 ++ [.mark, .mark]))).2 =
      [{ byte := 0xC5#8, verdict := .bad .parity }] ∧
    (SampleReceiver.run (.hunting .mark) (List.replicate 8 .space ++ [.mark])).2 = [] := by decide +kernel

/-- "CLOSE ZONE" to 63 byte by byte, after an idle event. -/
theorem test_close_zone_frame :
    (after open12 ([Instr.idleEvent] ++ (frameBytes 4#8 60#8 63#8 [0x30#8]).map Instr.goodCharacter)).guide.closed =
      true := by decide +kernel

/-- The COMMAND to 20, the spoiled ALERT and the STATUS that stops short, of "a minute of listening". -/
theorem test_listening_minute :
    ((after zone ([0xC5#8, 4#8, 60#8, 20#8].map Instr.goodCharacter)).counters.rxForeign.count,
      (after zone ([0xC5#8, 2#8, 11#8].map Instr.goodCharacter ++ [.badCharacter .parity])).counters.rxParity.count,
      (after zone ([0xC5#8, 1#8, 16#8].map Instr.goodCharacter ++ [.idleEvent])).counters.rxLength.count) = (1, 1, 1) := by
  decide +kernel

/-- The rejects as commands of their own. -/
theorem test_rejects :
    ((after zone [.addressFilterReject 5#8 60#8]).counters.rxForeign.count,
      (after zone [.lengthByteReject 49#8]).counters.rxLength.count,
      (after zone [.frameCheckFail 3#8 1#8 false]).counters.rxCrc.count) = (1, 1, 1) := by decide +kernel

/-! ### Sending (Part 8) -/

/-- "Assume station 12 is in its first gap after reset ... the gap is 22 + 6 = 28 bit times", position 13. -/
theorem test_first_gap :
    (fun (b : BusInterface) => (b.transmitter, b.jitter))
      (after (sendingState { Queues.empty with status := [statusFrame] } .waitingIdle) [.idleEvent]).bus =
      (.gap .status 28, 13) := by decide +kernel

/-- A SPACE in the gap sends the transmitter back to wait. -/
theorem test_busy_gap :
    (after (sendingState { Queues.empty with status := [statusFrame] } (.gap .status 28)) [.lineBusyInGap]).bus.transmitter =
      .waitingIdle ∧
    (after (sendingState { Queues.empty with status := [statusFrame] } (.gap .status 28)) [.startOfCharacter]).bus.transmitter =
      .waitingIdle := by decide +kernel

/-- A STATUS on the line by the table under R139: level 3, WATCH, index 96, no flag, D 70, C 50. -/
theorem test_status_on_the_line :
    (match (after (sendingState { Queues.empty with status := [statusFrame] } (.gap .status 28)) [.gapCountedOut]).bus.transmitter with
      | .sending _ bytes => bytes.take 12
      | _ => []) = [0xC5#8, 1#8, 12#8, 63#8, 19#8, 3#8, 1#8, 0#8, 96#8, 0#8, 70#8, 50#8] := by decide +kernel

/-- A collision is counted and the frame stays with one attempt more; the eighth drops it. -/
theorem test_collisions :
    (after (sendingState { Queues.empty with report := [reportFrame false 0] } (.sending .report [])) [.collision]).bus.queues.report =
      [reportFrame false 1] ∧
    (after (sendingState { Queues.empty with report := [reportFrame false 7] } (.sending .report [])) [.collision]).counters.txDrop.count =
      1 := by decide +kernel

/-- R146: the collided ALERT absorbs the newer one behind it. -/
theorem test_collided_alert_absorbs :
    (after (sendingState { Queues.empty with alert := [alertFrame, alertFrame] } (.sending .alert [])) [.collision]).bus.queues.alert =
      [{ content := .alert, attempts := 1 }] := by decide +kernel

/-- TX_COMPLETE ends a restart's wait. -/
theorem test_restart_after_report :
    (after (sendingState { Queues.empty with report := [reportFrame true 0] } (.sending .report [])) [.txComplete]).station =
      .starting := by decide +kernel

/-- The start of "weighted selection in a discharge": class 1 first, then on spent credits class 2. -/
theorem test_weighted :
    (chooseClass .weighted { Queues.empty with passage := [statusFrame], status := [statusFrame] }
      { alert := 8, passage := 4, status := 2, report := 1 }).map Prod.fst = some .passage ∧
    (chooseClass .weighted { Queues.empty with passage := [statusFrame], status := [statusFrame] }
      { alert := 8, passage := 0, status := 2, report := 1 }).map Prod.fst = some .status := by decide

theorem test_status_timers : (after zone [.statusPeriodTimerExpiry]).bus.queues.status = [statusFrame] ∧
    (after { zone with bus := { zone.bus with spacingTimer := some 1, owed := true } } [.spacingTimerExpiry]).bus.queues.status =
      [statusFrame] := by decide +kernel

/-! ### Service (Part 9) -/

/-- An unknown code is answered UNKNOWN_COMMAND, and QUERY COUNTERS clears after it has read. -/
theorem test_service_answers :
    (after zone [.unknownCommand 60#8 12#8 0x55#8 []]).bus.queues.report.map QueuedFrame.content =
      [.report 60#8 [0x55#8, 3#8] false] ∧
    (after zone [.queryCounters 60#8 12#8 [1#8]]).counters = .zero := by decide +kernel

/-- Zone and peer queries have the payload lengths the spec counts: 36, 47 and 43 bytes. -/
theorem test_query_lengths :
    ([Instr.queryZone 60#8 12#8 [1#8], .queryZone 60#8 12#8 [2#8], .queryPeers 60#8 12#8 [1#8]].map (fun c =>
      (after zone [c]).bus.queues.report.map (fun f => match f.content with
        | .report _ payload _ => payload.length
        | _ => 0))) = [[36], [47], [43]] := by decide +kernel

/-- A bay taken out of service. -/
theorem test_bay_service : ((after zone [.setBayService 60#8 12#8 [15#8, 0#8]]).bays.bay? 15).map Bay.state =
    some .outOfService := by decide +kernel

/-! ### States and operands that meet the statements' hypotheses -/

/-- The zone at a power-on reset, in FALLBACK, and at the end of the read's time. -/
def held : State := after zone [.powerOnReset]
def fallback : State := after State.reset [.settingsReadTimeout]
def listening : State := after fallback [.idleEvent]
def late : State := { State.reset with startup := { State.reset.startup with readTimer := some 0 } }

/-- The zone with these fans. -/
def withFans (commanded : Nat) (fans : List Fan) (run : List Nat) : State :=
  { zone with vent := { zone.vent with commanded, fans, runList := run } }

/-- The zone with one head still WARMUP, and with none. -/
def warming : State :=
  { polling 1 with air := { (polling 1).air with
      heads := [{ settings := headOne, state := .warmup, misses := 2, accumulator := none, subIndex := none }] } }
def headless : State := { zone with air := { zone.air with heads := [] } }

/-- The zone reading this bay, with bay 15 in this record. -/
def readingBay (b : Bay) : State :=
  { zone with bays := { zone.bays with reading := some { bay := 15, window := 4, discarded := false }, bays := [b] } }

/-- The zone with gate 2 in this state, its OUTER loop on. -/
def gateIn (g : GateState) (timer : Timer) : State :=
  { zone with
    inputs := { zone.inputs with outerLoops := zone.inputs.outerLoops.set 1 { line := true, filtered := true, steadyMs := 0 } }
    bays := { zone.bays with gates := [{ settings := gateTwo, state := g, timer }] } }

/-- The zone with this many frames in its PASSAGE and its REPORT queue. -/
def withQueues (passages reports : Nat) : State :=
  sendingState { Queues.empty with
    passage := List.replicate passages { content := .passage 14#8, attempts := 0 }
    report := List.replicate reports (reportFrame false 0) } .waitingIdle

/-- The zone with an exchange with sign 4 in progress, these characters received. -/
def exchanging (received : List RxChar) : Exchange := { sign := 4, frame := [], window := 1, received }
def onTheLink (s : State) : State := { s with guide := { s.guide with exchange := some (exchanging []) } }

/-- The zone sending this REPORT. -/
def reporting (restart : Bool) (attempts : Nat) : State :=
  sendingState { Queues.empty with report := [reportFrame restart attempts] } (.sending .report [])

/-- The zone with one channel, and with the other selection. -/
def oneChannel (c : Channel) : State := { zone with light := { zone.light with channels := [c] } }

theorem test_meets_StepTakesTheFrontCommand : (State.reset.pending = [] ∧ State.reset.dueCommands = []) ∧
    (late.pending = [] ∧ late.dueCommands = [.settingsReadTimeout]) := by decide +kernel

theorem test_meets_ResetsHoldThePart : (held.station = .heldInReset ∧ held.startup.supplyInRange = true) ∧
    (after zone [.supplyFallsBelowRange]).startup.supplyInRange = false := by decide +kernel

theorem test_meets_RestartIsTakenAtOnceOrAfterItsReport : (zone.takesFrames = true ∧ zone.settings.ownAddress ≤ 62) ∧
    (listening.takesFrames = true ∧ listening.settings.ownAddress ≤ 62) ∧ zone.grants 1#8 12#8 = true ∧
    zone.grants 62#8 12#8 = true ∧ (withQueues 0 3).grants 60#8 12#8 = true ∧
    (zone.working = true ∧ zone.bus.restartPending = false ∧ (12#8 : Byte).toNat = zone.settings.ownAddress) ∧
    ((0#8 : Byte).toNat = 0 ∧ 62 < (63#8 : Byte).toNat) := by decide +kernel

theorem test_meets_PassingRecordEntersListening : State.reset.station = .starting ∧ State.reset.RestsBeforeSettings ∧
    recordPasses (goodRecord.take 260) = true := ⟨rfl, by decide +kernel, test_good_record_passes⟩

theorem test_meets_FailingOrLateRecordEntersFallback :
    Instr.settingsReadComplete [] ∈ [Instr.settingsReadComplete [], .settingsReadTimeout] ∧
    Instr.settingsReadTimeout ∈ [Instr.settingsReadComplete [], .settingsReadTimeout] ∧
    recordPasses (([] : List Byte).take 260) = false ∧ State.reset.station = .starting := by decide +kernel

theorem test_meets_CorrectedSettingsLieInTheirRanges : recordPasses (goodRecord.take 260) = true :=
  test_good_record_passes

theorem test_meets_CrcFindsAnyOneSpoiledByte : (0x00#8 : Byte) ≠ 0x01#8 ∧ (0x7F#8 : Byte) ≠ 0xFF#8 := by decide

theorem test_meets_EndOfListeningEntersNormal : zone.station = .listening := by decide

theorem test_meets_ConcentrationOfARawReading : (0 ≤ 4095 ∧ 4095 ≤ 4095 ∧ 1 ≤ 1000 ∧ 1000 ≤ 1000) ∧
    (1 ≤ 1 ∧ 1 ≤ 4095) ∧ (1 ≤ 4095 ∧ 4095 ≤ 4095) := by decide

theorem test_meets_FilterMovesTowardTheReading : (0 ≤ 4 ∧ 4 ≤ 4) ∧ 15999 < 16 * 1000 ∧ 16 * 0 < 1 ∧ 16000 = 16 * 1000 ∧
    (16000 ≤ 16000 ∧ 1000 ≤ 1000) ∧ zone.air.heads.map Head.accumulator = [some 768, some 384] := by decide +kernel

theorem test_meets_HeadAnswerSetsTheHeadRecord :
    ((polling 1).working = true ∧ (polling 1).air.poll = some { head := 1, window := 100 } ∧ 4095 ≤ 4095 ∧ 2 ≠ 1) ∧
    (after (polling 1) [.headAnswer 1 .ok 4095]).air.poll ≠ none ∧
    (after (polling 2) [.headAnswer 2 .warmup 0]).air.poll = none ∧
    (polling 1).air.heads.length = 2 ∧ warming.air.heads.map Head.accumulator = [none] := by decide +kernel

theorem test_meets_PollRoundsAndMissedPolls :
    (warming.working = true ∧ warming.air.poll = some { head := 1, window := 100 }) ∧
    (after warming [.headAnswerWindowExpiry]).air.poll = none ∧ headless.working = true ∧
    (after headless [.pollRoundStart]).air.poll = none ∧ headless.air.expiring = false ∧
    (warming.air.expiring = false ∧ (after warming [.pollRoundStart]).air.poll ≠ none) ∧
    (roundEnding.working = true ∧ roundEnding.air.expiring = true) := by decide +kernel

theorem test_meets_AlarmStepFollowsTheTable : (1 ≤ holdOne.tWatch ∧ holdOne.tWatch < holdOne.tWarning ∧
      holdOne.tWarning < holdOne.tAlarm) ∧
    (∃ m ∈ AlarmLevel.withThreshold, AlarmLevel.clear.code < m.code ∧ holdOne.threshold m ≤ 60) ∧
    (∀ m ∈ AlarmLevel.withThreshold, AlarmLevel.clear.code < m.code → 59 < holdOne.threshold m) ∧
    (∀ m ∈ AlarmLevel.withThreshold, AlarmLevel.alarm.code < m.code → 0 < holdOne.threshold m) ∧
    (AlarmLevel.alarm ≠ .clear ∧ max 1 (holdOne.threshold .alarm - holdOne.hysteresis) ≤ 140 ∧
      139 < max 1 (holdOne.threshold .alarm - holdOne.hysteresis)) ∧
    ({ holdOne with holdCode := 0 }).holdCode = 0 ∧ 0 < clearHold holdOne.holdCode ∧
    28 + 1 < clearHold holdOne.holdCode ∧ 29 + 1 = clearHold holdOne.holdCode := by decide +kernel

theorem test_meets_HoldExpiryLowersTheLevelByOne :
    (roundEnding.working = true ∧ 1 ≤ roundEnding.settings.tWatch ∧
      roundEnding.settings.tWatch < roundEnding.settings.tWarning ∧
      roundEnding.settings.tWarning < roundEnding.settings.tAlarm) ∧
    (roundEnding.air.expiring = true ∧ roundEnding.air.holdTimer = some 29 ∧
      largest (roundEnding.air.heads.filterMap Head.offers) = some 88 ∧ 0 < clearHold roundEnding.settings.holdCode ∧
      clearHold roundEnding.settings.holdCode ≤ 29 + 1 ∧ 88 < roundEnding.settings.releasePoint roundEnding.air.level) ∧
    roundEnding.LightingSound ∧ holding.air.expiring = false ∧ State.reset.working = false ∧
    Instr.pollRoundStart ∈ [Instr.headAnswer 1 .ok 0, .headAnswerWindowExpiry, .pollRoundStart] ∧
    ([] : List Instr).head? ≠ some .alarmHoldTimerExpiry := by decide +kernel

theorem test_meets_AlarmLevelFallsByAtMostOne : headless.working = true ∧
    (after headless [.pollRoundStart]).working = true ∧ (after headless [.pollRoundStart]).air.ownIndex = none := by
  decide +kernel

theorem test_meets_PurgeChangeReachesEveryBlock :
    (zone.station ≠ .heldInReset ∧ zone.inputs.purge.filtered ≠ true ∧ zone.working = true ∧ zone.SendingSound ∧
      zone.LightingSound) ∧
    (after zone [.purgeFilterChange true]).inputs.purge.filtered ≠ false ∧
    (fallback.station ≠ .heldInReset ∧ fallback.inputs.purge.filtered ≠ true ∧ fallback.working = false) := by
  decide +kernel

theorem test_meets_PollutionTermIsRoundedUp : 40 < 120 ∧ 40 ≤ 40 ∧ 120 ≤ 120 ∧ (40 < 41 ∧ 41 < 120) ∧
    zone.working = true ∧ zone.vent.override = none := by decide +kernel

theorem test_meets_AirSampleStepsDemand : zone.working = true ∧ zone.vent.commanded < zone.airSample.vent.demand ∧
    (withFans 90 zone.vent.fans [3, 4]).airSample.vent.demand < 90 ∧ zone.settings.fallMode = .ramp ∧
    ({ zone.settings with fallMode := .coast }).fallMode = .coast ∧
    (withFans 70 zone.vent.fans [3, 4]).airSample.vent.demand = 70 := by decide +kernel

theorem test_meets_CommandedDemandFallsOnlyAtAnAirSample : zone.working = true ∧
    (after { headless with vent := { zone.vent with commanded := 100 } } [.pollRoundStart]).working = true ∧
    (after { headless with vent := { zone.vent with commanded := 100 } } [.pollRoundStart]).vent.commanded < 100 := by
  decide +kernel

theorem test_meets_ConfirmedFanRuns :
    (rising.working = true ∧ inputAt? rising.inputs.runConfirm 1 = some .atReset ∧
      (rising.vent.fan? 1).map Fan.state = some .starting ∧ rising.vent.Sound) ∧
    (zone.vent.fan? 3).map Fan.state = some .running ∧
    inputAt? (after zone [.runConfirmActive 3]).inputs.runConfirm 3 =
      some { line := true, filtered := true, steadyMs := 0 } := by decide +kernel

/-- Fan 1 at rest, its input off and on; fan 5 not configured; and a station in FALLBACK. -/
theorem test_meets_ConfirmedFanRuns_elsewhere :
    (zone.station ≠ .heldInReset ∧ (zone.vent.fan? 1).map Fan.state = some .stopped ∧ zone.vent.fan? 5 = none) ∧
    [1, 5, 6].map (inputAt? zone.inputs.runConfirm) = List.replicate 3 (some .atReset) ∧
    (inputAt? (after zone [.runConfirmActive 1]).inputs.runConfirm 1).map FilteredInput.filtered = some true ∧
    (fallback.working = false ∧ inputAt? fallback.inputs.runConfirm 1 = some .atReset) ∧
    (inputAt? (after fallback [.runConfirmActive 1]).inputs.runConfirm 1).map FilteredInput.filtered = some true := by
  decide +kernel

theorem test_meets_ConfirmedFanRuns_in_fallback : (after fallback [.coastTimerExpiry 1]).station = .fallback ∧
    ((after fallback [.coastTimerExpiry 1]).vent.fan? 1).map Fan.state = some .starting ∧
    ((after fallback [.coastTimerExpiry 1]).vent.fan? 1).map Fan.fallbackStart ≠ some none ∧
    (after fallback [.coastTimerExpiry 1]).vent.Sound := by decide +kernel

/-- Fan 1 coasting its last millisecond with fans 3 and 4 enough, and with nothing running. -/
def coasting (run : List Nat) : State :=
  withFans 50 [{ fanOf 1 .stopping with coast := some 1 }, fanOf 2 .stopped,
    fanOf 3 (if run = [] then .stopped else .running), fanOf 4 (if run = [] then .stopped else .running)] run

/-- Fan 4 alone runs, and its run-confirm has gone; the duty pointer names it, the highest of fans 2 and 4. -/
def lastRunning : State :=
  { zone with vent := { zone.vent with
      commanded := 20, floor := 20, runList := [4], dutyPointer := some 4
      fans := [fanOf 2 .stopped, { fanOf 4 .running with loss := some 1 }] } }

theorem test_meets_FailedOrRestingFan_fault :
    (rising.vent.Sound ∧ (rising.vent.fan? 1).map Fan.confirm = some (some 18000)) ∧
    (losing.vent.Sound ∧ (losing.vent.fan? 4).map Fan.loss = some (some 1)) ∧
    (lastRunning.vent.Sound ∧ lastRunning.vent.runList = [4] ∧ lastRunning.vent.nextDuty = some 2) := by decide +kernel

theorem test_meets_FailedOrRestingFan_coast :
    ((coasting [3, 4]).receiving = true ∧ (coasting [3, 4]).vent.Sound ∧
      ((coasting [3, 4]).vent.fan? 1).map Fan.coast = some (some 1)) ∧
    plannedCount 50 (coasting [3, 4]).vent.healthyCount ≤ 2 := by decide +kernel

/-- Fewer fans than planned: the pass that ends the coast may start the fan. -/
theorem test_meets_FailedOrRestingFan_short : (coasting []).vent.Sound ∧
    0 < plannedCount 50 (coasting []).vent.healthyCount := by decide +kernel

/-- The zone with three fans running or starting and one queued, at this commanded demand. -/
def crowded (commanded : Nat) : State := { rising with vent := { rising.vent with commanded } }

theorem test_meets_AllocationMeetsThePlan : zone.vent.Ordered ∧ zone.allocate.vent.runList ≠ [] ∧
    (rising.vent.Ordered ∧ rising.allocate.vent.startQueue ≠ []) ∧
    (withFans 100 [{ fanOf 1 .stopping with coast := some 1 }] []).vent.Ordered ∧
    (withFans 100 [{ fanOf 1 .stopping with coast := some 1 }] []).allocate.vent.runList.length < plannedCount 100 1 := by
  decide +kernel

/-- Of too many fans the queued one and the last started are removed; with C at 0 all are, and the pointer moves. -/
theorem test_meets_AllocationMeetsThePlan_removal :
    (crowded 25).vent.Ordered ∧ plannedCount 25 (crowded 25).vent.healthyCount = 1 ∧
    ((crowded 25).vent.runList.drop 1 = [4, 1] ∧ (crowded 25).vent.startQueue.drop (1 - 3) = [2]) ∧
    plannedCount 0 (crowded 0).vent.healthyCount = 0 ∧ (crowded 0).vent.runList ≠ [] ∧
    (zone.vent.available = [1, 2] ∧ 0 < plannedCount zone.vent.commanded zone.vent.healthyCount) := by decide +kernel

theorem test_meets_FanOverrideReplacesTheTerms : zone.grants 60#8 12#8 = true ∧
    ((100#8 : Byte).toNat ≤ 100 ∧ (240#8 : Byte).toNat ≤ 240) ∧ 100 < (101#8 : Byte).toNat ∧ 240 < (241#8 : Byte).toNat ∧
    zone.vent.override = none ∧
    (after zone [.setFanOverride 60#8 12#8 [0#8, 240#8]]).vent.override.any (fun o => o.limit.runs) = true := by
  decide +kernel

theorem test_meets_FanServiceCommandsSetTheFanState : (zone.grants 60#8 12#8 = true ∧ zone.vent.Sound) ∧
    (zone.vent.fan? (1#8 : Byte).toNat).map Fan.state = some .stopped ∧
    ((after zone [.lockOutFan 60#8 12#8 [4#8]]).vent.fan? (4#8 : Byte).toNat).map Fan.state = some .lockedOut ∧
    ((after losing [.lossTimerExpiry 4]).vent.fan? (4#8 : Byte).toNat).map Fan.state = some .fault ∧
    (after zone [.lockOutFan 60#8 12#8 [4#8]]).vent.Sound ∧ (after losing [.lossTimerExpiry 4]).vent.Sound ∧
    (after zone [.lockOutFan 60#8 12#8 [4#8], .idleEvent]).grants 60#8 12#8 = true ∧
    (after losing [.lossTimerExpiry 4]).grants 60#8 12#8 = true ∧
    (lastRunning.grants 60#8 12#8 = true ∧ lastRunning.vent.runList = [4]) := by decide +kernel

/-- Bay 15 after this many answers of each kind. -/
def bay15 (state : BayState) (on off bad : Nat) : Bay :=
  { Bay.fresh (bayOf 15) with state := state, onCount := on, offCount := off, faultCount := bad }

theorem test_meets_BayAnswersDebounce : (zone.working = true ∧ 17 ≠ 15) ∧
    ((readingBay (bay15 .free 3 0 0)).bays.reading = some { bay := 15, window := 4, discarded := false } ∧
      (readingBay (bay15 .free 3 0 0)).bays.bay? 15 = some (bay15 .free 3 0 0) ∧
      (readingBay (bay15 .free 3 0 0)).BaysSound) ∧
    ((bay15 .outOfService 0 0 0).Legal ∧ (bay15 .free 16 0 2).Legal ∧ (bay15 .fault 0 0 3).Legal) := by decide +kernel

theorem test_meets_BayAnswersDebounce_discarded : (readingSixteen true).BaysSound ∧
    (readingSixteen true).bays.reading = some { bay := 16, window := 4, discarded := true } ∧
    ((readingSixteen true).bays.bay? 16).isSome = true := by decide +kernel

theorem test_meets_ReservationsAndServiceOfABay :
    (zone.BaysSound ∧ zone.working = true ∧ zone.grants 60#8 12#8 = true ∧ (240#8 : Byte).toNat ≤ 240) ∧
    [(15#8 : Byte), 16#8, 17#8].map (fun n => (zone.bays.bay? n.toNat).map Bay.state) =
      [some .free, some .occupied, some .reserved] ∧
    (zone.bays.bay? (17#8 : Byte).toNat).map (fun b => b.reservation.any TimeLimit.runs) = some true ∧
    ((after zone [.reserveBay 60#8 12#8 [15#8, 0#8]]).bays.bay? (15#8 : Byte).toNat).map Bay.reservation =
      some (some .untilEnded) := by decide +kernel

theorem test_meets_GateMachineFollowsItsTables : zone.working = true ∧ zone.BaysSound ∧
    { settings := gateTwo, state := GateState.clear, timer := none } ∈ zone.bays.gates ∧
    zone.inputs.loopOn gateTwo.number .outer ≠ true := by decide +kernel

theorem test_meets_GateMachineFollowsItsTables_out_and_blocked :
    (gateIn .exitingOut (some 1)).BaysSound ∧ (gateIn .blocked none).BaysSound := by decide +kernel

theorem test_meets_GateMachineFollowsItsTables_timer : (gateIn .armedIn (some 1)).BaysSound ∧
    (gateIn .armedIn (some 1)).inputs.loopOn gateTwo.number .inner ≠ true ∧
    (gateIn .armedIn (some 1)).bays.gates.map Gate.timer = [some 1] := by decide +kernel

/-- Gate 2 EXITING_IN, its INNER loop on. -/
def leavingIn : State :=
  { zone with
    inputs := { zone.inputs with innerLoops := zone.inputs.innerLoops.set 1 { line := true, filtered := true, steadyMs := 0 } }
    bays := { zone.bays with gates := [{ settings := gateTwo, state := .exitingIn, timer := some 1 }] } }

theorem test_meets_GateMachineFollowsItsTables_passage :
    (leavingIn.working = true ∧ leavingIn.BaysSound ∧ leavingIn.inputs.loopOn gateTwo.number .inner ≠ false) ∧
    ((gateIn .exitingOut (some 1)).inputs.loopOn gateTwo.number .outer ≠ false ∧
      (gateIn .exitingOut (some 1)).bus.queues.passage.length < 4) ∧
    gateTwo.farSide = some 14 ∧ gateOne.farSide = none ∧ 4 ≤ (withQueues 4 0).bus.queues.passage.length := by
  decide +kernel

theorem test_meets_ACarDrivenThroughIsCountedOnce : (zone.working = true ∧ zone.BaysSound ∧
      zone.bays.gates.map Gate.state = [.clear, .clear]) ∧ gateOne.farSide = none ∧ gateTwo.farSide = some 14 ∧
    (withQueues 3 0).bus.queues.passage.length < 4 ∧ 4 ≤ (withQueues 4 0).bus.queues.passage.length := by
  decide +kernel

/-- The zone that has learned stations 1 and 62. -/
def farTable : State :=
  { zone with peers := { zone.peers with
      slots := [learnedAt 1 3, learnedAt 62 0, some (Peer.ofStatic neighbour14)] ++ List.replicate 13 none } }

theorem test_meets_BulletinRenewsItsEntry : (farTable.takesFrames = true ∧ farTable.working = true) ∧
    ([(1#8 : Byte), 62#8, 14#8].all (fun n => decide (1 ≤ n.toNat ∧ n.toNat ≤ 62 ∧ n.toNat ≠ farTable.settings.ownAddress) &&
      (farTable.peers.entry? n.toNat).isSome) = true) ∧
    (12#8 : Byte).toNat = farTable.settings.ownAddress ∧
    (farTable.peers.entry? 14).map (fun p => p.drive?.isSome) = some true := by decide +kernel

/-- A full table in which every learned entry has been heard since the last sweep. -/
def freshTable : State :=
  { zone with peers := { zone.peers with slots := (List.range 16).map (fun n => learnedAt (n + 20) 0) } }

theorem test_meets_UnknownSourcesAreAdmittedOrRejected : (zone.takesFrames = true ∧ zone.working = true) ∧
    (0#8 : Byte).toNat = 0 ∧ 62 < (63#8 : Byte).toNat ∧ (12#8 : Byte).toNat = zone.settings.ownAddress ∧
    (zone.peers.entry? (1#8 : Byte).toNat = none ∧ zone.peers.entry? (62#8 : Byte).toNat = none ∧
      none ∈ zone.peers.slots) ∧
    (fullTable.peers.entry? 1 = none ∧ none ∉ fullTable.peers.slots ∧
      ∃ v ∈ fullTable.peers.slots.filterMap id, v.origin = .learned ∧ 1 ≤ v.age) ∧
    (freshTable.peers.entry? 62 = none ∧ none ∉ freshTable.peers.slots ∧
      ∀ v ∈ freshTable.peers.slots.filterMap id, v.origin = .learned → v.age = 0) := by decide +kernel

theorem test_meets_SweepAgesEveryEntry : farTable.working = true ∧ farTable.PeersSound := by decide +kernel

/-- A STATUS and a sweep that change an upstream entry, and a bulletin that changes none. -/
theorem test_meets_the_telling_of_demand :
    zone.UpstreamEntryChanged (after zone [.statusReceived 14#8 statusOf14]) ∧
    zone.UpstreamEntryChanged (after zone [.sweep]) ∧
    ¬zone.UpstreamEntryChanged (after zone [.passageReceived 11#8 12#8]) := by decide +kernel

theorem test_meets_CloseAndOpenZone : (open12.grants 60#8 12#8 = true ∧ open12.GuidanceSound ∧ open12.station = .normal) ∧
    (after open12 [.closeZone 60#8 12#8 []]).guide.closed = true ∧
    (after open12 [.closeZone 60#8 12#8 []]).GuidanceSound := by decide +kernel

theorem test_meets_CloseAndOpenZone_lamps : zone.working = true ∧
    [15, 16, 17, 18].map (fun n => (zone.bays.bay? n).map Bay.state) =
      [some .free, some .occupied, some .reserved, none] ∧
    ((after zone [.setBayService 60#8 12#8 [15#8, 0#8]]).bays.bay? 15).map Bay.state = some .outOfService ∧
    fallback.working = false := by decide +kernel

theorem test_meets_RouteChoiceFollowsTheRules : (after open12 [.closeZone 60#8 12#8 []]).guide.closed = true ∧
    (open12.guide.closed = false ∧ 0 < open12.bays.freeCount .standard) ∧
    (open12.bays.freeCount .charging = 0 ∧ open12.candidates .charging = []) ∧
    (station11.guide.closed = false ∧ station11.bays.freeCount .standard = 0 ∧ station11.candidates .standard ≠ []) ∧
    (zone.peers.slots.filterMap id).map (fun p => (p.origin, p.state, p.heard.closed, p.heard.adverts.isSome)) =
      [(.static neighbour11, .fresh, some false, true), (.static neighbour14, .fresh, some false, true)] ∧
    neighbour14.drive = some { exit := 2, linkCost := 2 } := by decide +kernel

theorem test_meets_SignImagesShowTheNumber : zone.station ≠ .normal ∧
    (after open12 [.closeZone 60#8 12#8 []]).station = .normal ∧
    (after open12 [.closeZone 60#8 12#8 []]).guide.closed = true ∧
    (open12.station = .normal ∧ open12.guide.closed = false) ∧ signOne.mode = .zone ∧ signTwo.mode = .route ∧
    ({ signOne with mode := .total }).mode = .total ∧
    ((open12.guide.rows.get signTwo.cls).cost ≠ 15 ∧ (open12.guide.rows.get signTwo.cls).exit = .here) ∧
    ((after station11 [.listeningTimerExpiry]).station = .normal ∧
      ((after station11 [.listeningTimerExpiry]).guide.rows.get signTwo.cls).cost ≠ 15 ∧
      ((after station11 [.listeningTimerExpiry]).guide.rows.get signTwo.cls).exit = .by 1) ∧
    (open12.guide.rows.get .charging).cost = 15 := by decide +kernel

theorem test_meets_SignExchangeServesTheNextDueSign :
    (zone.working = true ∧ Ascending (zone.guide.signs.map (fun x => x.settings.number))) ∧
    (signAt signOne ∈ zone.guide.signs ∧ (signAt signOne).refresh ≠ none) ∧
    (zone.guide.exchange = none ∧ ∃ x ∈ zone.guide.signs, x.due = true) ∧
    (onTheLink zone).guide.exchange ≠ none ∧
    (∀ x ∈ ({ zone.guide with signs := [] }).signs, x.due = false) := by decide +kernel

theorem test_meets_SignAnswersAndMisses : zone.guide.exchange = none ∧
    ((after zone [.signExchangeStart]).guide.exchange.map Exchange.window = some 56 ∧ 50 < 56 ∧ 50 < 51) ∧
    ((onTheLink zone).guide.exchange = some (exchanging []) ∧ (onTheLink zone).station ≠ .fallback ∧
      (exchanging []).window ≤ 50 ∧ (exchanging []).sign ≤ 4) ∧
    addressed.guide.exchange.map Exchange.window = some 50 ∧
    ((exchanging ((signAnswerCharacters 4 .defect).take 3)).received ++ (signAnswerCharacters 4 .defect).drop 3).take 5 =
      signAnswerCharacters (exchanging []).sign .defect ∧
    (255 ≤ 255 ∧ 255 ≠ (exchanging []).sign ∧
      ([] ++ signAnswerCharacters 255 .ok).take 5 = signAnswerCharacters 255 .ok) ∧
    signAnswerOf (((exchanging []).received ++ (signAnswerCharacters 4 .ok).take 4).take 5) = none ∧
    ((onTheLink fallback).guide.exchange = some (exchanging []) ∧ (onTheLink fallback).station = .fallback) ∧
    (fallback.station = .fallback ∧ fallback.guide.exchange = none) := by decide +kernel

theorem test_meets_MotionRaisesItsChannels : zone.working = true ∧
    (inputAt? zone.inputs.motion 1 = some .atReset ∧ inputAt? zone.inputs.motion 4 = some .atReset) ∧
    inputAt? (after zone [.motionChange 4 true]).inputs.motion 4 =
      some { line := true, filtered := true, steadyMs := 0 } := by decide +kernel

/-- Channel 3 as the zone holds it, and dimming one step above its idle level. -/
def lastStep : Channel := { channelAt 3 channelThree with state := .dimming, output := 30, hold := none, dim := some 1 }

/-- The zone with channel 3 so. -/
def lastStepZone : State :=
  { zone with light := { zone.light with
      channels := zone.light.channels.map (fun c => if c.number = 3 then lastStep else c) } }

theorem test_meets_HoldAndDimExpiries : (zone.working = true ∧ zone.LightingSound ∧
      channelAt 3 channelThree ∈ zone.light.channels ∧ (channelAt 3 channelThree).hold ≠ none) ∧
    (lastStepZone.LightingSound ∧ lastStep ∈ lastStepZone.light.channels ∧ lastStep.state = .dimming) ∧
    (lastStep.output ≠ lastStep.settings.idle ∧ 1 ≤ lastStep.settings.slew) ∧
    0 < ceilDiv ((lastStep.output - lastStep.settings.idle) + (lastStep.settings.idle - lastStep.output))
      lastStep.settings.slew := by decide +kernel

/-- The zone after SET LIGHT OVERRIDE of channel 8 for these minutes. -/
def overridden (m : Byte) : State := after zone [.setLightOverride 60#8 12#8 [8#8, 100#8, m]]

theorem test_meets_LightOverridesSetAndEnd : (zone.LightingSound ∧ zone.grants 60#8 12#8 = true) ∧
    ((8#8 : Byte).toNat ≤ 8 ∧ (0#8 : Byte).toNat ≤ 8 ∧ (100#8 : Byte).toNat ≤ 100 ∧ (240#8 : Byte).toNat ≤ 240) ∧
    ((overridden 240#8).working = true ∧ (overridden 240#8).LightingSound ∧
      ∃ c ∈ (overridden 240#8).light.channels, c.override.any (fun o => o.limit.runs) = true) ∧
    ∃ c ∈ (overridden 0#8).light.channels, c.override ≠ none ∧ c.override.any (fun o => o.limit.runs) = false := by
  decide +kernel

theorem test_meets_CharactersAreReceivedAsSent : (List.replicate 7 LineLevel.mark).length = 7 ∧
    (List.replicate 7 LineLevel.space).length = 7 ∧ (LineLevel.space ≠ .mark) ∧ 352 < 353 := by decide

theorem test_meets_FrameBytesAndFrameCommandAgree : (zone.takesFrames = true ∧ zone.bus.assembler = .awaitMarker) ∧
    State.reset.bus.assembler = .awaitIdle ∧
    [Instr.statusReceived 14#8 statusOf14, .passageReceived 11#8 12#8, .reserveBay 60#8 12#8 [15#8, 15#8],
      .closeZone 60#8 63#8 [], .openZone 60#8 20#8 [], .unknownCommand 60#8 12#8 0x55#8 (List.replicate 47 0#8)].all
      (fun c => c.WellFormed && (frameOf c).isSome) = true := by decide +kernel

theorem test_meets_LineEventsDriveTheReceivingSide : ((reporting false 0).receiving = true ∧
      (reporting false 0).bus.transmitter = .sending .report []) ∧ (zone.receiving = true ∧ zone.hears = true ∧
      zone.bus.assembler = .awaitMarker ∧ zone.bus.transmitter ∈ [.atRest, .waitingIdle, .backoff]) ∧
    (after zone [.goodCharacter 0#8]).bus.assembler = .awaitIdle ∧
    (after zone [.goodCharacter 0xC5#8]).bus.assembler = .inFrame [] ∧
    (sendingState { Queues.empty with status := [statusFrame] } (.gap .status 28)).hears = true ∧
    (sendingState { Queues.empty with status := [statusFrame] } (.gap .status 28)).bus.transmitter =
      .gap .status 28 := by decide +kernel

theorem test_meets_RejectedFramesAreCounted_bytes :
    (zone.takesFrames = true ∧ zone.bus.assembler = .awaitMarker) ∧ zone.filterRejects 5#8 12#8 = true ∧
    zone.filterRejects 3#8 63#8 = false ∧ 48 < (49#8 : Byte).toNat ∧
    (([14#8] : List Byte).length = (1#8 : Byte).toNat ∧ (1#8 : Byte).toNat ≤ 48 ∧
      false = decide (crc16 ([3#8, 11#8, 63#8, 1#8] ++ [14#8]) = halfFrom 0#8 0#8)) ∧
    ¬(true = true ∧ ((3#8 : Byte) = 1#8 ∧ (2#8 : Byte) = 19#8 ∨ (3#8 : Byte) = 2#8 ∧ (2#8 : Byte) = 4#8 ∨
      (3#8 : Byte) = 3#8 ∧ (2#8 : Byte) = 1#8 ∨ (3#8 : Byte) = 4#8 ∧ (2#8 : Byte) ≠ 0#8)) := by decide +kernel

theorem test_meets_RejectedFramesAreCounted : (zone.takesFrames = true ∧ (48#8 : Byte).toNat ≤ 48) ∧ (20#8 : Byte) ≠ 63#8 ∧
    (20#8 : Byte).toNat ≠ zone.settings.ownAddress ∧ 48 < (49#8 : Byte).toNat ∧
    (listening.takesFrames = true ∧ listening.station = .fallback) := by decide +kernel

theorem test_meets_QueriesReportTheState : zone.grants 60#8 12#8 = true ∧ zone.peers.slots.length = 16 ∧
    (1 ≤ (1#8 : Byte).toNat ∧ (64#8 : Byte).toNat ≤ 64 ∧ (40#8 : Byte).toNat ≤ 40 ∧ (16#8 : Byte).toNat ≤ 16) := by
  decide +kernel

theorem test_meets_RefusedCommandsChangeNothing : zone.grants 60#8 12#8 = true ∧
    commandOf (.clearFanFault 60#8 12#8 [3#8]) =
      some { source := 60#8, destination := 12#8, code := 0x14#8, args := [3#8] } ∧
    (executeCommand 0x14#8 [3#8] zone).result ≠ .done ∧ (List.replicate 47 0#8 : List Byte).length ≤ 47 ∧
    knownCodes.contains (0x55#8 : Byte).toNat = false ∧
    (0x14, 1) ∈ argumentCounts ∧ ([3#8, 4#8] : List Byte).length ≠ 1 ∧ (zone.FansSound ∧ zone.BaysSound) ∧
    zone.resultByChecks 0x14#8 [3#8] ≠ .done := by decide +kernel

/-- R162, check by check, and "LOCK OUT FAN, fan 5" and "RELEASE BAY" of the service visit, here with bay 16. -/
theorem test_results_by_checks :
    [zone.resultByChecks 0x55#8 [], zone.resultByChecks 0x12#8 [], zone.resultByChecks 0x12#8 [7#8],
      zone.resultByChecks 0x12#8 [5#8], zone.resultByChecks 0x12#8 [2#8], zone.resultByChecks 0x21#8 [16#8],
      zone.resultByChecks 0x20#8 [15#8, 241#8], zone.resultByChecks 0x22#8 [15#8, 2#8],
      zone.resultByChecks 0x40#8 [9#8, 0#8, 0#8], zone.resultByChecks 0x40#8 [0#8, 101#8, 0#8]] =
    [.unknownCommand, .badArgument, .badArgument, .badArgument, .done, .refusedState, .badArgument, .badArgument,
      .badArgument, .badArgument] := by decide +kernel

theorem test_meets_AnswersNeedAPlace :
    commandOf (.closeZone 62#8 12#8 []) = some { source := 62#8, destination := 12#8, code := 0x30#8, args := [] } ∧
    commandOf (.closeZone 62#8 63#8 []) = some { source := 62#8, destination := 63#8, code := 0x30#8, args := [] } ∧
    (zone.takesFrames = true ∧ zone.working = true ∧ zone.grants 62#8 12#8 = true ∧ zone.grants 1#8 12#8 = true ∧
      (0x30#8 : Byte) ≠ 0x7F#8 ∧ (12#8 : Byte).toNat = zone.settings.ownAddress ∧ zone.settings.ownAddress ≤ 62) ∧
    ((withQueues 0 4).takesFrames = true ∧ 4 ≤ (withQueues 0 4).bus.queues.report.length) ∧
    (after zone [.restart 60#8 12#8 []]).bus.restartPending = true ∧
    (commandOf (.closeZone 0#8 12#8 []) = some { source := 0#8, destination := 12#8, code := 0x30#8, args := [] } ∧
      (0#8 : Byte).toNat = 0 ∧ 62 < (63#8 : Byte).toNat ∧ zone.bus.restartPending = false) := by decide +kernel

/-- R161: from a source outside 1..62 a command to the own address acts, with a full class queue 3 and no REPORT. -/
theorem test_unanswered_to_the_own_address :
    (fun (t : State) => (t.guide.serviceClose, t.bus.queues.report.length, t.counters.serviceOverrun.count))
      (after (withQueues 0 4) [.closeZone 0#8 12#8 []]) = (true, 4, 0) := by decide +kernel

theorem test_meets_StatusTimersQueueAStatus_change : SignificantChange zone.guide.rows open12.guide.rows ∧
    (zone.bus.hasPending .status = false ∧ zone.bus.spacingTimer = none) ∧
    (({ zone with bus := { zone.bus with spacingTimer := some 1 } }).bus.spacingTimer ≠ none) ∧
    ¬SignificantChange open12.guide.rows open12.guide.rows ∧
    SignificantChange open12.guide.rows (after open12 [.reserveBay 60#8 12#8 [15#8, 5#8]]).guide.rows := by
  decide +kernel

theorem test_meets_StatusTimersQueueAStatus : zone.working = true ∧ zone.bus.periodTimer ≠ none ∧
    (after zone [.statusPeriodTimerExpiry]).bus.spacingTimer ≠ none := by decide +kernel

theorem test_meets_SelectionServesPriorityOrCredits :
    (zone.hears = true ∧ (withQueues 1 1).bus.transmitter ∈ [.waitingIdle, .backoff]) ∧
    chooseClass .strict (withQueues 1 1).bus.queues .full = some (.passage, .full) ∧
    chooseClass .weighted (withQueues 1 1).bus.queues { Credits.full with passage := 0, report := 0 } =
      some (.passage, .full) ∧
    TxClass.status.gapBits + 2 * jitterSequence.getD 12 0 ≠ 0 ∧ TxClass.alert.gapBits + 2 * jitterSequence.getD 0 0 = 0 := by
  decide +kernel

/-- The zone whose gap for this class and frame is about to end. -/
def gapOf (cls : TxClass) (q : Queues) : State := sendingState q (.gap cls 1)

theorem test_meets_GapEndCapturesAndSends :
    (gapOf .alert { Queues.empty with alert := [alertFrame] }).bus.transmitter = .gap .alert 1 ∧
    (Queues.get { Queues.empty with alert := [alertFrame] } .alert).head? = some alertFrame ∧
    alertFrame.content.cls = .alert ∧ (open12.bus.queues.get .status).head? = some statusFrame ∧
    statusFrame.content.cls = .status ∧ open12.station = .normal ∧
    ((withQueues 1 1).bus.queues.get .passage).head? = some { content := .passage 14#8, attempts := 0 } ∧
    ((withQueues 1 1).bus.queues.get .report).head? = some (reportFrame false 0) := by decide +kernel

theorem test_meets_TransmissionEndsOrCollides :
    ((reporting false 6).bus.transmitter = .sending .report [] ∧
      (reporting false 6).bus.queues.get .report = [reportFrame false 6]) ∧
    (reporting false 6).bus.headRestarts .report = false ∧ (reporting true 7).bus.headRestarts .report = true ∧
    (reportFrame false 6).attempts < 7 ∧ 7 ≤ (reportFrame true 7).attempts ∧
    (reporting false 7).bus.headRestarts .report = false ∧
    Queues.get { Queues.empty with alert := [alertFrame, alertFrame] } .alert = alertFrame :: [alertFrame] := by
  decide +kernel

/-- What every step keeps is asked of states from which a step is taken: the sound zone above is one. -/
theorem test_meets_StepKeeps : ∃ t, step zone = .next t := ⟨_, rfl⟩

/-- The zone in NORMAL, and the premises of what it keeps there. -/
theorem test_meets_StepKeepsGuidanceSound : (∃ t, step open12 = .next t) ∧ open12.PeersSound ∧ open12.GuidanceSound ∧
    open12.station = .normal := ⟨⟨_, rfl⟩, by decide +kernel, by decide +kernel, by decide +kernel⟩

theorem test_meets_StepKeepsStationSound : State.reset.StationSound :=
  ⟨by decide +kernel, by decide +kernel, by decide +kernel⟩

theorem test_meets_StepKeepsStationSound_in_fallback : fallback.StationSound :=
  ⟨by decide +kernel, by decide +kernel, by decide +kernel⟩

end Sys2Proof.Tests
end

