-- ==== Sys2Proof/Proofs/Air.lean ====
section
/-! PROOFS. From raw reading to accumulator: the concentration (R8) and the filter (R10). -/

namespace Sys2Proof.Machine

/-! ### The concentration of a raw reading (R8) -/

theorem raw_mul_fullScale_le {raw fs : Nat} (hraw : raw ≤ 4095) (hfs : fs ≤ 1000) : raw * fs ≤ 4095000 :=
  Nat.mul_le_mul hraw hfs

@[simp] theorem concentration_zero (fs : Nat) : concentration 0 fs = 0 := by
  simp [concentration]

/-- The highest raw reading gives the full scale. -/
@[simp] theorem concentration_4095 (fs : Nat) : concentration 4095 fs = fs :=
  Nat.mul_div_cancel_left fs (by decide)

/-- The highest raw reading of a VALID head stays one unit below a full scale of at most 4095: 4094 × FS is
4095 × FS less FS, and FS is at most one divisor. -/
theorem concentration_4094 {fs : Nat} (hpos : 1 ≤ fs) (hfs : fs ≤ 4095) : concentration 4094 fs = fs - 1 := by
  unfold concentration
  omega

theorem concentration_mono {raw raw' : Nat} (h : raw ≤ raw') (fs : Nat) :
    concentration raw fs ≤ concentration raw' fs :=
  Nat.div_le_div_right (Nat.mul_le_mul_right fs h)

theorem concentration_le_fullScale {raw : Nat} (hraw : raw ≤ 4095) (fs : Nat) : concentration raw fs ≤ fs :=
  calc concentration raw fs ≤ concentration 4095 fs := concentration_mono hraw fs
    _ = fs := concentration_4095 fs

/-! ### The head's record after an OK answer (R7, R10) -/

@[simp] theorem Head.answer_ok_accumulator (h : Head) (raw : Nat) :
    (h.answer .ok raw).accumulator =
      some (nextAccumulator h.settings.shift (concentration raw h.settings.fullScale) h.accumulator) := rfl

@[simp] theorem Head.answer_ok_state (h : Head) (raw : Nat) :
    (h.answer .ok raw).state = if raw ≤ 4094 then .valid else .over := rfl

/-- Settles O10: the values of the quotient, and the one meaning of an OK answer for every raw reading. -/
theorem concentrationOfARawReading : Obligations.ConcentrationOfARawReading := by
  intro raw fs h
  refine ⟨rfl, raw_mul_fullScale_le, fun hraw => concentration_le_fullScale hraw fs, concentration_zero fs,
    concentration_4094, concentration_4095 fs, h.answer_ok_accumulator raw, ?_, ?_⟩
  · simp
  · simp

/-! ### The step of the filter (R10) -/

/-- The size of the step for a difference of size `n`, where `n` is not 0. -/
def stepSize (n k : Nat) : Nat := max 1 (n / 2 ^ k)

theorem stepSize_pos (n k : Nat) : 0 < stepSize n k := le_max_left 1 _

theorem stepSize_le {n : Nat} (hn : 0 < n) (k : Nat) : stepSize n k ≤ n :=
  max_le hn (Nat.div_le_self n _)

@[simp] theorem filterStep_zero (k : Nat) : filterStep 0 k = 0 := by
  simp [filterStep]

/-- For a positive difference the truncated quotient is that of the natural numbers. -/
theorem filterStep_natCast {n : Nat} (hn : 0 < n) (k : Nat) : filterStep n k = stepSize n k := by
  have hquot : Int.tdiv (n : Int) (2 ^ k) = (n / 2 ^ k : Nat) := by
    rw [Int.ofNat_tdiv]; norm_cast
  unfold filterStep stepSize
  rw [hquot]
  rcases Nat.eq_zero_or_pos (n / 2 ^ k) with hzero | hpos
  · simp [hzero, hn, hn.ne']
  · simp only [Int.natCast_eq_zero, hpos.ne', and_false, if_false, max_eq_right (Nat.succ_le_of_lt hpos)]

/-- Truncation toward zero, and the least step, treat both signs alike. -/
theorem filterStep_neg (d : Int) (k : Nat) : filterStep (-d) k = -filterStep d k := by
  unfold filterStep
  rw [Int.neg_tdiv]
  by_cases hquot : Int.tdiv d (2 ^ k) = 0
  · simp only [hquot, neg_zero, and_true]
    split_ifs <;> omega
  · simp [hquot]

/-! ### The accumulator after a step (R10) -/

theorem nextAccumulator_of_lt {a c : Nat} (h : a < 16 * c) (k : Nat) :
    nextAccumulator k c (some a) = a + stepSize (16 * c - a) k := by
  have hdiff : 16 * (c : Int) - a = (16 * c - a : Nat) := by omega
  have hstep := filterStep_natCast (Nat.sub_pos_of_lt h) k
  rw [nextAccumulator, hdiff, hstep]
  omega

theorem nextAccumulator_of_gt {a c : Nat} (h : 16 * c < a) (k : Nat) :
    nextAccumulator k c (some a) = a - stepSize (a - 16 * c) k := by
  have hdiff : 16 * (c : Int) - a = -(a - 16 * c : Nat) := by omega
  have hstep := filterStep_natCast (Nat.sub_pos_of_lt h) k
  rw [nextAccumulator, hdiff, filterStep_neg, hstep]
  omega

@[simp] theorem nextAccumulator_at_reading (k c : Nat) : nextAccumulator k c (some (16 * c)) = 16 * c := by
  have hdiff : 16 * (c : Int) - (16 * c : Nat) = 0 := by omega
  rw [nextAccumulator, hdiff, filterStep_zero]
  omega

/-- The step has the sign of the difference and is never larger, so it never passes the reading. -/
theorem nextAccumulator_between (a c k : Nat) :
    min a (16 * c) ≤ nextAccumulator k c (some a) ∧ nextAccumulator k c (some a) ≤ max a (16 * c) := by
  rcases lt_trichotomy a (16 * c) with hlt | rfl | hgt
  · have hle := stepSize_le (Nat.sub_pos_of_lt hlt) k
    rw [nextAccumulator_of_lt hlt]
    omega
  · simp
  · have hle := stepSize_le (Nat.sub_pos_of_lt hgt) k
    rw [nextAccumulator_of_gt hgt]
    omega

/-- With k = 0 one step reaches the reading. -/
theorem nextAccumulator_shift_zero (a c : Nat) : nextAccumulator 0 c (some a) = 16 * c := by
  rcases lt_trichotomy a (16 * c) with hlt | rfl | hgt
  · rw [nextAccumulator_of_lt hlt, stepSize]
    omega
  · simp
  · rw [nextAccumulator_of_gt hgt, stepSize]
    omega

theorem nextAccumulator_le_16000 {a c : Nat} (ha : a ≤ 16000) (hc : c ≤ 1000) (k : Nat) :
    nextAccumulator k c (some a) ≤ 16000 := by
  have hmax := (nextAccumulator_between a c k).2
  omega

/-! ### An unchanging concentration (R10) -/

/-- How far an accumulator is from the reading it moves toward. -/
def gapTo (c a : Nat) : Nat := (16 * c - a) + (a - 16 * c)

@[simp] theorem gapTo_eq_zero {c a : Nat} : gapTo c a = 0 ↔ a = 16 * c := by
  unfold gapTo
  omega

/-- Every step from elsewhere comes at least 1 closer: it moves by at least 1 and never passes the reading. -/
theorem gapTo_nextAccumulator_lt {a c : Nat} (h : a ≠ 16 * c) (k : Nat) :
    gapTo c (nextAccumulator k c (some a)) < gapTo c a := by
  unfold gapTo
  rcases lt_or_gt_of_ne h with hlt | hgt
  · have hpos := stepSize_pos (16 * c - a) k
    have hle := stepSize_le (Nat.sub_pos_of_lt hlt) k
    rw [nextAccumulator_of_lt hlt]
    omega
  · have hpos := stepSize_pos (a - 16 * c) k
    have hle := stepSize_le (Nat.sub_pos_of_lt hgt) k
    rw [nextAccumulator_of_gt hgt]
    omega

/-- As many OK answers as the gap, or more, bring the accumulator to the reading. -/
theorem iterate_nextAccumulator_of_gapTo_le (k c n : Nat) :
    ∀ a, gapTo c a ≤ n → (fun x => nextAccumulator k c (some x))^[n] a = 16 * c := by
  induction n with
  | zero =>
    intro a hgap
    exact gapTo_eq_zero.mp (Nat.le_zero.mp hgap)
  | succ n ih =>
    intro a hgap
    rw [Function.iterate_succ_apply]
    apply ih
    by_cases h : a = 16 * c
    · rw [h, nextAccumulator_at_reading, gapTo_eq_zero.mpr rfl]
      exact Nat.zero_le n
    · have hcloser := gapTo_nextAccumulator_lt h k
      omega

/-- Settles O11, by the sign of the difference and, for the exact arrival, by induction on the number of answers. -/
theorem filterMovesTowardTheReading : Obligations.FilterMovesTowardTheReading := by
  intro a c k raw h _
  refine ⟨fun hlt => nextAccumulator_of_lt hlt k, fun hgt => nextAccumulator_of_gt hgt k, ?_,
    nextAccumulator_between a c k, ?_, fun ha hc => nextAccumulator_le_16000 ha hc k,
    iterate_nextAccumulator_of_gapTo_le k c _ a le_rfl, ?_⟩
  · rintro rfl
    exact nextAccumulator_at_reading k c
  · rintro rfl
    exact nextAccumulator_shift_zero a c
  · intro hacc
    rw [h.answer_ok_accumulator, hacc]

end Sys2Proof.Machine
end

section
/-! PROOFS. The pollution term (R25) and its place in the demand (R31). -/

namespace Sys2Proof.Machine

/-! ### Division rounded up -/

/-- The quotient rounded up is the least bound: the model's `ceilDiv` is Mathlib's `⌈/⌉`, adjoint to the product. -/
theorem ceilDiv_le_iff {b : Nat} (hb : 0 < b) (a c : Nat) : ceilDiv a b ≤ c ↔ a ≤ c * b := by
  rw [Nat.mul_comm]
  exact ceilDiv_le_iff_le_mul hb

theorem lt_ceilDiv_iff {b : Nat} (hb : 0 < b) (a c : Nat) : c < ceilDiv a b ↔ c * b < a := by
  simpa only [not_le] using (ceilDiv_le_iff hb a c).not

theorem ceilDiv_pos {a b : Nat} (ha : 0 < a) (hb : 0 < b) : 0 < ceilDiv a b :=
  (lt_ceilDiv_iff hb a 0).mpr (by rwa [Nat.zero_mul])

theorem le_ceilDiv_mul {b : Nat} (hb : 0 < b) (a : Nat) : a ≤ ceilDiv a b * b :=
  (ceilDiv_le_iff hb a _).mp le_rfl

/-- One less than the quotient rounded up falls short of the whole. -/
theorem ceilDiv_pred_mul_lt {a b : Nat} (ha : 0 < a) (hb : 0 < b) : (ceilDiv a b - 1) * b < a :=
  (lt_ceilDiv_iff hb a _).mp (Nat.sub_one_lt_of_lt (ceilDiv_pos ha hb))

/-! ### The pollution term (R25) -/

@[simp] theorem pollutionTerm_none (lo hi : Nat) : pollutionTerm lo hi none = 0 := rfl

theorem pollutionTerm_of_le {lo e : Nat} (h : e ≤ lo) (hi : Nat) : pollutionTerm lo hi (some e) = 0 :=
  if_pos h

theorem pollutionTerm_of_ge {lo hi e : Nat} (h : lo < hi) (he : hi ≤ e) : pollutionTerm lo hi (some e) = 100 :=
  (if_neg (not_le.mpr (h.trans_le he))).trans (if_pos he)

theorem pollutionTerm_of_between {lo hi e : Nat} (hlo : lo < e) (hhi : e < hi) :
    pollutionTerm lo hi (some e) = ceilDiv ((e - lo) * 100) (hi - lo) :=
  (if_neg (not_le.mpr hlo)).trans (if_neg (not_le.mpr hhi))

theorem pollutionTerm_le_100 {lo hi : Nat} (h : lo < hi) (e : Nat) : pollutionTerm lo hi (some e) ≤ 100 := by
  rcases le_or_gt e lo with hlo | hlo
  · rw [pollutionTerm_of_le hlo]
    exact Nat.zero_le 100
  · rcases le_or_gt hi e with hhi | hhi
    · rw [pollutionTerm_of_ge h hhi]
    · have hpart : e - lo ≤ hi - lo := Nat.sub_le_sub_right hhi.le lo
      rw [pollutionTerm_of_between hlo hhi, ceilDiv_le_iff (Nat.sub_pos_of_lt h), Nat.mul_comm 100]
      exact Nat.mul_le_mul_right 100 hpart

/-! ### The demand without an override (R31) -/

theorem State.demandNow_of_no_override {s : State} (h : s.vent.override = none) :
    s.demandNow =
      max (pollutionTerm s.settings.eLo s.settings.eHi s.effectiveIndex) (max s.trafficTerm s.floorNow) := by
  simp only [State.demandNow, h]

/-- Settles O18, by the three ranges of the index; between the two limits by the adjunction of the quotient rounded up
and the product. -/
theorem pollutionTermIsRoundedUp : Obligations.PollutionTermIsRoundedUp := by
  intro lo hi e s sample h
  refine ⟨pollutionTerm_none lo hi, fun he => pollutionTerm_of_le he hi, pollutionTerm_of_ge h, ?_,
    pollutionTerm_le_100 h e, rfl, ?_⟩
  · intro hlo hhi
    have hspan : 0 < hi - lo := Nat.sub_pos_of_lt h
    have hpart : 0 < (e - lo) * 100 := Nat.mul_pos (Nat.sub_pos_of_lt hlo) (by decide)
    rw [pollutionTerm_of_between hlo hhi]
    exact ⟨ceilDiv_pos hpart hspan, le_ceilDiv_mul hspan _, ceilDiv_pred_mul_lt hpart hspan⟩
  · intro hworking hfree
    obtain ⟨-, hdemand, -, -⟩ := s.recompute_demand hworking sample
    exact hdemand.trans (State.demandNow_of_no_override hfree)

end Sys2Proof.Machine
end

section
/-! PROOFS. What a command can do, said once: every outcome of every command, with the conditions it is taken under, as the
cases of one relation. Every invariant is a case analysis of it. -/

namespace Sys2Proof.Machine

/-! ### What a busy line leaves (R131, R132) -/

/-- The line has been busy, and receiver and assembler stand at these. -/
def State.onLine (s : State) (r : Receiver) (a : Assembler) : State :=
  s.setBus { s.lineBusy.bus with receiver := r, assembler := a }

@[simp] theorem State.onLine_onLine (s : State) (r r' : Receiver) (a a' : Assembler) :
    (s.onLine r a).onLine r' a' = s.onLine r' a' := by
  cases h : s.bus.transmitter <;> simp [State.onLine, State.lineBusy, h]

theorem State.frameEnded_eq_onLine (s : State) : s.frameEnded = s.onLine .hunting .awaitIdle := rfl

theorem State.frameAccepted_eq_onLine (s : State) :
    s.frameAccepted = (s.onLine .hunting .awaitIdle).count .rxGood := rfl

@[simp] theorem State.onLine_frameAccepted (s : State) (r : Receiver) (a : Assembler) :
    (s.onLine r a).frameAccepted = s.frameAccepted := by
  rw [State.frameAccepted_eq_onLine, State.frameAccepted_eq_onLine, State.onLine_onLine]

@[simp] theorem State.onLine_station (s : State) (r : Receiver) (a : Assembler) :
    (s.onLine r a).station = s.station := rfl
@[simp] theorem State.onLine_settings (s : State) (r : Receiver) (a : Assembler) :
    (s.onLine r a).settings = s.settings := rfl
@[simp] theorem State.onLine_startup (s : State) (r : Receiver) (a : Assembler) :
    (s.onLine r a).startup = s.startup := rfl
@[simp] theorem State.onLine_inputs (s : State) (r : Receiver) (a : Assembler) :
    (s.onLine r a).inputs = s.inputs := rfl
@[simp] theorem State.onLine_air (s : State) (r : Receiver) (a : Assembler) : (s.onLine r a).air = s.air := rfl
@[simp] theorem State.onLine_vent (s : State) (r : Receiver) (a : Assembler) : (s.onLine r a).vent = s.vent := rfl
@[simp] theorem State.onLine_bays (s : State) (r : Receiver) (a : Assembler) : (s.onLine r a).bays = s.bays := rfl
@[simp] theorem State.onLine_peers (s : State) (r : Receiver) (a : Assembler) : (s.onLine r a).peers = s.peers := rfl
@[simp] theorem State.onLine_guide (s : State) (r : Receiver) (a : Assembler) : (s.onLine r a).guide = s.guide := rfl
@[simp] theorem State.onLine_light (s : State) (r : Receiver) (a : Assembler) : (s.onLine r a).light = s.light := rfl
@[simp] theorem State.onLine_counters (s : State) (r : Receiver) (a : Assembler) :
    (s.onLine r a).counters = s.counters := rfl
@[simp] theorem State.onLine_pending (s : State) (r : Receiver) (a : Assembler) :
    (s.onLine r a).pending = s.pending := rfl
@[simp] theorem State.onLine_working (s : State) (r : Receiver) (a : Assembler) :
    (s.onLine r a).working = s.working := rfl
@[simp] theorem State.onLine_receiving (s : State) (r : Receiver) (a : Assembler) :
    (s.onLine r a).receiving = s.receiving := rfl
@[simp] theorem State.onLine_queues (s : State) (r : Receiver) (a : Assembler) :
    (s.onLine r a).bus.queues = s.bus.queues := rfl
@[simp] theorem State.onLine_assembler (s : State) (r : Receiver) (a : Assembler) :
    (s.onLine r a).bus.assembler = a := rfl
@[simp] theorem State.onLine_filterRejects (s : State) (r : Receiver) (a : Assembler) (kind destination : Byte) :
    (s.onLine r a).filterRejects kind destination = s.filterRejects kind destination := rfl

theorem State.frameDiscarded_eq_onLine {s : State} (h : s.receiving = true) :
    s.frameDiscarded = s.onLine .hunting s.bus.assembler := by
  simp only [State.frameDiscarded, h, if_true]; rfl

/-! ### What executing a service command can do (R29, R30, R44..R46, R57..R59, R92, R124, R125, R162, R170) -/

/-- Every state a service command may leave, with what its owner asks of it. -/
inductive CommandEffect (s : State) : (code : Nat) → State → Prop
  | nothing (code : Nat) : CommandEffect s code s
  | countersCleared : CommandEffect s 0x04 (s.setCounters .zero)
  | overrideSet (o : FanOverride) : CommandEffect s 0x10 ((s.setVent { s.vent with override := some o }).recompute false)
  | overrideCleared : CommandEffect s 0x11 s.endFanOverride
  | lockedOut (n : Nat) (f : Fan) (hf : s.vent.fan? n = some f) :
      CommandEffect s 0x12 (s.setVent ((s.vent.mapFan n (fun f => f.inState .lockedOut)).dropFan n)).allocate
  | returned (code n : Nat) (f : Fan) (hf : s.vent.fan? n = some f)
      (hst : code = 0x13 ∧ f.state = .lockedOut ∨ code = 0x14 ∧ f.state = .fault) :
      CommandEffect s code (s.setVent (s.vent.mapFan n (fun x => x.toStopping s.settings))).allocate
  | reserved (n : Nat) (l : TimeLimit) (b : Bay) (hb : s.bays.bay? n = some b)
      (hst : b.state = .free ∨ b.state = .reserved) :
      CommandEffect s 0x20 (s.changeBay n (fun x => { x with state := .reserved, reservation := some l }))
  | released (n : Nat) (b : Bay) (hb : s.bays.bay? n = some b) (hst : b.state = .reserved) :
      CommandEffect s 0x21 (s.changeBay n (fun x => x.enter .free))
  | putOut (n : Nat) : CommandEffect s 0x22 (s.bayGoesOut n)
  | broughtIn (n : Nat) : CommandEffect s 0x22 (s.changeBay n Bay.comeIn)
  | serviceClose (code : Nat) (v : Bool) (hcode : code = if v then 0x30 else 0x31) :
      CommandEffect s code ((s.setGuide { s.guide with serviceClose := v }).guidanceTold false false)
  | lightSet (channel : Nat) (o : LightOverride) :
      CommandEffect s 0x40 (s.setLight (s.light.mapNamed channel (fun c => c.setOverride o)))
  | lightCleared (channel : Nat) : CommandEffect s 0x41 (s.setLight (s.light.mapNamed channel Channel.endOverride))

theorem executeCommand_effect (code : Byte) (args : List Byte) (s : State) :
    CommandEffect s code.toNat (executeCommand code args s).state := by
  unfold executeCommand
  split <;> rename_i hcode <;> try rw [hcode]
  · unfold queryZone; (repeat' split) <;> exact .nothing _
  · unfold queryBays; (repeat' split) <;> exact .nothing _
  · unfold queryPeers; (repeat' split) <;> exact .nothing _
  · unfold queryCounters; split
    · split
      · exact .nothing _
      · split
        · exact .countersCleared
        · exact .nothing _
    · exact .nothing _
  · unfold setFanOverride; split
    · split
      · exact .overrideSet _
      · exact .nothing _
    · exact .nothing _
  · unfold clearFanOverride; split
    · split
      · exact .nothing _
      · exact .overrideCleared
    · exact .nothing _
  · unfold lockOutFan; split
    · split
      · exact .lockedOut _ _ ‹_›
      · exact .nothing _
    · exact .nothing _
  · unfold unlockFan returnFan; split
    · split
      · split
        · exact .returned _ _ _ ‹_› (.inl ⟨rfl, ‹_›⟩)
        · exact .nothing _
      · exact .nothing _
    · exact .nothing _
  · unfold clearFanFault returnFan; split
    · split
      · split
        · exact .returned _ _ _ ‹_› (.inr ⟨rfl, ‹_›⟩)
        · exact .nothing _
      · exact .nothing _
    · exact .nothing _
  · unfold reserveBay; split
    · split
      · split
        · exact .nothing _
        · split
          · exact .reserved _ _ _ ‹_› ‹_›
          · exact .nothing _
      · exact .nothing _
    · exact .nothing _
  · unfold releaseBay; split
    · split
      · split
        · exact .released _ _ ‹_› ‹_›
        · exact .nothing _
      · exact .nothing _
    · exact .nothing _
  · unfold setBayService; split
    · split
      · split
        · simp only [Executed.did]; split
          · exact .putOut _
          · exact .broughtIn _
        · exact .nothing _
      · exact .nothing _
    · exact .nothing _
  · unfold closeZone; split
    · exact .serviceClose _ true rfl
    · exact .nothing _
  · unfold openZone; split
    · exact .serviceClose _ false rfl
    · exact .nothing _
  · unfold setLightOverride; split
    · split
      · exact .lightSet _ _
      · exact .nothing _
    · exact .nothing _
  · unfold clearLightOverride; split
    · split
      · exact .lightCleared _
      · exact .nothing _
    · exact .nothing _
  · unfold restartCommand; split <;> exact .nothing _
  · exact .nothing _

/-- A RESTART that passes its checks has changed nothing yet (R165). -/
theorem executeCommand_restarts {code : Byte} {args : List Byte} {s : State}
    (h : (executeCommand code args s).restarts code = true) :
    code = restartCode ∧ args = [] ∧ executeCommand code args s = .did s := by
  simp only [Executed.restarts, Bool.and_eq_true, decide_eq_true_eq] at h
  obtain ⟨rfl, hdone⟩ := h
  cases args with
  | nil => exact ⟨rfl, rfl, rfl⟩
  | cons a as => exact absurd hdone (by simp [executeCommand, restartCode, restartCommand, Executed.refuse])

/-! ### What taking a COMMAND can do (R148, R160, R161, R163, R165) -/

/-- Every state the command handling may leave. -/
inductive ServiceEffect (s : State) (code : Nat) : State → Prop
  | nothing : ServiceEffect s code s
  | overrun (h : s.working = true) : ServiceEffect s code (s.count .serviceOverrun)
  | unanswered (h : s.working = true) (t : State) (e : CommandEffect s code t) : ServiceEffect s code t
  | answered (h : s.working = true) (hroom : s.bus.queues.report.length < 4) (t : State)
      (e : CommandEffect s code t) (destination : Byte) (payload : List Byte) :
      ServiceEffect s code (t.join .report (.report destination payload false))
  | restartAnswered (h : s.working = true) (hroom : s.bus.queues.report.length < 4) (hcode : code = 0x7F)
      (destination : Byte) (payload : List Byte) (t : State)
      (ht : t = s.join .report (.report destination payload true)) :
      ServiceEffect s code (t.setBus { t.bus with restartPending := true })
  | restarted (h : s.receiving = true) (hcode : code = 0x7F) : ServiceEffect s code s.restartTaken

theorem serviceCommand_effect (s : State) (source destination code : Byte) (args : List Byte) :
    ServiceEffect s code.toNat (s.serviceCommand source destination code args) := by
  unfold State.serviceCommand
  have effect := executeCommand_effect code args s
  split
  · rename_i hworking
    split
    · exact .overrun hworking
    · split
      · split
        · exact .overrun hworking
        · rename_i hroom
          rw [not_le] at hroom
          dsimp only
          by_cases hrestart : (executeCommand code args s).restarts code = true
          · obtain ⟨rfl, -, hdid⟩ := executeCommand_restarts hrestart
            rw [if_pos hrestart, hrestart, hdid]
            exact .restartAnswered hworking hroom rfl _ _ _ rfl
          · rw [if_neg hrestart, Bool.eq_false_of_not_eq_true hrestart]
            exact .answered hworking hroom _ effect _ _
      · dsimp only
        split
        · rename_i hrestart
          obtain ⟨rfl, -, hdid⟩ := executeCommand_restarts hrestart
          rw [hdid]
          exact .restarted (by simp [State.receiving, hworking]) rfl
        · exact .unanswered hworking _ effect
  · split
    · rename_i hfallback
      obtain ⟨hst, -, rfl, -⟩ := hfallback
      exact .restarted (by simp [State.receiving, hst]) rfl
    · exact .nothing

/-! ### What a frame can do (R132..R138) -/

/-- Every state a frame may leave that is handed to a station which takes it, by its own command or by its last
character. -/
inductive FrameEffect (s : State) (codes : Nat → Prop) : State → Prop
  | passed : FrameEffect s codes s
  | rejected (n : CounterName) : FrameEffect s codes ((s.onLine .hunting .awaitIdle).count n)
  | bulletin (hworking : s.working = true) (source : Byte) (b : Bulletin) :
      FrameEffect s codes (s.frameAccepted.takeBulletin source b)
  | service (code : Nat) (hcode : codes code) (t : State) (e : ServiceEffect s.frameAccepted code t) :
      FrameEffect s codes t

theorem bulletinAccepted_effect (s : State) (codes : Nat → Prop) (source : Byte) (b : Bulletin) :
    FrameEffect s codes (s.bulletinAccepted source b) := by
  unfold State.bulletinAccepted
  split
  · exact .bulletin ‹_› _ _
  · exact .rejected .rxGood

theorem checkedFrame_effect (s : State) (kind source destination : Byte) (payload : List Byte) :
    FrameEffect s (fun _ => True) (s.checkedFrame kind source destination payload) := by
  unfold State.checkedFrame
  split
  · split
    · exact bulletinAccepted_effect _ _ _ _
    · exact .rejected _
  · split
    · exact bulletinAccepted_effect _ _ _ _
    · exact .rejected _
  · split
    · exact bulletinAccepted_effect _ _ _ _
    · exact .rejected _
  · split
    · exact .service _ trivial _ (serviceCommand_effect _ _ _ _ _)
    · exact .rejected _
  · exact .rejected .rxGood
  · exact .rejected _

/-- One more byte is either kept by the assembler or ends the frame. -/
theorem takeByte_effect (s : State) (taken : List Byte) :
    s.takeByte taken = s.setBus { s.bus with assembler := .inFrame taken } ∨
      FrameEffect s (fun _ => True) (s.takeByte taken) := by
  unfold State.takeByte
  split
  · split
    · split
      · exact .inr (.rejected _)
      · exact .inl rfl
    · split
      · exact .inr (.rejected _)
      · split
        · exact .inl rfl
        · dsimp only
          split
          · exact .inr (checkedFrame_effect _ _ _ _ _)
          · exact .inr (.rejected _)
  · exact .inl rfl

/-- A COMMAND frame at a station that takes it (R133, R135, R136, R137). -/
theorem commandFrame_taken_effect (s : State) (source destination code : Byte) (args : List Byte) :
    FrameEffect s (code.toNat = ·)
      (if s.filterRejects 4#8 destination then s.frameEnded.count .rxForeign
      else if 47 < args.length then s.frameEnded.count .rxLength
      else s.frameAccepted.serviceCommand source destination code args) := by
  split
  · exact .rejected _
  · split
    · exact .rejected _
    · exact .service _ rfl _ (serviceCommand_effect _ _ _ _ _)

/-! ### What any command can do -/

/-- The codes a command may bring to the command handling: its own, or for a character any. -/
def bringsCode (c : Instr) (code : Nat) : Prop :=
  (∃ b, c = .goodCharacter b) ∨ ∃ f, commandOf c = some f ∧ f.code.toNat = code

/-- Every state a command may leave, with the conditions it is taken under. -/
inductive Effect (s : State) : Instr → State → Prop
  | nothing (c : Instr) : Effect s c s
  -- resets and station states
  | reset (c : Instr) (st : Station) (u : StartUp) (k : Counters) (hst : st = .heldInReset ∨ st = .starting)
      (hu : u.clampedCount = 0) (hk : k = .zero ∨ k = s.counters)
      (hc : c ∈ [.powerOnReset, .lineReset, .resetEnd, .supplyFallsBelowRange]) : Effect s c (s.afterReset st u k)
  | listens (record : List Byte) (hst : s.station = .starting) (hpass : recordPasses (record.take 260) = true) :
      Effect s (.settingsReadComplete record)
        (s.enterListening (record.take 260) (settingsOfRecord (record.take 260)).value
          (settingsOfRecord (record.take 260)).corrections)
  | fallsBack (c : Instr) (hst : s.station = .starting) : Effect s c s.enterFallback
  | entersNormal (hst : s.station = .listening) : Effect s .listeningTimerExpiry
      (((s.setStation .normal).setStartup { s.startup with listeningTimer := none }).guidanceTold true false)
  -- air
  | roundStarts (h : s.working = true) : Effect s .pollRoundStart s.startRound
  | headAnswers (h : s.working = true) (p : Poll) (hp : s.air.poll = some p) (status : HeadStatus) (raw : Nat)
      (hraw : raw ≤ 4095) :
      Effect s (.headAnswer p.head status raw)
        ((s.setAir (s.air.mapHead p.head (fun h => h.answer status raw))).afterPoll p.head)
  | headMisses (h : s.working = true) (p : Poll) (hp : s.air.poll = some p) :
      Effect s .headAnswerWindowExpiry
        (((s.setAir (s.air.mapHead p.head Head.miss)).count .headMiss).afterPoll p.head)
  | sampled (h : s.working = true) (hexp : s.air.expiring = true) : Effect s .alarmHoldTimerExpiry s.airSample
  | purgeWorking (h : s.working = true) (v : Bool) (hv : s.inputs.purge.filtered ≠ v) (taken : State)
      (htaken : taken = s.setInputs { s.inputs with purge := s.inputs.purge.take v }) :
      Effect s (.purgeFilterChange v) (((taken.queueAlert).recompute false).guidanceTold false false).formForcing
  | purgeResting (h : s.working = false) (hst : s.station ≠ .heldInReset) (v : Bool)
      (hv : s.inputs.purge.filtered ≠ v) (taken : State)
      (htaken : taken = s.setInputs { s.inputs with purge := s.inputs.purge.take v }) :
      Effect s (.purgeFilterChange v) (taken.guidanceTold false false)
  -- fans
  | confirmKept (c : Instr) (n : Nat) (v : Bool) :
      Effect s c (s.setInputs { s.inputs with runConfirm := takeAt s.inputs.runConfirm n v })
  | confirmStarts (h : s.working = true) (n : Nat) (f : Fan) (hf : s.vent.fan? n = some f) (hst : f.state = .starting) :
      Effect s (.runConfirmActive n)
        ((s.setInputs { s.inputs with runConfirm := takeAt s.inputs.runConfirm n true }).setVent
          (s.vent.mapFan n (fun x => x.inState .running))).allocate
  | lossSet (h : s.working = true) (c : Instr) (n : Nat) (v : Bool) (l : Timer) (f : Fan) (hf : s.vent.fan? n = some f)
      (hst : f.state = .running) :
      Effect s c ((s.setInputs { s.inputs with runConfirm := takeAt s.inputs.runConfirm n v }).setVent
          (s.vent.mapFan n (fun x => { x with loss := l })))
  | fanFails (h : s.working = true) (c : Instr) (n : Nat) (hc : c = .confirmTimerExpiry n ∨ c = .lossTimerExpiry n)
      (f : Fan) (hf : s.vent.fan? n = some f) (hst : f.state = .starting ∨ f.state = .running) :
      Effect s c (s.setVent (s.vent.failFan n)).allocate
  | fallbackStarts (hfb : s.station = .fallback) (n : Nat) (f : Fan) (hf : s.vent.fan? n = some f)
      (hst : f.state = .starting) :
      Effect s (.fallbackStartTimerExpiry n) (s.setVent (s.vent.mapFan n (fun x => x.inState .running))).allocate
  | coasted (h : s.receiving = true) (n : Nat) (f : Fan) (hf : s.vent.fan? n = some f) (hst : f.state = .stopping) :
      Effect s (.coastTimerExpiry n) (s.setVent (s.vent.mapFan n (fun x => x.inState .stopped))).allocate
  | overrideExpires (h : s.working = true) : Effect s .fanOverrideExpiry s.endFanOverride
  -- bays and gates
  | scanStarts (h : s.working = true) : Effect s .bayScanStart s.startScan
  | readEnds (h : s.working = true) (c : Instr) (r : BayRead) (hr : s.bays.reading = some r) (a : BayAnswer) :
      Effect s c (s.endRead r a)
  | reservationExpires (h : s.working = true) (n : Nat) (b : Bay) (hb : s.bays.bay? n = some b)
      (hst : b.state = .reserved) :
      Effect s (.reservationExpiry n) (s.changeBay n (fun x => x.enter .free))
  | loopMoves (h : s.working = true) (n : Nat) (loop : Loop) (on : Bool) (g : Gate) (hg : s.bays.gate? n = some g)
      (hon : s.inputs.loopOn n loop ≠ on) (inputs : Inputs) (hin : inputs = s.inputs.takeLoop n loop on)
      (next : GateState × Option Passage)
      (hnext : next = g.state.next loop on (!inputs.loopOn n .outer && !inputs.loopOn n .inner)) (moved : State)
      (hmoved : moved = (s.setInputs inputs).setBays
        (s.bays.mapGate n (fun x => { x with state := next.1, timer := gateTimerAfter g.state next.1 x.timer }))) :
      Effect s (.loopChange n loop on)
        (match next.2 with
          | some p => moved.passage g.settings p
          | none => moved)
  | gateSticks (h : s.working = true) (n : Nat) (g : Gate) (hg : s.bays.gate? n = some g) (ht : g.timer ≠ none) :
      Effect s (.gateTimerExpiry n)
        ((s.setBays (s.bays.mapGate n (fun x => { x with state := .blocked, timer := none }))).count .gateStuck)
  | ringRotates (h : s.working = true) : Effect s .trafficRingRotation
      (s.setBays { s.bays with ring := s.bays.ring.rotate, ringTimer := some (seconds 10) })
  -- peers
  | swept (h : s.working = true) : Effect s .sweep
      ((s.setPeers { s.peers with sweepTimer := some (seconds s.settings.sweepInterval) }).peersChanged
        (s.peers.slots.map (fun slot => slot.bind Peer.sweep)) false)
  -- the sign link
  | signsMarked (h : s.working = true) (c : Instr) (n : Nat) (due : Bool) (refresh : Timer) (last : Nat)
      (e : Option Exchange) :
      Effect s c (s.setGuide { s.guide.mapSign n (fun x => { x with due := due, refresh := refresh }) with
        lastServed := last, exchange := e })
  | charactersGathered (he : s.guide.exchange ≠ none) (c : Instr) (e : Option Exchange) :
      Effect s c (s.setGuide { s.guide with exchange := e })
  | signAnswered (hfb : s.station ≠ .fallback) (c : Instr) (n : Nat) (status : SignStatus) :
      Effect s c (s.setGuide { s.guide.mapSign n (fun g => g.answered status) with exchange := none })
  | signMissed (hfb : s.station ≠ .fallback) (n : Nat) : Effect s .signAnswerWindowExpiry
      ((s.setGuide { s.guide.mapSign n Sign.missed with exchange := none }).count .signMiss)
  | blankSent (hfb : s.station = .fallback) (c : Instr) (timer : Timer) (due : List Nat) :
      Effect s c (s.setGuide { s.guide with fallbackTimer := timer, fallbackDue := due }.sendFallback)
  | blankDue (hfb : s.station = .fallback) (c : Instr) (timer : Timer) (due : List Nat) :
      Effect s c (s.setGuide { s.guide with fallbackTimer := timer, fallbackDue := due })
  -- lighting
  | motionStarts (h : s.working = true) (n : Nat) (taken : State)
      (htaken : taken = s.setInputs { s.inputs with motion := takeAt s.inputs.motion n true }) :
      Effect s (.motionChange n true) ((taken.presence (taken.light.motionSet n)).setRepeat n (some 5000))
  | motionEnds (h : s.working = true) (n : Nat) (taken : State)
      (htaken : taken = s.setInputs { s.inputs with motion := takeAt s.inputs.motion n false }) :
      Effect s (.motionChange n false) (taken.setRepeat n none)
  | motionRepeats (h : s.working = true) (n : Nat) :
      Effect s (.motionRepeatTimerExpiry n) ((s.presence (s.light.motionSet n)).setRepeat n (some 5000))
  | holdExpires (h : s.working = true) (n : Nat) (k : Channel) (hk : s.light.channel? n = some k)
      (hst : k.state = .active) :
      Effect s (.channelHoldTimerExpiry n) (s.setLight (s.light.mapChannel n Channel.holdExpires))
  | dims (h : s.working = true) (n : Nat) (k : Channel) (hk : s.light.channel? n = some k) (hst : k.state = .dimming) :
      Effect s (.dimTimerExpiry n) (s.setLight (s.light.mapChannel n Channel.dimExpires))
  | lightOverrideEnds (h : s.working = true) (n : Nat) :
      Effect s (.lightOverrideExpiry n) (s.setLight (s.light.mapChannel n Channel.endOverride))
  -- sending
  | periodEnds (h : s.working = true) : Effect s .statusPeriodTimerExpiry
      (s.setBus { s.bus with periodTimer := some (seconds s.settings.statusPeriod) }).queueStatus
  | spacingEnds (h : s.working = true) : Effect s .spacingTimerExpiry
      (s.setBus { s.bus with spacingTimer := none, owed := false })
  | owedQueued (h : s.working = true) : Effect s .spacingTimerExpiry
      (s.setBus { s.bus with spacingTimer := none, owed := false }).queueStatus
  | gapEnds (cls : TxClass) (bits : Nat) (hgap : s.bus.transmitter = .gap cls bits) :
      Effect s .gapCountedOut (s.beginHead cls)
  | collides (cls : TxClass) (bytes : List Byte) (hs : s.bus.transmitter = .sending cls bytes)
      (hl : s.bus.lastAttempt cls = false) :
      Effect s .collision ((s.count .txCollision).setBus { s.bus with
        queues := s.bus.queues.put cls (retryHead cls (s.bus.queues.get cls)), transmitter := .backoff })
  | dropped (cls : TxClass) (bytes : List Byte) (hs : s.bus.transmitter = .sending cls bytes) :
      Effect s .collision (((s.count .txCollision).count .txDrop).setBus
        { s.bus.dropHead cls with transmitter := .backoff })
  | droppedRestarts (cls : TxClass) (bytes : List Byte) (hs : s.bus.transmitter = .sending cls bytes)
      (hr : s.bus.headRestarts cls = true) :
      Effect s .collision ((s.count .txCollision).count .txDrop).restartTaken
  | sent (cls : TxClass) (bytes : List Byte) (hs : s.bus.transmitter = .sending cls bytes) (credits : Credits) :
      Effect s .txComplete ((s.count .txGood).setBus { s.bus.dropHead cls with
        transmitter := if (s.bus.dropHead cls).queues.nonEmpty = [] then .atRest else .waitingIdle
        credits := credits })
  | sentRestarts (cls : TxClass) (bytes : List Byte) (hs : s.bus.transmitter = .sending cls bytes)
      (hr : s.bus.headRestarts cls = true) : Effect s .txComplete (s.count .txGood).restartTaken
  -- the line
  | line (h : s.receiving = true ∨ s.bus.transmitter ≠ .atRest) (c : Instr) (r : Receiver) (a : Assembler) : Effect s c (s.onLine r a)
  | lineCounted (h : s.receiving = true) (c : Instr) (r : Receiver) (a : Assembler) (n : CounterName) : Effect s c ((s.onLine r a).count n)
  | idles (h : s.hears = true) (idle : State)
      (hidle : idle = s.setBus { s.bus with idleCount := 353, receiver := .hunting, assembler := .awaitMarker })
      (t : State) (ht : t = idle ∨ t = idle.count .rxLength) : Effect s .idleEvent t
  | idleSelects (h : s.hears = true) (hw : s.bus.transmitter = .waitingIdle ∨ s.bus.transmitter = .backoff) (idle : State)
      (hidle : idle = s.setBus { s.bus with idleCount := 353, receiver := .hunting, assembler := .awaitMarker })
      (t : State) (ht : t = idle ∨ t = idle.count .rxLength) : Effect s .idleEvent t.enterGap
  | frame (c : Instr) (t : State) (h : s.receiving = true) (e : FrameEffect s (bringsCode c) t) : Effect s c t

/-! ### Every command is inverted -/

theorem FrameEffect.mono {s t : State} {codes codes' : Nat → Prop} (h : ∀ k, codes k → codes' k)
    (e : FrameEffect s codes t) : FrameEffect s codes' t := by
  cases e with
  | passed => exact .passed
  | rejected n => exact .rejected n
  | bulletin hworking source b => exact .bulletin hworking source b
  | service code hcode _ e => exact .service code (h _ hcode) _ e

/-- A frame's effect begins with the line, so it is the same whatever receiver and assembler stood at before it. -/
theorem FrameEffect.of_onLine {s t : State} {codes : Nat → Prop} {c : Instr} {r : Receiver} {a : Assembler}
    (h : s.receiving = true) (hcodes : ∀ k, codes k → bringsCode c k) (e : FrameEffect (s.onLine r a) codes t) :
    Effect s c t := by
  cases e with
  | passed => exact .line (.inl h) c r a
  | rejected n =>
    rw [State.onLine_onLine]
    exact .lineCounted h c _ _ n
  | bulletin hworking source b =>
    rw [State.onLine_frameAccepted]
    exact .frame c _ h (.bulletin (s := s) hworking source b)
  | service code hcode _ e =>
    rw [State.onLine_frameAccepted] at e
    exact .frame c _ h (.service code (hcodes _ hcode) _ e)

theorem State.takesFrames_receiving {s : State} (h : s.takesFrames = true) : s.receiving = true := by
  simp only [State.takesFrames, State.hears, Bool.and_eq_true] at h
  exact h.1.1

/-- A frame-level command takes its frame or discards it (R132, R138). -/
theorem onFrame_effect {s t : State} {c : Instr} {codes : Nat → Prop} (hcodes : ∀ k, codes k → bringsCode c k)
    (e : FrameEffect s codes t) : Effect s c (s.onFrame t) := by
  unfold State.onFrame
  split
  · exact .frame c _ (State.takesFrames_receiving ‹_›) (e.mono hcodes)
  · by_cases h : s.receiving = true
    · rw [State.frameDiscarded_eq_onLine h]
      exact .line (.inl h) c _ _
    · simp only [State.frameDiscarded, h]
      exact .nothing c

/-- A service command's frame. -/
theorem commandFrame_effect {s : State} {c : Instr} {source destination code : Byte} {args : List Byte}
    (hc : commandOf c = some ⟨source, destination, code, args⟩) :
    Effect s c (s.commandFrame source destination code args) :=
  onFrame_effect (fun _ hk => .inr ⟨_, hc, hk⟩) (commandFrame_taken_effect s source destination code args)

theorem execGoodCharacter_effect (b : Byte) (s t : State) (h : execGoodCharacter b s = .next t) :
    Effect s (.goodCharacter b) t := by
  unfold execGoodCharacter at h
  split at h
  · rename_i hrec
    dsimp only at h
    split at h
    · split at h <;> cases h
      · exact .line (.inl ‹_›) _ _ _
      · exact .line (.inl ‹_›) _ _ _
      · rename_i taken _
        rcases takeByte_effect (s.onLine .hunting s.bus.assembler) (taken ++ [b]) with heq | heff
        · exact heq ▸ .line (.inl hrec) _ _ _
        · exact heff.of_onLine hrec (fun _ _ => .inl ⟨b, rfl⟩)
    · cases h
      exact .line (.inl ‹_›) _ _ _
  · cases h
    exact .nothing _

theorem execBadCharacter_effect (e : CharError) (s t : State) (h : execBadCharacter e s = .next t) :
    Effect s (.badCharacter e) t := by
  unfold execBadCharacter at h
  split at h
  · dsimp only at h
    split at h
    · split at h <;> cases h
      · exact .line (.inl ‹_›) _ _ _
      · exact .lineCounted ‹_› _ _ _ _
      · exact .lineCounted ‹_› _ _ _ _
    · cases h
      exact .line (.inl ‹_›) _ _ _
  · cases h
    exact .nothing _

theorem execIdleEvent_effect (s t : State) (h : execIdleEvent s = .next t) : Effect s .idleEvent t := by
  unfold execIdleEvent at h
  split at h
  · rename_i hhears
    dsimp only at h
    have counted : ∀ a, (match a with
          | Assembler.inFrame _ => (s.setBus { s.bus with
              idleCount := 353, receiver := .hunting, assembler := .awaitMarker }).count .rxLength
          | _ => s.setBus { s.bus with idleCount := 353, receiver := .hunting, assembler := .awaitMarker }) =
        s.setBus { s.bus with idleCount := 353, receiver := .hunting, assembler := .awaitMarker } ∨
        (match a with
          | Assembler.inFrame _ => (s.setBus { s.bus with
              idleCount := 353, receiver := .hunting, assembler := .awaitMarker }).count .rxLength
          | _ => s.setBus { s.bus with idleCount := 353, receiver := .hunting, assembler := .awaitMarker }) =
        (s.setBus { s.bus with idleCount := 353, receiver := .hunting, assembler := .awaitMarker }).count .rxLength := by
      intro a
      cases a
      · exact .inl rfl
      · exact .inl rfl
      · exact .inr rfl
    split at h <;> cases h
    · exact .idleSelects hhears (.inl ‹_›) _ rfl _ (counted _)
    · exact .idleSelects hhears (.inr ‹_›) _ rfl _ (counted _)
    · exact .idles hhears _ rfl _ (counted _)
  · cases h
    exact .nothing _

theorem execSignAnswer_effect (cs : List RxChar) (s t : State) (h : execSignAnswer cs s = .next t) :
    Effect s (.signAnswer cs) t := by
  unfold execSignAnswer at h
  split at h
  · cases h
    exact .nothing _
  · split at h
    · split at h
      · cases h
        exact .charactersGathered (by simp [*]) _ _
      · split at h <;> cases h
        · exact .blankSent ‹_› _ s.guide.fallbackTimer s.guide.fallbackDue
        · exact .signAnswered ‹_› _ _ _
    · cases h
      exact .nothing _

theorem execLoopChange_effect (n : Nat) (loop : Loop) (on : Bool) (s t : State)
    (h : execLoopChange n loop on s = .next t) : Effect s (.loopChange n loop on) t := by
  unfold execLoopChange at h
  split at h
  · rename_i g hworking hg
    split at h
    · cases h
      exact .nothing _
    · rename_i hon
      have e := Effect.loopMoves hworking n loop on g hg hon _ rfl _ rfl _ rfl
      dsimp only at h e
      split at h <;> cases h <;> simpa only [*] using e
  · cases h
    exact .nothing _

/-- The one inversion of `exec`: whatever a command answers is one of its effects. -/
theorem exec_effect {c : Instr} {s t : State} (h : exec c s = .next t) : Effect s c t := by
  cases c <;> simp only [exec] at h
  case powerOnReset => cases h; exact .reset _ _ _ _ (.inl rfl) rfl (.inl rfl) (by simp)
  case lineReset => cases h; exact .reset _ _ _ _ (.inl rfl) rfl (.inl rfl) (by simp)
  case resetEnd =>
    unfold execResetEnd at h
    split at h <;> cases h
    · exact .reset _ _ _ _ (.inr rfl) rfl (.inr rfl) (by simp)
    · exact .nothing _
  case supplyFallsBelowRange => cases h; exact .reset _ _ _ _ (.inl rfl) rfl (.inr rfl) (by simp)
  case settingsReadComplete record =>
    unfold execSettingsReadComplete at h
    dsimp only at h
    split at h
    · split at h <;> cases h
      · exact .listens record ‹_› ‹_›
      · exact .fallsBack _ ‹_›
    · cases h; exact .nothing _
  case settingsReadTimeout =>
    unfold execSettingsReadTimeout at h
    split at h <;> cases h
    · exact .fallsBack _ ‹_›
    · exact .nothing _
  case listeningTimerExpiry =>
    unfold execListeningTimerExpiry at h
    split at h <;> cases h
    · exact .entersNormal ‹_›
    · exact .nothing _
  case pollRoundStart =>
    unfold execPollRoundStart at h
    split at h <;> cases h
    · exact .roundStarts ‹_›
    · exact .nothing _
  case headAnswer head status raw =>
    unfold execHeadAnswer at h
    split at h
    · rename_i p hworking hp
      split at h <;> cases h
      · rename_i hhead
        obtain ⟨rfl, hraw⟩ := hhead
        exact .headAnswers hworking p hp status raw hraw
      · exact .nothing _
    · cases h; exact .nothing _
  case headAnswerWindowExpiry =>
    unfold execHeadAnswerWindowExpiry at h
    split at h <;> cases h
    · exact .headMisses ‹_› _ ‹_›
    · exact .nothing _
  case alarmHoldTimerExpiry =>
    unfold execAlarmHoldTimerExpiry at h
    split at h <;> cases h
    · rename_i hboth
      rw [Bool.and_eq_true] at hboth
      exact .sampled hboth.1 hboth.2
    · exact .nothing _
  case purgeFilterChange v =>
    unfold execPurgeFilterChange at h
    split at h
    · cases h; exact .nothing _
    · rename_i hchange
      rw [not_or] at hchange
      dsimp only at h
      split at h <;> cases h
      · exact .purgeWorking ‹_› v hchange.2 _ rfl
      · exact .purgeResting (by simpa using ‹¬s.working = true›) hchange.1 v hchange.2 _ rfl
  case runConfirmActive n =>
    unfold execRunConfirmActive at h
    split at h
    · split at h
      · cases h; exact .nothing _
      · dsimp only at h
        split at h
        · split at h
          · cases h; exact .confirmStarts ‹_› n _ ‹_› ‹_›
          · split at h <;> cases h
            · exact .lossSet ‹_› _ n true none _ ‹_› ‹_›
            · exact .confirmKept _ n true
        · cases h; exact .confirmKept _ n true
    · cases h; exact .nothing _
  case runConfirmLost n =>
    unfold execRunConfirmLost at h
    split at h
    · split at h
      · dsimp only at h
        split at h
        · split at h <;> cases h
          · exact .lossSet ‹_› _ n false _ _ ‹_› ‹_›
          · exact .confirmKept _ n false
        · cases h; exact .confirmKept _ n false
      · cases h; exact .nothing _
    · cases h; exact .nothing _
  case confirmTimerExpiry n =>
    unfold execConfirmTimerExpiry at h
    split at h
    · split at h <;> cases h
      · exact .fanFails ‹_› _ n (.inl rfl) _ ‹_› (.inl (And.left ‹_›))
      · exact .nothing _
    · cases h; exact .nothing _
  case fallbackStartTimerExpiry n =>
    unfold execFallbackStartTimerExpiry at h
    split at h
    · split at h <;> cases h
      · exact .fallbackStarts (of_decide_eq_true ‹_›) n _ ‹_› (And.left ‹_›)
      · exact .nothing _
    · cases h; exact .nothing _
  case lossTimerExpiry n =>
    unfold execLossTimerExpiry at h
    split at h
    · split at h <;> cases h
      · exact .fanFails ‹_› _ n (.inr rfl) _ ‹_› (.inr (And.left ‹_›))
      · exact .nothing _
    · cases h; exact .nothing _
  case coastTimerExpiry n =>
    unfold execCoastTimerExpiry at h
    split at h
    · split at h <;> cases h
      · exact .coasted ‹_› n _ ‹_› (And.left ‹_›)
      · exact .nothing _
    · cases h; exact .nothing _
  case fanOverrideExpiry =>
    unfold execFanOverrideExpiry at h
    split at h
    · split at h <;> cases h
      · exact .overrideExpires ‹_›
      · exact .nothing _
    · cases h; exact .nothing _
  case bayScanStart =>
    unfold execBayScanStart at h
    split at h <;> cases h
    · exact .scanStarts ‹_›
    · exact .nothing _
  case bayAnswer bay a =>
    unfold execBayAnswer at h
    split at h <;> cases h
    · exact .readEnds ‹_› _ _ ‹_› _
    · exact .nothing _
  case bayReadNoAnswer =>
    unfold execBayReadNoAnswer at h
    split at h <;> cases h
    · exact .readEnds ‹_› _ _ ‹_› _
    · exact .nothing _
  case reservationExpiry n =>
    unfold execReservationExpiry at h
    split at h
    · split at h <;> cases h
      · exact .reservationExpires ‹_› n _ ‹_› ‹_›
      · exact .nothing _
    · cases h; exact .nothing _
  case loopChange n loop on => exact execLoopChange_effect n loop on s t h
  case gateTimerExpiry n =>
    unfold execGateTimerExpiry at h
    split at h
    · split at h <;> cases h
      · exact .nothing _
      · exact .gateSticks ‹_› n _ ‹_› ‹_›
    · cases h; exact .nothing _
  case trafficRingRotation =>
    unfold execTrafficRingRotation at h
    split at h <;> cases h
    · exact .ringRotates ‹_›
    · exact .nothing _
  case sweep =>
    unfold execSweep at h
    split at h <;> cases h
    · exact .swept ‹_›
    · exact .nothing _
  case signRefreshTimerExpiry n =>
    unfold execSignRefreshTimerExpiry at h
    split at h
    · split at h <;> cases h
      · exact .nothing _
      · exact .signsMarked ‹_› _ n true none s.guide.lastServed s.guide.exchange
    · cases h; exact .nothing _
  case signExchangeStart =>
    unfold execSignExchangeStart at h
    split at h <;> cases h
    · exact .signsMarked ‹_› _ _ false _ _ _
    · exact .nothing _
  case signAnswer cs => exact execSignAnswer_effect cs s t h
  case signAnswerWindowExpiry =>
    unfold execSignAnswerWindowExpiry at h
    split at h
    · split at h <;> cases h
      · exact .blankSent ‹_› _ s.guide.fallbackTimer s.guide.fallbackDue
      · exact .signMissed ‹_› _
    · cases h; exact .nothing _
  case fallbackSignTimerExpiry =>
    unfold execFallbackSignTimerExpiry at h
    split at h
    · dsimp only at h
      split at h <;> cases h
      · exact .blankSent ‹_› _ _ _
      · exact .blankDue ‹_› _ _ _
    · cases h; exact .nothing _
  case motionChange n active =>
    unfold execMotionChange at h
    split at h
    · split at h
      · cases h; exact .nothing _
      · cases active <;> cases h
        · exact .motionEnds ‹_› n _ rfl
        · exact .motionStarts ‹_› n _ rfl
    · cases h; exact .nothing _
  case motionRepeatTimerExpiry n =>
    unfold execMotionRepeatTimerExpiry at h
    split at h <;> cases h
    · rename_i hboth
      rw [Bool.and_eq_true] at hboth
      exact .motionRepeats hboth.1 n
    · exact .nothing _
  case channelHoldTimerExpiry n =>
    unfold execChannelHoldTimerExpiry at h
    split at h
    · split at h <;> cases h
      · exact .holdExpires ‹_› n _ ‹_› (And.left ‹_›)
      · exact .nothing _
    · cases h; exact .nothing _
  case dimTimerExpiry n =>
    unfold execDimTimerExpiry at h
    split at h
    · split at h <;> cases h
      · exact .dims ‹_› n _ ‹_› (And.left ‹_›)
      · exact .nothing _
    · cases h; exact .nothing _
  case lightOverrideExpiry n =>
    unfold execLightOverrideExpiry at h
    split at h
    · split at h <;> cases h
      · exact .lightOverrideEnds ‹_› n
      · exact .nothing _
    · cases h; exact .nothing _
  case idleEvent => exact execIdleEvent_effect s t h
  case badCharacter e => exact execBadCharacter_effect e s t h
  case goodCharacter b => exact execGoodCharacter_effect b s t h
  case addressFilterReject kind destination =>
    cases h
    exact onFrame_effect (codes := fun _ => False) (fun _ hk => hk.elim) (by split; exacts [.rejected _, .passed])
  case lengthByteReject length =>
    cases h
    exact onFrame_effect (codes := fun _ => False) (fun _ hk => hk.elim) (by split; exacts [.rejected _, .passed])
  case frameCheckFail kind length crcGood =>
    cases h
    refine onFrame_effect (codes := fun _ => False) (fun _ hk => hk.elim) ?_
    split
    · exact .rejected _
    · split
      · exact .rejected _
      · split
        · exact .rejected _
        · exact .passed
  case statusReceived source content =>
    cases h
    exact onFrame_effect (codes := fun _ => False) (fun _ hk => hk.elim) (bulletinAccepted_effect _ _ _ _)
  case alertReceived source content =>
    cases h
    exact onFrame_effect (codes := fun _ => False) (fun _ hk => hk.elim) (bulletinAccepted_effect _ _ _ _)
  case passageReceived source named =>
    cases h
    exact onFrame_effect (codes := fun _ => False) (fun _ hk => hk.elim) (bulletinAccepted_effect _ _ _ _)
  case statusPeriodTimerExpiry =>
    unfold execStatusPeriodTimerExpiry at h
    split at h <;> cases h
    · rename_i hboth
      rw [Bool.and_eq_true] at hboth
      exact .periodEnds hboth.1
    · exact .nothing _
  case spacingTimerExpiry =>
    unfold execSpacingTimerExpiry at h
    split at h
    · rename_i hboth
      rw [Bool.and_eq_true] at hboth
      dsimp only at h
      split at h <;> cases h
      · exact .owedQueued hboth.1
      · exact .spacingEnds hboth.1
    · cases h; exact .nothing _
  case lineBusyInGap =>
    unfold execLineBusyInGap at h
    split at h <;> cases h
    · exact .line (.inr (by simp [*])) _ _ _
    · exact .nothing _
  case gapCountedOut =>
    unfold execGapCountedOut at h
    split at h <;> cases h
    · exact .gapEnds _ _ ‹_›
    · exact .nothing _
  case collision =>
    unfold execCollision at h
    split at h
    · dsimp only at h
      split at h
      · split at h <;> cases h
        · exact .droppedRestarts _ _ ‹_› ‹_›
        · exact .dropped _ _ ‹_›
      · cases h; exact .collides _ _ ‹_› (by simpa using ‹¬_ = true›)
    · cases h; exact .nothing _
  case txComplete =>
    unfold execTxComplete at h
    split at h
    · dsimp only at h
      split at h <;> cases h
      · exact .sentRestarts _ _ ‹_› ‹_›
      · exact .sent _ _ ‹_› _
    · cases h; exact .nothing _
  case startOfCharacter =>
    unfold execStartOfCharacter at h
    split at h <;> cases h
    · exact .line (.inl ‹_›) _ _ _
    · exact .nothing _
  all_goals
    cases h
    exact commandFrame_effect rfl

end Sys2Proof.Machine
end

section
/-! PROOFS. Every command completes, and a step is a command or the clock. -/

namespace Sys2Proof.Machine

/-! ### Every command answers a next state -/

/-- No meaning faults and none is refused. -/
theorem exec_answers (c : Instr) (s : State) : ∃ t, exec c s = .next t := by
  -- every meaning is a tree of conditions with a next state at each leaf
  cases c <;>
    dsimp only
      [exec, execSettingsReadComplete, execPurgeFilterChange, execRunConfirmActive, execRunConfirmLost,
      execLoopChange, execMotionChange, execGoodCharacter, execBadCharacter, execIdleEvent, execCollision,
      execTxComplete, execSpacingTimerExpiry, execFallbackSignTimerExpiry, execResetEnd,
      execSettingsReadTimeout, execListeningTimerExpiry, execPollRoundStart, execHeadAnswer,
      execHeadAnswerWindowExpiry, execAlarmHoldTimerExpiry, execConfirmTimerExpiry,
      execFallbackStartTimerExpiry, execLossTimerExpiry, execCoastTimerExpiry, execFanOverrideExpiry,
      execBayScanStart, execBayAnswer, execBayReadNoAnswer, execReservationExpiry, execGateTimerExpiry,
      execTrafficRingRotation, execSweep, execSignRefreshTimerExpiry, execSignExchangeStart, execSignAnswer,
      execSignAnswerWindowExpiry, execMotionRepeatTimerExpiry, execChannelHoldTimerExpiry,
      execDimTimerExpiry, execLightOverrideExpiry, execStatusPeriodTimerExpiry, execLineBusyInGap,
      execGapCountedOut, execStartOfCharacter] <;>
    (repeat' split) <;> exact ⟨_, rfl⟩

/-- Enough to show of every effect what a command is to answer. -/
theorem answers_of_effect {c : Instr} {s : State} {p : State → Prop} (h : ∀ t, Effect s c t → p t) :
    Answers (exec c s) p := by
  obtain ⟨t, ht⟩ := exec_answers c s
  exact ⟨t, ht, h t (exec_effect ht)⟩

/-! ### The queue of commands -/

theorem CommandEffect.pending {s t : State} {code : Nat} (e : CommandEffect s code t) : t.pending = s.pending := by
  cases e <;> simp

theorem ServiceEffect.pending {s t : State} {code : Nat} (e : ServiceEffect s code t) : t.pending = s.pending := by
  cases e with
  | unanswered _ _ e => exact e.pending
  | answered _ _ _ e => simpa using e.pending
  | restartAnswered _ _ _ _ _ _ ht => simp [ht]
  | _ => simp

theorem FrameEffect.pending {s t : State} {codes : Nat → Prop} (e : FrameEffect s codes t) :
    t.pending = s.pending := by
  cases e with
  | service _ _ _ e => simpa using e.pending
  | _ => simp

theorem State.enterListening_pending (s : State) (image : List Byte) (c : Settings) (k : Nat) :
    (s.enterListening image c k).pending = s.pending := by
  simp [State.enterListening]

theorem State.enterFallback_pending (s : State) : s.enterFallback.pending = s.pending := by
  simp [State.enterFallback]

theorem Effect.pending {s t : State} {c : Instr} (e : Effect s c t) : t.pending = s.pending := by
  cases e with
  | listens => exact s.enterListening_pending _ _ _
  | fallsBack => exact s.enterFallback_pending
  | purgeWorking _ _ _ _ h => simp [h]
  | purgeResting _ _ _ _ _ h => simp [h]
  | motionStarts _ _ _ h => simp [h]
  | motionEnds _ _ _ h => simp [h]
  | loopMoves _ _ _ _ _ _ _ _ _ next _ _ h => cases hp : next.2 <;> simp [h]
  | idles _ _ h _ ht => rcases ht with rfl | rfl <;> simp [h]
  | idleSelects _ _ _ h _ ht => rcases ht with rfl | rfl <;> simp [h]
  | frame _ _ _ e => exact e.pending
  | _ => simp

/-- Settles O2: no arm of `exec` stops, and no effect touches the queue. -/
theorem everyCommandCompletesAndKeepsTheQueue : Obligations.EveryCommandCompletesAndKeepsTheQueue :=
  fun _ _ => answers_of_effect fun _ e => e.pending

/-! ### A step is a command or the clock (log 1) -/

/-- What every command and a tick keep, whatever the queue, every step keeps. -/
theorem step_keeps {I : State → Prop} (hqueue : ∀ s q, I s → I (s.setPending q)) (htick : ∀ s, I s → I s.tick)
    (heffect : ∀ s c t, Effect s c t → I s → I t) {s t : State} (h : step s = .next t) (hs : I s) : I t := by
  unfold step at h
  split at h
  · exact heffect _ _ _ (exec_effect h) (hqueue _ _ hs)
  · unfold State.idleStep at h
    split at h
    · exact heffect _ _ _ (exec_effect h) hs
    · cases h
      exact htick _ hs

end Sys2Proof.Machine
end

section
/-! PROOFS. The counters (R169) and the sending side (R145..R148, R153, R154) after every step. -/

namespace Sys2Proof.Machine

/-! ### What a bulletin and a passage do -/

/-- A bulletin is counted as foreign or as a clash of addresses, or changes the table (R75, R76, R79). -/
theorem State.takeBulletin_cases (s : State) (source : Byte) (b : Bulletin) :
    (∃ n, s.takeBulletin source b = s.count n) ∨
      ∃ slots, s.peers.taken source.toNat b = some slots ∧ 1 ≤ source.toNat ∧ source.toNat ≤ 62 ∧
        source.toNat ≠ s.settings.ownAddress ∧
        s.takeBulletin source b = (s.peersChanged slots (s.statusOfDrive source.toNat b)).presence
          (s.passageLights source.toNat b) := by
  unfold State.takeBulletin
  dsimp only
  split
  · exact .inl ⟨_, rfl⟩
  · split
    · exact .inl ⟨_, rfl⟩
    · split
      · exact .inl ⟨_, rfl⟩
      · exact .inr ⟨_, ‹_›, by omega, by omega, ‹_›, rfl⟩

/-- A passage raises the bucket and the gate's channels, and may queue a PASSAGE (R67, R68). -/
theorem State.passage_cases (s : State) (g : GateSettings) (p : Passage) :
    s.passage g p = (s.setBays { s.bays with ring := s.bays.ring.passed }).presence g.channels ∨
      ∃ station, p = .outward ∧ g.farSide = some station ∧
        s.passage g p =
          ((s.setBays { s.bays with ring := s.bays.ring.passed }).presence g.channels).queuePassage station := by
  unfold State.passage
  dsimp only
  split
  · exact .inr ⟨_, rfl, ‹_›, rfl⟩
  · exact .inl rfl

/-! ### The counters -/

theorem Counter.legal_bump {c : Counter} (h : c.Legal) : c.bump.Legal := by
  obtain ⟨hcount, hover⟩ := h
  unfold Counter.bump
  split
  · exact ⟨by simp only; omega, fun ho => by have := hover ho; omega⟩
  · exact ⟨hcount, fun _ => by simp only; omega⟩

theorem State.CountersSound.of_eq {s t : State} (h : s.CountersSound) (ht : t.counters = s.counters) :
    t.CountersSound := by
  unfold State.CountersSound
  rwa [ht]

theorem State.CountersSound.count {s : State} (h : s.CountersSound) (n : CounterName) : (s.count n).CountersSound := by
  intro m hm
  rw [State.count_get]
  split
  · exact Counter.legal_bump (h n n.mem_all)
  · exact h m hm

theorem countersSound_of_zero {t : State} (h : t.counters = .zero) : t.CountersSound := by
  intro n _
  rw [h]
  cases n <;> decide

theorem State.CountersSound.queuePassage {s : State} (h : s.CountersSound) (n : Nat) :
    (s.queuePassage n).CountersSound := by
  unfold State.queuePassage
  split
  · exact h.of_eq (by simp)
  · exact h.count _

theorem State.CountersSound.takeBulletin {s : State} (h : s.CountersSound) (source : Byte) (b : Bulletin) :
    (s.takeBulletin source b).CountersSound := by
  rcases s.takeBulletin_cases source b with ⟨n, heq⟩ | ⟨slots, -, -, -, -, heq⟩
  · exact heq ▸ h.count n
  · exact h.of_eq (by simp [heq])

theorem State.CountersSound.passage {s : State} (h : s.CountersSound) (g : GateSettings) (p : Passage) :
    (s.passage g p).CountersSound := by
  rcases s.passage_cases g p with heq | ⟨n, -, -, heq⟩
  · exact h.of_eq (by simp [heq])
  · exact heq ▸ (h.of_eq (by simp)).queuePassage n

theorem CommandEffect.countersSound {s t : State} {code : Nat} (e : CommandEffect s code t) (h : s.CountersSound) :
    t.CountersSound := by
  cases e with
  | countersCleared => exact countersSound_of_zero rfl
  | _ => exact h.of_eq (by simp)

theorem ServiceEffect.countersSound {s t : State} {code : Nat} (e : ServiceEffect s code t) (h : s.CountersSound) :
    t.CountersSound := by
  cases e with
  | overrun => exact h.count _
  | unanswered _ _ e => exact e.countersSound h
  | answered _ _ _ e => exact (e.countersSound h).of_eq (by simp)
  | restartAnswered _ _ _ _ _ _ ht => exact h.of_eq (by simp [ht])
  | _ => exact h.of_eq (by simp)

theorem State.CountersSound.frameAccepted {s : State} (h : s.CountersSound) : s.frameAccepted.CountersSound :=
  (h.of_eq (t := s.onLine .hunting .awaitIdle) rfl).count _

theorem FrameEffect.countersSound {s t : State} {codes : Nat → Prop} (e : FrameEffect s codes t)
    (h : s.CountersSound) : t.CountersSound := by
  cases e with
  | passed => exact h
  | rejected n => exact (h.of_eq (t := s.onLine _ _) rfl).count n
  | bulletin _ source b => exact h.frameAccepted.takeBulletin source b
  | service _ _ _ e => exact e.countersSound h.frameAccepted

theorem Effect.countersSound {s t : State} {c : Instr} (e : Effect s c t) (h : s.CountersSound) : t.CountersSound := by
  cases e with
  | reset _ _ _ _ _ _ hk =>
    rcases hk with rfl | rfl
    · exact countersSound_of_zero rfl
    · exact h.of_eq rfl
  | listens => exact h.of_eq (by simp [State.enterListening])
  | fallsBack => exact h.of_eq (by simp [State.enterFallback])
  | headMisses => exact (h.count .headMiss).of_eq (by simp [State.count])
  | purgeWorking _ _ _ _ ht => exact h.of_eq (by simp [ht])
  | purgeResting _ _ _ _ _ ht => exact h.of_eq (by simp [ht])
  | loopMoves _ _ _ _ g _ _ _ _ next _ moved ht =>
    have hmoved : moved.CountersSound := h.of_eq (by simp [ht])
    cases next.2 with
    | none => exact hmoved
    | some p => exact hmoved.passage g.settings p
  | gateSticks => exact State.CountersSound.count (h.of_eq rfl) _
  | signMissed => exact State.CountersSound.count (h.of_eq rfl) _
  | motionStarts _ _ _ ht => exact h.of_eq (by simp [ht])
  | motionEnds _ _ _ ht => exact h.of_eq (by simp [ht])
  | collides => exact (h.count .txCollision).of_eq rfl
  | dropped => exact ((h.count .txCollision).count .txDrop).of_eq rfl
  | droppedRestarts => exact ((h.count .txCollision).count .txDrop).of_eq rfl
  | sent => exact (h.count .txGood).of_eq rfl
  | sentRestarts => exact (h.count .txGood).of_eq rfl
  | lineCounted _ _ _ _ n => exact State.CountersSound.count (h.of_eq rfl) n
  | idles _ idle hidle _ ht =>
    have hcounted : idle.CountersSound := h.of_eq (by simp [hidle])
    rcases ht with rfl | rfl
    · exact hcounted
    · exact hcounted.count _
  | idleSelects _ _ idle hidle u ht =>
    have hcounted : idle.CountersSound := h.of_eq (by simp [hidle])
    have hu : u.CountersSound := by
      rcases ht with rfl | rfl
      · exact hcounted
      · exact hcounted.count _
    exact hu.of_eq (by simp)
  | frame _ _ _ e => exact e.countersSound h
  | _ => exact h.of_eq (by simp)

/-! ### The bus under what the blocks tell it -/

/-- A property that reads only the bus, and that telling a significant change keeps. -/
structure TellKeeps (I : State → Prop) : Prop where
  of_bus : ∀ {s t : State}, I s → t.bus = s.bus → I t
  tell : ∀ s, I s → I s.tellSignificant

namespace TellKeeps

variable {I : State → Prop}

theorem guidanceTold (hI : TellKeeps I) (s : State) (cause atCapture : Bool) (h : I s) :
    I (s.guidanceTold cause atCapture) := by
  unfold State.guidanceTold
  dsimp only
  split
  · split
    · exact hI.tell _ (hI.of_bus h (by simp))
    · exact hI.of_bus h (by simp)
  · exact hI.of_bus h (by simp)

theorem allocate (hI : TellKeeps I) (s : State) (h : I s) : I s.allocate := by
  unfold State.allocate
  dsimp only
  split
  · exact hI.of_bus h (by simp)
  · exact hI.guidanceTold _ _ _ (hI.of_bus h (by simp))

theorem recompute (hI : TellKeeps I) (s : State) (b : Bool) (h : I s) : I (s.recompute b) := by
  unfold State.recompute
  dsimp only
  split
  · exact hI.allocate _ (hI.of_bus h (by simp))
  · exact h

theorem endFanOverride (hI : TellKeeps I) (s : State) (h : I s) : I s.endFanOverride :=
  hI.recompute _ _ (hI.of_bus h (by simp))

theorem changeBay (hI : TellKeeps I) (s : State) (n : Nat) (f : Bay → Bay) (h : I s) : I (s.changeBay n f) := by
  unfold State.changeBay
  dsimp only
  split
  · exact hI.guidanceTold _ _ _ (hI.of_bus h (by simp))
  · exact hI.of_bus h (by simp)

theorem bayGoesOut (hI : TellKeeps I) (s : State) (n : Nat) (h : I s) : I (s.bayGoesOut n) :=
  hI.changeBay _ _ _ (hI.of_bus h (by simp))

theorem bayAnswered (hI : TellKeeps I) (s : State) (n : Nat) (a : BayAnswer) (h : I s) : I (s.bayAnswered n a) := by
  unfold State.bayAnswered
  split
  · exact h
  · dsimp only
    split
    · exact hI.of_bus (hI.changeBay _ _ _ h) (State.presenceAt_bus _ _)
    · exact hI.changeBay _ _ _ h

theorem endRead (hI : TellKeeps I) (s : State) (r : BayRead) (a : BayAnswer) (h : I s) : I (s.endRead r a) := by
  unfold State.endRead
  refine hI.of_bus (s := if r.discarded = true then s else s.bayAnswered r.bay a) ?_ (by simp)
  split
  · exact h
  · exact hI.bayAnswered _ _ _ h

theorem peersChanged (hI : TellKeeps I) (s : State) (slots : List (Option Peer)) (b : Bool) (h : I s) :
    I (s.peersChanged slots b) := by
  unfold State.peersChanged
  dsimp only
  split
  · apply hI.guidanceTold
    split
    · exact hI.recompute _ _ (hI.of_bus h (by simp))
    · exact hI.of_bus h (by simp)
  · split
    · exact hI.recompute _ _ (hI.of_bus h (by simp))
    · exact hI.of_bus h (by simp)

theorem takeBulletin (hI : TellKeeps I) (s : State) (source : Byte) (b : Bulletin) (h : I s) :
    I (s.takeBulletin source b) := by
  rcases s.takeBulletin_cases source b with ⟨n, heq⟩ | ⟨slots, -, -, -, -, heq⟩
  · exact heq ▸ hI.of_bus h (by simp)
  · exact heq ▸ hI.of_bus (hI.peersChanged s slots _ h) (State.presence_bus _ _)

theorem commandEffect (hI : TellKeeps I) {s t : State} {code : Nat} (e : CommandEffect s code t) (h : I s) : I t := by
  cases e with
  | overrideSet => exact hI.recompute _ _ (hI.of_bus h (by simp))
  | overrideCleared => exact hI.endFanOverride _ h
  | lockedOut => exact hI.allocate _ (hI.of_bus h (by simp))
  | returned => exact hI.allocate _ (hI.of_bus h (by simp))
  | reserved => exact hI.changeBay _ _ _ h
  | released => exact hI.changeBay _ _ _ h
  | putOut => exact hI.bayGoesOut _ _ h
  | broughtIn => exact hI.changeBay _ _ _ h
  | serviceClose => exact hI.guidanceTold _ _ _ (hI.of_bus h (by simp))
  | _ => exact hI.of_bus h (by simp)

theorem airSettled (hI : TellKeeps I) (halert : ∀ s, I s → I s.queueAlert) (s : State) (air : AirMonitor) (h : I s) :
    I (s.airSettled air) := by
  have hset : I (s.setAir air) := hI.of_bus h rfl
  unfold State.airSettled
  dsimp only
  split
  · exact hI.recompute _ _ hset
  · exact hI.of_bus (hI.guidanceTold _ _ _ (hI.recompute _ _ (halert _ hset))) (State.formForcing_bus _)

/-- What queuing an ALERT keeps as well, an air sample and all that ends in one keep. -/
theorem airSample (hI : TellKeeps I) (halert : ∀ s, I s → I s.queueAlert) (s : State) (h : I s) : I s.airSample :=
  hI.airSettled halert s _ h

theorem roundEnds (hI : TellKeeps I) (halert : ∀ s, I s → I s.queueAlert) (s : State) (h : I s) : I s.roundEnds := by
  rcases s.roundEnds_cases with ⟨-, -, heq⟩ | ⟨-, heq⟩ <;> rw [heq]
  · exact hI.of_bus h (by simp)
  · exact hI.airSample halert s h

theorem afterPoll (hI : TellKeeps I) (halert : ∀ s, I s → I s.queueAlert) (s : State) (n : Nat) (h : I s) :
    I (s.afterPoll n) := by
  unfold State.afterPoll
  split
  · exact hI.of_bus h (by simp)
  · exact hI.roundEnds halert _ (hI.of_bus h (by simp))

theorem startRound (hI : TellKeeps I) (halert : ∀ s, I s → I s.queueAlert) (s : State) (h : I s) : I s.startRound := by
  rcases s.startRound_cases with ⟨-, heq⟩ | ⟨-, t, ht, heq⟩
  · exact heq ▸ hI.afterPoll halert _ _ (hI.of_bus h (by simp))
  · have hsample : I t := ht ▸ hI.airSample halert _ (hI.of_bus h (by simp))
    rcases heq with heq | ⟨_, -, heq⟩ <;> rw [heq]
    · exact hsample
    · exact hI.of_bus hsample (by simp)

end TellKeeps

/-! ### The sending side -/

/-- The most frames a class queue may hold with no frame of its class on the line. -/
def TxClass.limit (c : TxClass) : Nat := if c.capturesContent then 1 else 4

theorem Transmitter.limit_le_room (t : Transmitter) (c : TxClass) : c.limit ≤ t.room c := by
  unfold TxClass.limit Transmitter.room
  cases t <;> (repeat' split) <;> omega

theorem Transmitter.room_of_not_sending {t : Transmitter} (h : ∀ c bytes, t ≠ .sending c bytes) (c : TxClass) :
    t.room c = c.limit := by
  cases t with
  | sending c' bytes => exact absurd rfl (h c' bytes)
  | _ => rfl

@[simp] theorem Queues.get_put (q : Queues) (c d : TxClass) (l : List QueuedFrame) :
    (q.put c l).get d = if d = c then l else q.get d := by
  cases c <;> cases d <;> rfl

theorem TxClass.mem_all (c : TxClass) : c ∈ TxClass.all := by cases c <;> decide

theorem Queues.nonEmpty_eq_nil {q : Queues} : q.nonEmpty = [] ↔ ∀ c, q.get c = [] := by
  unfold Queues.nonEmpty
  rw [List.filter_eq_nil_iff]
  constructor
  · intro h c
    simpa using h c c.mem_all
  · intro h c _
    simp [h c]

/-- A transmitter that has something to send still suits queues that have lost none of their heads. -/
theorem Transmitter.suits_of_kept {t : Transmitter} {q q' : Queues} (h : t.suits q = true) (ht : t ≠ .atRest)
    (hkept : ∀ c, q.get c ≠ [] → q'.get c ≠ []) : t.suits q' = true := by
  cases t with
  | atRest => exact absurd rfl ht
  | backoff => rfl
  | gap c n => exact decide_eq_true (hkept c (of_decide_eq_true h))
  | sending c bytes => exact decide_eq_true (hkept c (of_decide_eq_true h))
  | waitingIdle =>
    have hsome := of_decide_eq_true h
    rw [ne_eq, Queues.nonEmpty_eq_nil, not_forall] at hsome
    obtain ⟨c, hc⟩ := hsome
    exact decide_eq_true fun hall => hkept c hc (Queues.nonEmpty_eq_nil.mp hall c)

/-- The queues and the jitter position are sound for a transmitter that has no frame on the line. -/
structure QueuesSound (b : BusInterface) : Prop where
  limit : ∀ c, (b.queues.get c).length ≤ c.limit
  frames : ∀ c, ∀ f ∈ b.queues.get c, f.content.cls = c ∧ f.attempts ≤ 7
  jitter : b.jitter < 16

/-- The sending side of a bus is sound: the predicate of the statements, class by class. -/
structure BusSound (b : BusInterface) : Prop where
  room : ∀ c, (b.queues.get c).length ≤ b.transmitter.room c
  frames : ∀ c, ∀ f ∈ b.queues.get c, f.content.cls = c ∧ f.attempts ≤ 7
  jitter : b.jitter < 16
  suits : b.transmitter.suits b.queues = true

theorem State.sendingSound_iff (s : State) : s.SendingSound ↔ BusSound s.bus :=
  ⟨fun ⟨hroom, hframes, hjitter, hsuits⟩ =>
      ⟨fun c => hroom c c.mem_all, fun c => hframes c c.mem_all, hjitter, hsuits⟩,
    fun ⟨hroom, hframes, hjitter, hsuits⟩ => ⟨fun c _ => hroom c, fun c _ => hframes c, hjitter, hsuits⟩⟩

theorem BusSound.queuesSound {b : BusInterface} (h : BusSound b) (ht : ∀ c bytes, b.transmitter ≠ .sending c bytes) :
    QueuesSound b :=
  ⟨fun c => (h.room c).trans (Transmitter.room_of_not_sending ht c).le, h.frames, h.jitter⟩

/-- Sound queues under a transmitter that they suit. -/
theorem QueuesSound.busSound {b b' : BusInterface} (h : QueuesSound b) (hq : b'.queues = b.queues)
    (hj : b'.jitter < 16) (ht : b'.transmitter.suits b.queues = true) : BusSound b' :=
  ⟨fun c => by rw [hq]; exact (h.limit c).trans (Transmitter.limit_le_room _ _), by rw [hq]; exact h.frames, hj,
    by rw [hq]; exact ht⟩

/-- The sending side is as sound as another with the same queues, transmitter and jitter position. -/
theorem BusSound.of_eq {b b' : BusInterface} (h : BusSound b) (hq : b'.queues = b.queues)
    (ht : b'.transmitter = b.transmitter) (hj : b'.jitter = b.jitter) : BusSound b' :=
  ⟨by rw [hq, ht]; exact h.room, by rw [hq]; exact h.frames, by rw [hj]; exact h.jitter, by rw [hq, ht]; exact h.suits⟩

theorem busSound_afterReset : BusSound .afterReset := (State.sendingSound_iff .reset).mp (by decide)

/-- A busy line ends a gap and touches nothing else of the sending side (R153). -/
theorem BusSound.onLine {s : State} (h : BusSound s.bus) (r : Receiver) (a : Assembler) :
    BusSound (s.onLine r a).bus := by
  cases htx : s.bus.transmitter with
  | gap c n =>
    have hget : s.bus.queues.get c ≠ [] := by simpa [htx, Transmitter.suits] using h.suits
    refine (h.queuesSound (by simp [htx])).busSound rfl h.jitter ?_
    have hwaiting : (s.onLine r a).bus.transmitter = .waitingIdle := by simp [State.onLine, State.lineBusy, htx]
    rw [hwaiting, Transmitter.suits, decide_eq_true_iff, ne_eq, Queues.nonEmpty_eq_nil]
    exact fun hall => hget (hall c)
  | _ => exact h.of_eq rfl (by simp [State.onLine, State.lineBusy, htx]) rfl

/-- A selection goes from sound queues to a sound sending side, whatever the transmitter did before (R152, R153). -/
theorem QueuesSound.enterGap {s : State} (h : QueuesSound s.bus) : BusSound s.enterGap.bus := by
  unfold State.enterGap
  split
  · rename_i hnone
    exact h.busSound rfl h.jitter (decide_eq_true (chooseClass_none hnone))
  · rename_i cls credits hchosen
    have hget := chooseClass_nonEmpty hchosen
    dsimp only
    split
    · exact h.busSound rfl (Nat.mod_lt _ (by decide)) (decide_eq_true hget)
    · exact h.busSound rfl (Nat.mod_lt _ (by decide)) (decide_eq_true hget)

/-- A frame that finds room in its queue leaves the sending side sound (R145, R153). -/
theorem BusSound.join {s : State} (h : BusSound s.bus) (content : FrameContent)
    (hroom : (s.bus.queues.get content.cls).length < s.bus.transmitter.room content.cls) :
    BusSound (s.join content.cls content).bus := by
  unfold State.join
  set joined := s.setBus { s.bus with
    queues := s.bus.queues.put content.cls (s.bus.queues.get content.cls ++ [{ content, attempts := 0 }]) } with hjoined
  have hframes : ∀ c, ∀ f ∈ joined.bus.queues.get c, f.content.cls = c ∧ f.attempts ≤ 7 := by
    intro c f hf
    simp only [hjoined, State.setBus_bus, Queues.get_put] at hf
    split at hf
    · rcases List.mem_append.mp hf with hold | hnew
      · exact ‹c = _› ▸ h.frames _ f hold
      · rw [List.mem_singleton.mp hnew]
        exact ⟨‹c = _›.symm, Nat.zero_le 7⟩
    · exact h.frames c f hf
  have hlength : ∀ c, (joined.bus.queues.get c).length ≤ s.bus.transmitter.room c := by
    intro c
    simp only [hjoined, State.setBus_bus, Queues.get_put]
    split
    · rename_i hc
      rw [hc, List.length_append, List.length_singleton]
      exact hroom
    · exact h.room c
  have hkept : ∀ c, s.bus.queues.get c ≠ [] → joined.bus.queues.get c ≠ [] := by
    intro c hc
    simp only [hjoined, State.setBus_bus, Queues.get_put]
    split
    · simp
    · exact hc
  have hnonempty : joined.bus.queues.nonEmpty ≠ [] := by
    rw [ne_eq, Queues.nonEmpty_eq_nil]
    exact fun hall => absurd (hall content.cls) (by simp [hjoined])
  unfold State.frameJoined
  cases htx : s.bus.transmitter with
  | atRest =>
    have hq : QueuesSound joined.bus :=
      ⟨fun c => by simpa [htx, Transmitter.room, TxClass.limit] using hlength c, hframes, h.jitter⟩
    simp only [show joined.bus.transmitter = .atRest from htx]
    split
    · exact hq.enterGap
    · exact hq.busSound rfl h.jitter (decide_eq_true hnonempty)
  | _ =>
    simp only [show joined.bus.transmitter = _ from htx]
    exact ⟨hlength, hframes, h.jitter, Transmitter.suits_of_kept h.suits (by simp [hjoined, htx]) hkept⟩

/-- Without a pending frame the class has room for one (R145, R146). -/
theorem BusInterface.room_of_not_pending {b : BusInterface} {c : TxClass} (hc : c.capturesContent = true)
    (h : b.hasPending c = false) : (b.queues.get c).length < b.transmitter.room c := by
  unfold BusInterface.hasPending at h
  unfold Transmitter.room
  rw [if_pos hc]
  cases htx : b.transmitter <;> simp only [htx, decide_eq_false_iff_not, not_lt] at h ⊢
  case sending c' bytes => by_cases hc' : c' = c <;> simp only [hc', if_true, if_false] at h ⊢ <;> omega
  all_goals omega

theorem BusSound.queueAlert {s : State} (h : BusSound s.bus) : BusSound s.queueAlert.bus := by
  unfold State.queueAlert
  split
  · rename_i hfree
    simp only [Bool.and_eq_true, Bool.not_eq_true'] at hfree
    exact h.join .alert (BusInterface.room_of_not_pending rfl hfree.2)
  · exact h

theorem BusSound.queueStatus {s : State} (h : BusSound s.bus) : BusSound s.queueStatus.bus := by
  unfold State.queueStatus
  split
  · exact h
  · rename_i hfree
    have hstarted : BusSound (s.setBus { s.bus with spacingTimer := some 1000, owed := false }).bus := h.of_eq rfl rfl rfl
    exact hstarted.join .status (BusInterface.room_of_not_pending rfl (Bool.eq_false_of_not_eq_true hfree))

theorem BusSound.tellSignificant {s : State} (h : BusSound s.bus) : BusSound s.tellSignificant.bus := by
  unfold State.tellSignificant
  split
  · exact h
  · split
    · exact h.queueStatus
    · exact h.of_eq rfl rfl rfl

theorem BusSound.queuePassage {s : State} (h : BusSound s.bus) (n : Nat) : BusSound (s.queuePassage n).bus := by
  unfold State.queuePassage
  split
  · exact h.join (.passage _) (lt_of_lt_of_le ‹_› (Transmitter.limit_le_room _ .passage))
  · simpa using h

theorem busSound_tellKeeps : TellKeeps (fun s => BusSound s.bus) :=
  ⟨fun h heq => heq ▸ h, fun _ h => h.tellSignificant⟩

theorem BusSound.joinReport {s : State} (h : BusSound s.bus) (hroom : s.bus.queues.report.length < 4)
    (destination : Byte) (payload : List Byte) (restart : Bool) :
    BusSound (s.join .report (.report destination payload restart)).bus :=
  h.join (.report destination payload restart) (lt_of_lt_of_le hroom (Transmitter.limit_le_room _ .report))

/-- The attempt with the head of the class in GAP (R153, R155). -/
theorem BusSound.beginHead {s : State} (h : BusSound s.bus) {cls : TxClass} {n : Nat}
    (hgap : s.bus.transmitter = .gap cls n) : BusSound (s.beginHead cls).bus := by
  have hq : QueuesSound s.bus := h.queuesSound (by simp [hgap])
  have hget : s.bus.queues.get cls ≠ [] := by simpa [hgap, Transmitter.suits] using h.suits
  obtain ⟨f, rest, hfs⟩ := List.exists_cons_of_ne_nil hget
  have hcls : f.content.cls = cls := (h.frames cls f (by simp [hfs])).1
  unfold State.beginHead
  simp only [hfs, List.head?_cons]
  cases hcontent : f.content <;> rw [hcontent] at hcls <;> subst hcls
  · exact hq.busSound rfl h.jitter (decide_eq_true hget)
  · have hbus : s.captureStatus.bus = s.bus := by
      simp only [State.captureStatus, State.guidanceTold]
      split <;> simp
    refine hq.busSound (b' := (s.captureStatus.beginAttempt _ _ _ _).bus) ?_ ?_ ?_
    · simp [State.beginAttempt, hbus]
    · simpa [State.beginAttempt, hbus] using h.jitter
    · exact decide_eq_true hget
  · exact hq.busSound rfl h.jitter (decide_eq_true hget)
  · exact hq.busSound rfl h.jitter (decide_eq_true hget)

/-- When the transmitter has stopped sending a class, a shorter queue of that class leaves the sending side sound. -/
theorem BusSound.stopped {b : BusInterface} (h : BusSound b) {cls : TxClass} {bytes : List Byte}
    (hs : b.transmitter = .sending cls bytes) {l : List QueuedFrame} (hl : l.length ≤ cls.limit)
    (hframes : ∀ f ∈ l, f.content.cls = cls ∧ f.attempts ≤ 7) : QueuesSound { b with queues := b.queues.put cls l } := by
  refine ⟨fun c => ?_, fun c f hf => ?_, h.jitter⟩
  · simp only [Queues.get_put]
    split
    · rename_i hc
      rwa [hc]
    · rename_i hc
      have hroom := h.room c
      simp only [hs, Transmitter.room, Ne.symm hc, if_false] at hroom
      exact hroom
  · simp only [Queues.get_put] at hf
    split at hf
    · exact ‹c = cls› ▸ hframes f hf
    · exact h.frames c f hf

/-- A queue whose class is on the line holds at most one frame more than its limit. -/
theorem BusSound.tail_le {b : BusInterface} (h : BusSound b) {cls : TxClass} {bytes : List Byte}
    (hs : b.transmitter = .sending cls bytes) : (b.queues.get cls).tail.length ≤ cls.limit := by
  have hroom := h.room cls
  simp only [hs, Transmitter.room, if_true] at hroom
  rw [List.length_tail, TxClass.limit]
  cases hc : cls.capturesContent <;> simp [hc] at hroom ⊢ <;> omega

theorem BusSound.dropHead {b : BusInterface} (h : BusSound b) {cls : TxClass} {bytes : List Byte}
    (hs : b.transmitter = .sending cls bytes) : QueuesSound (b.dropHead cls) :=
  h.stopped hs (h.tail_le hs) fun f hf => h.frames cls f (List.mem_of_mem_tail hf)

/-- The head of the class on the line met a collision and has attempts left (R156). -/
theorem BusSound.retry {b : BusInterface} (h : BusSound b) {cls : TxClass} {bytes : List Byte}
    (hs : b.transmitter = .sending cls bytes) (hl : b.lastAttempt cls = false) :
    QueuesSound { b with queues := b.queues.put cls (retryHead cls (b.queues.get cls)) } := by
  have hroom := h.room cls
  have hframes := h.frames cls
  unfold BusInterface.lastAttempt at hl
  cases hq : b.queues.get cls with
  | nil => exact h.stopped hs (Nat.zero_le _) (by simp [retryHead])
  | cons f rest =>
    rw [hq] at hroom hframes hl
    simp only [List.head?_cons, decide_eq_false_iff_not, not_le] at hl
    simp only [hs, Transmitter.room, if_true, List.length_cons] at hroom
    have hhead := (hframes f (by simp)).1
    rw [retryHead_cons]
    apply h.stopped hs
    · unfold TxClass.limit
      split <;> simp_all
    · intro g hg
      rcases List.mem_cons.mp hg with rfl | hrest
      · exact ⟨hhead, by simp only; omega⟩
      · split at hrest
        · cases hrest
        · exact hframes g (List.mem_cons_of_mem _ hrest)

/-! ### What joins which queue -/

@[simp] theorem State.enterGap_queues (s : State) : s.enterGap.bus.queues = s.bus.queues := by
  unfold State.enterGap
  split
  · rfl
  · dsimp only
    split <;> rfl

@[simp] theorem State.frameJoined_queues (s : State) : s.frameJoined.bus.queues = s.bus.queues := by
  unfold State.frameJoined
  split
  · split
    · exact s.enterGap_queues
    · rfl
  · rfl

/-- A frame joins the end of its class queue with no attempt made (R145). -/
@[simp] theorem State.join_queues (s : State) (cls : TxClass) (content : FrameContent) :
    (s.join cls content).bus.queues =
      s.bus.queues.put cls (s.bus.queues.get cls ++ [{ content, attempts := 0 }]) := by
  simp [State.join]

theorem State.queueAlert_queues (s : State) :
    s.queueAlert.bus.queues = if s.working && !s.bus.hasPending .alert then
      { s.bus.queues with alert := s.bus.queues.alert ++ [{ content := .alert, attempts := 0 }] } else s.bus.queues := by
  unfold State.queueAlert
  split
  · exact s.join_queues _ _
  · rfl

theorem State.queueStatus_queues (s : State) :
    s.queueStatus.bus.queues = if s.bus.hasPending .status then s.bus.queues else
      { s.bus.queues with status := s.bus.queues.status ++ [{ content := .status, attempts := 0 }] } := by
  unfold State.queueStatus
  split
  · rfl
  · exact State.join_queues _ _ _

theorem State.tellSignificant_queues (s : State) :
    s.tellSignificant.bus.queues = if s.bus.hasPending .status = false ∧ s.bus.spacingTimer = none then
      { s.bus.queues with status := s.bus.queues.status ++ [{ content := .status, attempts := 0 }] }
      else s.bus.queues := by
  unfold State.tellSignificant
  split
  · simp [*]
  · split
    · simp [State.queueStatus_queues, *]
    · simp [*]

/-- Neither a significant change nor an ALERT touches the queue of REPORTs. -/
theorem reportQueue_tellKeeps (l : List QueuedFrame) : TellKeeps (fun s => s.bus.queues.report = l) where
  of_bus h heq := by rwa [heq]
  tell s h := by
    rw [s.tellSignificant_queues]
    split <;> exact h

theorem CommandEffect.report_eq {s t : State} {code : Nat} (e : CommandEffect s code t) :
    t.bus.queues.report = s.bus.queues.report :=
  (reportQueue_tellKeeps _).commandEffect e rfl

/-! ### The sending side after every command -/

theorem BusSound.serviceEffect {s t : State} {code : Nat} (h : BusSound s.bus) (e : ServiceEffect s code t) :
    BusSound t.bus := by
  cases e with
  | nothing => exact h
  | overrun => simpa using h
  | unanswered _ _ e => exact busSound_tellKeeps.commandEffect e h
  | answered _ hroom u e destination payload =>
    exact BusSound.joinReport (busSound_tellKeeps.commandEffect e h) (by rwa [e.report_eq]) destination payload false
  | restartAnswered _ hroom _ destination payload u hu =>
    have hjoined : BusSound u.bus := hu ▸ h.joinReport hroom destination payload true
    exact hjoined.of_eq rfl rfl rfl
  | restarted => exact busSound_afterReset

theorem BusSound.frameAccepted {s : State} (h : BusSound s.bus) : BusSound s.frameAccepted.bus := by
  rw [State.frameAccepted_eq_onLine, State.count_bus]
  exact h.onLine _ _

theorem BusSound.frameEffect {s t : State} {codes : Nat → Prop} (h : BusSound s.bus) (e : FrameEffect s codes t) :
    BusSound t.bus := by
  cases e with
  | passed => exact h
  | rejected n =>
    rw [State.count_bus]
    exact h.onLine _ _
  | bulletin _ source b => exact busSound_tellKeeps.takeBulletin _ source b h.frameAccepted
  | service _ _ _ e => exact h.frameAccepted.serviceEffect e

theorem BusSound.enterListening {s : State} (h : BusSound s.bus) (image : List Byte) (c : Settings) (k : Nat) :
    BusSound (s.enterListening image c k).bus := by
  have hfans : ∀ u : State, BusSound u.bus → BusSound u.ventilationListens.bus := fun u hu =>
    busSound_tellKeeps.allocate _ hu
  unfold State.enterListening
  refine busSound_tellKeeps.startRound (fun _ => BusSound.queueAlert) _ (BusSound.queueStatus ?_)
  have hbus : ∀ u : State, BusSound u.bus → BusSound { u.bus with
      jitter := c.ownAddress % 16, periodTimer := some (seconds c.statusPeriod) } := fun u hu =>
    ⟨hu.room, hu.frames, Nat.mod_lt _ (by decide), hu.suits⟩
  refine hbus _ ?_
  simp only [State.lightingListens_bus, State.formImages_bus, State.setGuide_bus, State.baysListen_bus]
  refine hfans _ ?_
  simpa using h

theorem BusSound.enterFallback {s : State} (h : BusSound s.bus) : BusSound s.enterFallback.bus := by
  unfold State.enterFallback State.ventilationFallsBack
  exact busSound_tellKeeps.allocate _ h

theorem Effect.busSound {s t : State} {c : Instr} (e : Effect s c t) (h : BusSound s.bus) : BusSound t.bus := by
  have tell := busSound_tellKeeps
  have alert : ∀ u : State, BusSound u.bus → BusSound u.queueAlert.bus := fun _ => BusSound.queueAlert
  cases e with
  | reset => exact busSound_afterReset
  | listens => exact h.enterListening _ _ _
  | fallsBack => exact h.enterFallback
  | entersNormal => exact tell.guidanceTold _ _ _ h
  | roundStarts => exact tell.startRound alert _ h
  | headAnswers => exact tell.afterPoll alert _ _ h
  | headMisses => exact tell.afterPoll alert _ _ h
  | sampled => exact tell.airSample alert _ h
  | purgeWorking _ _ _ taken ht =>
    rw [State.formForcing_bus]
    exact tell.guidanceTold _ _ _ (tell.recompute _ _ (alert _ (ht ▸ h)))
  | purgeResting _ _ _ _ _ ht => exact tell.guidanceTold _ _ _ (ht ▸ h)
  | confirmStarts => exact tell.allocate _ h
  | fanFails => exact tell.allocate _ h
  | fallbackStarts => exact tell.allocate _ h
  | coasted => exact tell.allocate _ h
  | overrideExpires => exact tell.endFanOverride _ h
  | readEnds _ _ r _ a => exact tell.endRead _ r a h
  | reservationExpires => exact tell.changeBay _ _ _ h
  | loopMoves _ _ _ _ g _ _ _ _ next _ moved ht =>
    have hmoved : BusSound moved.bus := by simpa [ht] using h
    cases next.2 with
    | none => exact hmoved
    | some p =>
      rcases moved.passage_cases g.settings p with heq | ⟨n, -, -, heq⟩ <;> simp only [heq]
      · simpa using hmoved
      · exact BusSound.queuePassage (by simpa using hmoved) n
  | swept => exact tell.peersChanged _ _ _ h
  | motionStarts _ _ _ ht => simpa [ht] using h
  | motionEnds _ _ _ ht => simpa [ht] using h
  | periodEnds => exact BusSound.queueStatus (h.of_eq rfl rfl rfl)
  | spacingEnds => exact h.of_eq rfl rfl rfl
  | owedQueued => exact BusSound.queueStatus (h.of_eq rfl rfl rfl)
  | gapEnds _ _ hgap => exact h.beginHead hgap
  | collides _ _ hs hl => exact (h.retry hs hl).busSound rfl h.jitter rfl
  | dropped _ _ hs => exact (h.dropHead hs).busSound rfl h.jitter rfl
  | droppedRestarts => exact busSound_afterReset
  | sent cls _ hs =>
    refine (h.dropHead hs).busSound rfl h.jitter ?_
    split <;> simp [Transmitter.suits, *]
  | sentRestarts => exact busSound_afterReset
  | line => exact h.onLine _ _
  | lineCounted =>
    rw [State.count_bus]
    exact h.onLine _ _
  | idles _ idle hidle _ ht =>
    have hcount : BusSound idle.bus := hidle ▸ h.of_eq rfl rfl rfl
    rcases ht with rfl | rfl
    · exact hcount
    · simpa using hcount
  | idleSelects _ hw idle hidle u ht =>
    have hfree : ∀ c bytes, s.bus.transmitter ≠ .sending c bytes := by rcases hw with hw | hw <;> simp [hw]
    have hu : QueuesSound u.bus := by
      have hq := h.queuesSound hfree
      rcases ht with rfl | rfl <;> exact ⟨by simpa [hidle] using hq.limit, by simpa [hidle] using hq.frames,
        by simpa [hidle] using hq.jitter⟩
    exact hu.enterGap
  | frame _ _ _ e => exact h.frameEffect e
  | _ => simpa using h

/-- Settles O53: of every effect, what it counts and what it does to queues and transmitter; a tick does neither. -/
theorem stepKeepsCountersAndSendingSound : Obligations.StepKeepsCountersAndSendingSound := by
  intro s t hstep
  constructor
  · refine step_keeps (I := State.CountersSound) (fun _ _ h => h.of_eq rfl) (fun u h => ?_)
      (fun _ _ _ e h => e.countersSound h) hstep
    unfold State.tick
    split <;> exact h.of_eq rfl
  · simp only [State.sendingSound_iff]
    refine step_keeps (I := fun u => BusSound u.bus) (fun _ _ h => h) (fun u h => ?_) (fun _ _ _ e h => e.busSound h) hstep
    unfold State.tick
    split
    · exact h
    · exact h.of_eq rfl rfl rfl

end Sys2Proof.Machine
end

section
/-! PROOFS. The Lighting Controller after every step (R113, R114, R116, R122, R123, R128). -/

namespace Sys2Proof.Machine

/-! ### Records found by a key that no two share -/

/-- In a collection without repeated keys the search for a member's key finds that member. -/
theorem find?_of_nodup {α : Type} {key : α → Nat} {l : List α} (h : (l.map key).Nodup) {x : α} (hx : x ∈ l) :
    l.find? (fun y => key y == key x) = some x := by
  induction l with
  | nil => cases hx
  | cons y ys ih =>
    rw [List.map_cons, List.nodup_cons] at h
    rcases List.mem_cons.mp hx with rfl | hmem
    · simp
    · have hne : key y ≠ key x := fun heq => h.1 (heq ▸ List.mem_map_of_mem hmem)
      rw [List.find?_cons_of_neg (by simpa using hne)]
      exact ih h.2 hmem

/-- A record found has the number asked for. -/
theorem find?_key {α : Type} {key : α → Nat} {l : List α} {n : Nat} {x : α}
    (h : l.find? (fun y => key y == n) = some x) : x ∈ l ∧ key x = n :=
  ⟨List.mem_of_find?_eq_some h, by simpa using List.find?_some h⟩

/-- The record found is the only one of its number. -/
theorem eq_of_find?_of_nodup {α : Type} {key : α → Nat} {l : List α} (h : (l.map key).Nodup) {n : Nat} {x y : α}
    (hx : l.find? (fun z => key z == n) = some x) (hy : y ∈ l) (hkey : key y = n) : y = x := by
  subst hkey
  exact Option.some.inj ((find?_of_nodup h hy).symm.trans hx)

theorem Ascending.nodup {l : List Nat} (h : Ascending l) : l.Nodup := List.Pairwise.imp (fun hlt => hlt.ne) h

/-- Changing the records of one number changes no number. -/
theorem map_key_mapIf {α : Type} {key : α → Nat} {l : List α} {n : Nat} {f : α → α} (h : ∀ x, key (f x) = key x) :
    (l.map (fun x => if key x = n then f x else x)).map key = l.map key := by
  rw [List.map_map]
  refine List.map_congr_left fun x _ => ?_
  simp only [Function.comp_apply]
  split
  · exact h x
  · rfl

theorem State.working_eq {s t : State} (h : t.station = s.station) : t.working = s.working := by
  simp [State.working, h]

/-! ### One channel -/

/-- A change of a channel record that keeps it legal, its number, and whether it is FORCED. -/
structure Channel.Keeps (c d : Channel) : Prop where
  number : d.number = c.number
  legal : c.legal = true → d.legal = true
  forced : d.state = .forced ↔ c.state = .forced

theorem Channel.Keeps.refl (c : Channel) : c.Keeps c := ⟨rfl, id, Iff.rfl⟩

theorem Channel.presence_keeps (c : Channel) : c.Keeps c.presence := by
  cases h : c.state <;> constructor <;> simp [Channel.presence, Channel.activate, Channel.legal, h]

theorem Channel.setOverride_keeps (c : Channel) (o : LightOverride) : c.Keeps (c.setOverride o) := by
  cases h : c.state <;> constructor <;> simp +contextual [Channel.setOverride, Channel.legal, h]

theorem Channel.endOverride_keeps (c : Channel) : c.Keeps c.endOverride := by
  cases h : c.state <;> cases ho : c.override <;> constructor <;>
    simp +contextual [Channel.endOverride, Channel.activate, Channel.legal, h, ho]

theorem Channel.holdExpires_keeps {c : Channel} (h : c.state = .active) : c.Keeps c.holdExpires := by
  unfold Channel.holdExpires
  (repeat' split) <;> constructor <;> simp +contextual [Channel.toIdle, Channel.legal, h]

theorem Channel.dimExpires_keeps {c : Channel} (h : c.state = .dimming) : c.Keeps c.dimExpires := by
  unfold Channel.dimExpires
  split <;> constructor <;> simp +contextual [Channel.toIdle, Channel.legal, h]

@[simp] theorem Timer.tick_eq_none (t : Timer) : t.tick = none ↔ t = none := by
  simp [Timer.tick]

theorem Channel.tick_keeps (c : Channel) : c.Keeps c.tick := by
  refine ⟨rfl, ?_, Iff.rfl⟩
  have hlevel : (c.override.map (fun o => ({ o with limit := o.limit.tick } : LightOverride))).map LightOverride.level =
      c.override.map LightOverride.level := by
    rw [Option.map_map]; rfl
  simp only [Channel.legal, Channel.tick]
  cases c.state <;> simp +contextual [hlevel]

theorem Channel.force_forced (c : Channel) : c.force.state = .forced ∧ c.force.number = c.number ∧
    (c.legal = true → c.force.legal = true) := by
  cases h : c.state <;> simp [Channel.force, Channel.legal, h]

theorem Channel.release_freed (c : Channel) : c.release.state ≠ .forced ∧ c.release.number = c.number ∧
    (c.legal = true → c.release.legal = true) := by
  cases h : c.state <;> cases ho : c.override <;>
    simp +contextual [Channel.release, Channel.activate, Channel.legal, h, ho]

theorem Channel.heldAt100_legal (n : Nat) (c : ChannelSettings) : (Channel.heldAt100 n c).legal = true := by
  simp [Channel.heldAt100, Channel.legal]

theorem Channel.activate_heldAt100_legal (n : Nat) (c : ChannelSettings) :
    (Channel.heldAt100 n c).activate.legal = true := by
  simp [Channel.heldAt100, Channel.activate, Channel.legal]

/-! ### The whole controller -/

/-- What the channels and motion inputs hold in every station state (R113, R114, R116). -/
structure Lighting.Sound (l : Lighting) : Prop where
  numbers : l.channels.map Channel.number = [1, 2, 3, 4, 5, 6, 7, 8]
  sets : l.motionSets.length = 4
  repeats : l.repeatTimers.length = 4
  legal : ∀ c ∈ l.channels, c.legal = true

/-- The channels are FORCED exactly where the forcing condition as last formed holds (R122, R123). -/
def Lighting.Follows (l : Lighting) : Prop := ∀ c ∈ l.channels, (c.state = .forced ↔ l.forcing = true)

theorem State.lightingSound_working {s : State} (h : s.working = true) :
    s.LightingSound ↔
      s.light.Sound ∧ s.inputs.motion.length = 4 ∧ s.light.forcing = s.forcingHolds ∧ s.light.Follows := by
  simp only [State.LightingSound, h, if_true, Lighting.Follows]
  constructor
  · rintro ⟨hn, hm, hs, hr, hl, hf, hc⟩
    exact ⟨⟨hn, hs, hr, hl⟩, hm, hf, hf ▸ hc⟩
  · rintro ⟨⟨hn, hs, hr, hl⟩, hm, hf, hc⟩
    exact ⟨hn, hm, hs, hr, hl, hf, hf ▸ hc⟩

theorem State.lightingSound_resting {s : State} (h : s.working = false) :
    s.LightingSound ↔ s.light.Sound ∧ s.inputs.motion.length = 4 ∧ ∀ c ∈ s.light.channels, c.state = .forced := by
  simp only [State.LightingSound, h, Bool.false_eq_true, if_false]
  constructor
  · rintro ⟨hn, hm, hs, hr, hl, hc⟩
    exact ⟨⟨hn, hs, hr, hl⟩, hm, hc⟩
  · rintro ⟨⟨hn, hs, hr, hl⟩, hm, hc⟩
    exact ⟨hn, hm, hs, hr, hl, hc⟩

theorem State.forcingHolds_eq {s t : State} (ha : t.air.level = s.air.level)
    (hp : t.inputs.purge.filtered = s.inputs.purge.filtered) : t.forcingHolds = s.forcingHolds := by
  simp [State.forcingHolds, ha, hp]

theorem State.LightingSound.of_same {s t : State} (h : s.LightingSound) (hst : t.station = s.station)
    (ha : t.air.level = s.air.level) (hp : t.inputs.purge.filtered = s.inputs.purge.filtered)
    (hm : t.inputs.motion.length = s.inputs.motion.length) (hl : t.light = s.light) : t.LightingSound := by
  simp only [State.LightingSound, hl, hm, State.working_eq hst, State.forcingHolds_eq ha hp] at h ⊢
  exact h

/-- Channels changed one by one by changes that each record keeps stay sound, and FORCED stays where it was. -/
theorem State.LightingSound.mapChannels {s : State} (h : s.LightingSound) {f : Channel → Channel}
    (hf : ∀ c ∈ s.light.channels, c.Keeps (f c)) :
    (s.setLight { s.light with channels := s.light.channels.map f }).LightingSound := by
  obtain ⟨hn, hm, hs, hr, hl, hforce⟩ := h
  have hall : ∀ d ∈ s.light.channels.map f, ∃ c ∈ s.light.channels, c.Keeps d := by
    intro d hd
    obtain ⟨c, hc, rfl⟩ := List.mem_map.mp hd
    exact ⟨c, hc, hf c hc⟩
  refine ⟨?_, hm, hs, hr, ?_, ?_⟩
  · rw [← hn]
    simp only [State.setLight_light, List.map_map]
    exact List.map_congr_left fun c hc => (hf c hc).number
  · intro d hd
    obtain ⟨c, hc, hk⟩ := hall d hd
    exact hk.legal (hl c hc)
  · change if s.working = true then s.light.forcing = s.forcingHolds ∧
        ∀ d ∈ s.light.channels.map f, (d.state = .forced ↔ s.forcingHolds = true)
      else ∀ d ∈ s.light.channels.map f, d.state = .forced
    split at hforce
    · rename_i hw
      rw [if_pos hw]
      refine ⟨hforce.1, fun d hd => ?_⟩
      obtain ⟨c, hc, hk⟩ := hall d hd
      exact hk.forced.trans (hforce.2 c hc)
    · rename_i hw
      rw [if_neg hw]
      intro d hd
      obtain ⟨c, hc, hk⟩ := hall d hd
      exact hk.forced.mpr (hforce c hc)

theorem State.LightingSound.mapChannel {s : State} (h : s.LightingSound) {n : Nat} {f : Channel → Channel}
    (hf : ∀ c ∈ s.light.channels, c.number = n → c.Keeps (f c)) :
    (s.setLight (s.light.mapChannel n f)).LightingSound :=
  h.mapChannels fun c hc => by
    split
    · exact hf c hc ‹_›
    · exact .refl c

theorem State.LightingSound.mapNamed {s : State} (h : s.LightingSound) (n : Nat) {f : Channel → Channel}
    (hf : ∀ c : Channel, c.Keeps (f c)) : (s.setLight (s.light.mapNamed n f)).LightingSound := by
  unfold Lighting.mapNamed
  split
  · exact h.mapChannels fun c _ => hf c
  · exact h.mapChannel fun c _ _ => hf c

theorem State.LightingSound.presence {s : State} (h : s.LightingSound) (set : ChannelSet) :
    (s.presence set).LightingSound :=
  h.mapChannels fun c _ => by
    split
    · exact c.presence_keeps
    · exact .refl c

theorem State.LightingSound.presenceAt {s : State} (h : s.LightingSound) (n : Nat) : (s.presenceAt n).LightingSound :=
  h.mapChannel fun c _ _ => c.presence_keeps

theorem State.LightingSound.setRepeats {s : State} (h : s.LightingSound) {l : List Timer} (hl : l.length = 4) :
    (s.setLight { s.light with repeatTimers := l }).LightingSound := by
  obtain ⟨hn, hm, hs, -, hrest⟩ := h
  exact ⟨hn, hm, hs, hl, hrest⟩

theorem State.LightingSound.setAir {s : State} (h : s.LightingSound) {a : AirMonitor} (ha : a.level = s.air.level) :
    (s.setAir a).LightingSound := h.of_same rfl ha rfl rfl rfl

theorem State.LightingSound.setRepeat {s : State} (h : s.LightingSound) (n : Nat) (t : Timer) :
    (s.setRepeat n t).LightingSound := by
  unfold State.setRepeat
  split
  · exact h
  · exact h.setRepeats (by simpa using h.2.2.2.1)

/-- The channel of a number is the one record of that number. -/
theorem State.LightingSound.eq_of_channel? {s : State} (h : s.LightingSound) {n : Nat} {k c : Channel}
    (hk : s.light.channel? n = some k) (hc : c ∈ s.light.channels) (hn : c.number = n) : c = k :=
  eq_of_find?_of_nodup (by rw [h.1]; decide) hk hc hn

/-- Forming the forcing condition makes the channels follow it, however it stood before (R122, R123). -/
theorem State.formForcing_lightingSound {s : State} (hw : s.working = true) (hm : s.inputs.motion.length = 4)
    (hl : s.light.Sound) (hf : s.light.Follows) : s.formForcing.LightingSound := by
  have hworking : s.formForcing.working = true := (State.working_eq (by simp)).trans hw
  have hholds : s.formForcing.forcingHolds = s.forcingHolds := State.forcingHolds_eq (by simp) (by simp)
  rw [State.lightingSound_working hworking, hholds, State.formForcing_inputs]
  have numbers : ∀ f : Channel → Channel, (∀ c, (f c).number = c.number) →
      (s.light.channels.map f).map Channel.number = [1, 2, 3, 4, 5, 6, 7, 8] := by
    intro f hnum
    rw [← hl.numbers, List.map_map]
    exact List.map_congr_left fun c _ => hnum c
  unfold State.formForcing
  split
  · rename_i hforcing hnow
    refine ⟨⟨numbers _ fun c => c.force_forced.2.1, hl.sets, hl.repeats, ?_⟩, hm, hnow.symm, ?_⟩
    · intro d hd
      obtain ⟨c, hc, rfl⟩ := List.mem_map.mp hd
      exact c.force_forced.2.2 (hl.legal c hc)
    · intro d hd
      obtain ⟨c, hc, rfl⟩ := List.mem_map.mp hd
      exact iff_of_true c.force_forced.1 rfl
  · rename_i hforcing hnow
    refine ⟨⟨numbers _ fun c => c.release_freed.2.1, hl.sets, hl.repeats, ?_⟩, hm, hnow.symm, ?_⟩
    · intro d hd
      obtain ⟨c, hc, rfl⟩ := List.mem_map.mp hd
      exact c.release_freed.2.2 (hl.legal c hc)
    · intro d hd
      obtain ⟨c, hc, rfl⟩ := List.mem_map.mp hd
      exact iff_of_false c.release_freed.1 Bool.false_ne_true
  · rename_i hrise hfall
    refine ⟨hl, hm, ?_, hf⟩
    cases hforcing : s.light.forcing <;> cases hnow : s.forcingHolds
    · rfl
    · exact absurd hnow (hrise hforcing)
    · exact absurd hnow (hfall hforcing)
    · rfl

/-! ### Air samples and rounds -/

theorem State.LightingSound.airSettled {s : State} (h : s.LightingSound) (hw : s.working = true) (air : AirMonitor) :
    (s.airSettled air).LightingSound := by
  unfold State.airSettled
  dsimp only
  split
  · exact h.of_same (by simp) (by simpa using ‹_›) (by simp) (by simp) (by simp)
  · obtain ⟨hl, hm, -, hf⟩ := (State.lightingSound_working hw).mp h
    exact State.formForcing_lightingSound ((State.working_eq (by simp)).trans hw) (by simpa using hm)
      (by simpa using hl) (by simpa using hf)

theorem State.LightingSound.airSample {s : State} (h : s.LightingSound) (hw : s.working = true) :
    s.airSample.LightingSound := h.airSettled hw _

theorem State.LightingSound.roundEnds {s : State} (h : s.LightingSound) (hw : s.working = true) :
    s.roundEnds.LightingSound := by
  rcases s.roundEnds_cases with ⟨-, -, heq⟩ | ⟨-, heq⟩ <;> rw [heq]
  · exact h.of_same rfl rfl rfl rfl rfl
  · exact h.airSample hw

theorem State.LightingSound.afterPoll {s : State} (h : s.LightingSound) (hw : s.working = true) (n : Nat) :
    (s.afterPoll n).LightingSound := by
  unfold State.afterPoll
  split
  · exact h.of_same rfl rfl rfl rfl rfl
  · exact State.LightingSound.roundEnds (s := s.setAir _) (h.setAir rfl) (by exact hw)

theorem State.LightingSound.startRound {s : State} (h : s.LightingSound) (hw : s.working = true) :
    s.startRound.LightingSound := by
  rcases s.startRound_cases with ⟨-, heq⟩ | ⟨-, t, ht, heq⟩
  · rw [heq]
    refine State.LightingSound.afterPoll ?_ ?_ 0
    · exact h.setAir rfl
    · exact hw
  · have hsample : t.LightingSound := ht ▸ State.LightingSound.airSample (s := s.setAir _) (h.setAir rfl) (by exact hw)
    rcases heq with heq | ⟨_, -, heq⟩ <;> rw [heq]
    · exact hsample
    · exact hsample.of_same rfl rfl rfl rfl rfl

/-! ### Station states -/

theorem State.afterReset_lightingSound {s : State} (hm : s.inputs.motion.length = 4) {st : Station}
    (hst : st = .heldInReset ∨ st = .starting) (u : StartUp) (k : Counters) :
    (s.afterReset st u k).LightingSound := by
  have hresting : (s.afterReset st u k).working = false := by rcases hst with rfl | rfl <;> rfl
  rw [State.lightingSound_resting hresting]
  have legal : ∀ c ∈ Lighting.afterReset.channels, c.legal = true := by decide
  exact ⟨⟨rfl, rfl, rfl, legal⟩, by simpa [State.afterReset, Inputs.afterReset] using hm,
    by simp [State.afterReset, Lighting.afterReset, Channel.heldAt100]⟩

/-- The channels of a record are eight (R174). -/
theorem settingsOfRecord_channels_length (r : List Byte) : (settingsOfRecord r).value.channels.length = 8 := by
  simp [settingsOfRecord, collect, channelOfRecord, List.range_succ]

/-- Entry to LISTENING with settings of eight channels (R113, R128). -/
theorem State.lightingListens_lightingSound {s : State} (hw : s.working = true) (hm : s.inputs.motion.length = 4)
    (hc : s.settings.channels.length = 8) (hsets : s.settings.motion.length = 4) : s.lightingListens.LightingSound := by
  have hworking : s.lightingListens.working = true := hw
  rw [State.lightingSound_working hworking]
  have mem : ∀ c ∈ s.lightingListens.light.channels, ∃ n k,
      c = if s.forcingHolds then Channel.heldAt100 n k else (Channel.heldAt100 n k).activate := by
    intro c hc
    obtain ⟨p, -, rfl⟩ := List.mem_map.mp hc
    exact ⟨_, _, rfl⟩
  refine ⟨⟨?_, hsets, rfl, ?_⟩, hm, rfl, ?_⟩
  · have numbers : ∀ l : List ChannelSettings, l.length = 8 → (l.zipIdx.map (fun p =>
        if s.forcingHolds then Channel.heldAt100 (p.2 + 1) p.1 else (Channel.heldAt100 (p.2 + 1) p.1).activate)).map
          Channel.number = [1, 2, 3, 4, 5, 6, 7, 8] := by
      intro l hl
      have hnum : ∀ p : ChannelSettings × Nat, (if s.forcingHolds then Channel.heldAt100 (p.2 + 1) p.1
          else (Channel.heldAt100 (p.2 + 1) p.1).activate).number = p.2 + 1 := fun p => by split <;> rfl
      rw [List.map_map, show (Channel.number ∘ fun p : ChannelSettings × Nat => _) = fun p => p.2 + 1 from funext hnum,
        show (fun p : ChannelSettings × Nat => p.2 + 1) = (· + 1) ∘ Prod.snd from rfl, ← List.map_map,
        List.zipIdx_map_snd, hl]
      rfl
    exact numbers _ hc
  · intro c hmem
    obtain ⟨n, k, rfl⟩ := mem c hmem
    split
    · exact Channel.heldAt100_legal n k
    · exact Channel.activate_heldAt100_legal n k
  · intro c hmem
    obtain ⟨n, k, rfl⟩ := mem c hmem
    change _ ↔ s.forcingHolds = true
    split
    · exact iff_of_true rfl ‹_›
    · exact iff_of_false (by simp [Channel.activate]) ‹_›

theorem State.enterListening_lightingSound {s : State} (hm : s.inputs.motion.length = 4) {c : Settings}
    (hc : c.channels.length = 8) (hsets : c.motion.length = 4) (image : List Byte) (k : Nat) :
    (s.enterListening image c k).LightingSound := by
  have begins : ∀ (u : State) (b : BusInterface), u.LightingSound → u.working = true →
      (u.setBus b).queueStatus.startRound.LightingSound := fun u b hu hw =>
    State.LightingSound.startRound (hu.of_same (by simp) (by simp) (by simp) (by simp) (by simp))
      ((State.working_eq (by simp)).trans hw)
  unfold State.enterListening
  exact begins _ _ (State.lightingListens_lightingSound (by simp [State.working]) (by simpa using hm) (by simpa using hc)
    (by simpa using hsets)) (by simp [State.working])

/-! ### Every effect -/

theorem State.LightingSound.takeBulletin {s : State} (h : s.LightingSound) (source : Byte) (b : Bulletin) :
    (s.takeBulletin source b).LightingSound := by
  rcases s.takeBulletin_cases source b with ⟨n, heq⟩ | ⟨slots, -, -, -, -, heq⟩ <;> rw [heq]
  · exact h.of_same (by simp) (by simp) (by simp) (by simp) (by simp)
  · exact State.LightingSound.presence (h.of_same (by simp) (by simp) (by simp) (by simp) (by simp)) _

theorem CommandEffect.lightingSound {s t : State} {code : Nat} (e : CommandEffect s code t) (h : s.LightingSound) :
    t.LightingSound := by
  cases e with
  | lightSet n o => exact h.mapNamed n fun c => c.setOverride_keeps o
  | lightCleared n => exact h.mapNamed n Channel.endOverride_keeps
  | _ => exact h.of_same (by simp) (by simp) (by simp) (by simp) (by simp)

theorem ServiceEffect.lightingSound {s t : State} {code : Nat} (e : ServiceEffect s code t) (h : s.LightingSound) :
    t.LightingSound := by
  cases e with
  | unanswered _ _ e => exact e.lightingSound h
  | answered _ _ _ e => exact (e.lightingSound h).of_same (by simp) (by simp) (by simp) (by simp) (by simp)
  | restartAnswered _ _ _ _ _ _ ht => exact h.of_same (by simp [ht]) (by simp [ht]) (by simp [ht]) (by simp [ht]) (by simp [ht])
  | restarted => exact State.afterReset_lightingSound h.2.1 (.inr rfl) _ _
  | _ => exact h.of_same (by simp) (by simp) (by simp) (by simp) (by simp)

theorem FrameEffect.lightingSound {s t : State} {codes : Nat → Prop} (e : FrameEffect s codes t)
    (h : s.LightingSound) : t.LightingSound := by
  have haccepted : s.frameAccepted.LightingSound := h.of_same (by simp) (by simp) (by simp) (by simp) (by simp)
  cases e with
  | passed => exact h
  | rejected n => exact h.of_same (by simp) (by simp) (by simp) (by simp) (by simp)
  | bulletin _ source b => exact haccepted.takeBulletin source b
  | service _ _ _ e => exact e.lightingSound haccepted

theorem State.LightingSound.endRead {s : State} (h : s.LightingSound) (r : BayRead) (a : BayAnswer) :
    (s.endRead r a).LightingSound := by
  have answered : (s.bayAnswered r.bay a).LightingSound := by
    unfold State.bayAnswered
    split
    · exact h
    · have hchanged : (s.changeBay r.bay (Bay.answer s.settings a)).LightingSound :=
        h.of_same (by simp) (by simp) (by simp) (by simp) (by simp)
      dsimp only
      split
      · exact hchanged.presenceAt _
      · exact hchanged
  unfold State.endRead
  split
  · exact h.of_same (by simp) (by simp) (by simp) (by simp) (by simp)
  · exact answered.of_same (by simp) (by simp) (by simp) (by simp) (by simp)

theorem State.LightingSound.passage {s : State} (h : s.LightingSound) (g : GateSettings) (p : Passage) :
    (s.passage g p).LightingSound := by
  have hraised : ((s.setBays { s.bays with ring := s.bays.ring.passed }).presence g.channels).LightingSound :=
    State.LightingSound.presence (h.of_same rfl rfl rfl rfl rfl) _
  rcases s.passage_cases g p with heq | ⟨n, -, -, heq⟩ <;> rw [heq]
  · exact hraised
  · exact hraised.of_same (by simp) (by simp) (by simp) (by simp) (by simp)

@[simp] theorem takeAt_length (l : List FilteredInput) (n : Nat) (v : Bool) : (takeAt l n v).length = l.length := by
  unfold takeAt
  split <;> simp

theorem Effect.lightingSound {s t : State} {c : Instr} (e : Effect s c t) (h : s.LightingSound) :
    t.LightingSound := by
  cases e with
  | reset _ st u k hst => exact State.afterReset_lightingSound h.2.1 hst _ _
  | listens =>
    exact State.enterListening_lightingSound h.2.1 (settingsOfRecord_channels_length _) rfl _ _
  | fallsBack _ hst =>
    have hfrom : s.working = false := by simp [State.working, hst]
    have hto : s.enterFallback.working = false := by simp [State.enterFallback, State.working]
    rw [State.lightingSound_resting hfrom] at h
    rw [State.lightingSound_resting hto]
    simpa [State.enterFallback] using h
  | entersNormal hst =>
    have hfrom : s.working = true := by simp [State.working, hst]
    rw [State.lightingSound_working hfrom] at h
    rw [State.lightingSound_working (by simp [State.working])]
    simpa [State.forcingHolds] using h
  | roundStarts hw => exact h.startRound hw
  | headAnswers hw =>
    refine State.LightingSound.afterPoll ?_ ?_ _
    · exact h.setAir rfl
    · exact hw
  | headMisses hw =>
    refine State.LightingSound.afterPoll ?_ ?_ _
    · exact h.of_same rfl rfl rfl rfl rfl
    · exact hw
  | sampled hw => exact h.airSample hw
  | purgeWorking hw v _ taken ht =>
    obtain ⟨hl, hm, -, hf⟩ := (State.lightingSound_working hw).mp h
    exact State.formForcing_lightingSound ((State.working_eq (by simp [ht])).trans hw) (by simpa [ht] using hm)
      (by simpa [ht] using hl) (by simpa [ht] using hf)
  | purgeResting hw _ v _ taken ht =>
    rw [State.lightingSound_resting hw] at h
    rw [State.lightingSound_resting ((State.working_eq (by simp [ht])).trans hw)]
    simpa [ht] using h
  | readEnds _ _ r _ a => exact h.endRead r a
  | loopMoves _ _ loop _ g _ _ inputs hin next _ moved ht =>
    have hmoved : moved.LightingSound :=
      h.of_same (by simp [ht]) (by simp [ht]) (by cases loop <;> simp [ht, hin, Inputs.takeLoop])
        (by cases loop <;> simp [ht, hin, Inputs.takeLoop]) (by simp [ht])
    cases next.2 with
    | none => exact hmoved
    | some p => exact hmoved.passage g.settings p
  | motionStarts _ n taken ht =>
    have htaken : taken.LightingSound := h.of_same (by simp [ht]) (by simp [ht]) (by simp [ht]) (by simp [ht]) (by simp [ht])
    exact (htaken.presence _).setRepeat _ _
  | motionEnds _ n taken ht =>
    have htaken : taken.LightingSound := h.of_same (by simp [ht]) (by simp [ht]) (by simp [ht]) (by simp [ht]) (by simp [ht])
    exact htaken.setRepeat _ _
  | motionRepeats => exact (h.presence _).setRepeat _ _
  | holdExpires _ n k hk hst =>
    exact h.mapChannel fun c hc hn => Channel.holdExpires_keeps (h.eq_of_channel? hk hc hn ▸ hst)
  | dims _ n k hk hst =>
    exact h.mapChannel fun c hc hn => Channel.dimExpires_keeps (h.eq_of_channel? hk hc hn ▸ hst)
  | lightOverrideEnds => exact h.mapChannel fun c _ _ => c.endOverride_keeps
  | droppedRestarts => exact State.afterReset_lightingSound h.2.1 (.inr rfl) _ _
  | sentRestarts => exact State.afterReset_lightingSound h.2.1 (.inr rfl) _ _
  | idles _ idle hidle _ ht =>
    rcases ht with rfl | rfl <;>
      exact h.of_same (by simp [hidle]) (by simp [hidle]) (by simp [hidle]) (by simp [hidle]) (by simp [hidle])
  | idleSelects _ _ idle hidle _ ht =>
    rcases ht with rfl | rfl <;>
      exact h.of_same (by simp [hidle]) (by simp [hidle]) (by simp [hidle]) (by simp [hidle]) (by simp [hidle])
  | frame _ _ _ e => exact e.lightingSound h
  | _ => exact h.of_same (by simp) (by simp) (by simp) (by simp) (by simp)

/-- A tick keeps every channel legal and FORCED where it was. -/
theorem State.LightingSound.tick {s : State} (h : s.LightingSound) : s.tick.LightingSound := by
  unfold State.tick
  split
  · exact h.of_same rfl rfl rfl rfl rfl
  · have hchannels := h.mapChannels (f := Channel.tick) fun c _ => c.tick_keeps
    have htimers := hchannels.setRepeats (l := s.light.repeatTimers.map Timer.tick) (by simpa using h.2.2.2.1)
    refine htimers.of_same rfl rfl ?_ ?_ rfl
    · unfold Inputs.tick FilteredInput.tick
      (repeat' split) <;> rfl
    · unfold Inputs.tick
      split <;> simp

/-- Settles O54: channel by channel, and by the forming of the forcing condition wherever one of its sources changes. -/
theorem stepKeepsLightingSound : Obligations.StepKeepsLightingSound := fun _ _ hstep h =>
  step_keeps (I := State.LightingSound) (fun _ _ h => h.of_same rfl rfl rfl rfl rfl) (fun _ h => h.tick)
    (fun _ _ _ e h => e.lightingSound h) hstep h

end Sys2Proof.Machine
end

section
/-! PROOFS. The corrected settings of a record (R72, R173, R174, R175): field by field, in range, each correction counted
once. -/

namespace Sys2Proof.Machine

/-! ### Clamping -/

theorem clampTo_eq {lo hi : Nat} (h : lo ≤ hi) (v : Nat) : clampTo lo hi v = min hi (max lo v) := by
  unfold clampTo
  omega

theorem le_clampTo (lo hi v : Nat) : lo ≤ clampTo lo hi v := le_max_left lo _

theorem clampTo_le {lo hi : Nat} (h : lo ≤ hi) (v : Nat) : clampTo lo hi v ≤ hi := max_le h (min_le_left hi v)

@[simp] theorem clampTo_zero (hi v : Nat) : clampTo 0 hi v = min hi v := by simp [clampTo]

@[simp] theorem clampField_value (lo hi v : Nat) : (clampField lo hi v).value = clampTo lo hi v := rfl

@[simp] theorem clampField_corrections (lo hi v : Nat) : (clampField lo hi v).corrections = outside lo hi v := rfl

/-! ### Collections of numbered devices -/

theorem mem_oneTo {n k : Nat} : k ∈ oneTo n ↔ 1 ≤ k ∧ k ≤ n := by
  simp only [oneTo, List.mem_map, List.mem_range]
  exact ⟨fun ⟨a, ha, hk⟩ => by omega, fun h => ⟨k - 1, by omega⟩⟩

theorem oneTo_ascending (n : Nat) : Ascending (oneTo n) :=
  List.pairwise_map.mpr (List.pairwise_lt_range.imp Nat.succ_lt_succ)

section Collect

variable {α : Type} {n : Nat} {f : Nat → Corrected (Option α)}

theorem collect_value : (collect n f).value = (oneTo n).filterMap (fun k => (f k).value) := by
  simp [collect, oneTo, List.filterMap_map, Function.comp_def]

theorem collect_corrections : (collect n f).corrections = ((oneTo n).map (fun k => (f k).corrections)).sum := by
  simp [collect, oneTo, Function.comp_def]

theorem mem_collect {x : α} : x ∈ (collect n f).value ↔ ∃ k, 1 ≤ k ∧ k ≤ n ∧ (f k).value = some x := by
  simp [collect_value, mem_oneTo, and_assoc]

/-- Devices that carry their own numbers stand in the order of them. -/
theorem collect_ascending {number : α → Nat} (h : ∀ k x, (f k).value = some x → number x = k) :
    Ascending ((collect n f).value.map number) := by
  rw [collect_value, Ascending, List.pairwise_map, List.pairwise_filterMap]
  refine (oneTo_ascending n).imp fun hlt x hx y hy => ?_
  rwa [h _ x hx, h _ y hy]

end Collect

/-! ### Each device -/

theorem headOfRecord_legal {r : List Byte} {n : Nat} {h : HeadSettings} (heq : (headOfRecord r n).value = some h) :
    h.number = n ∧ 1 ≤ h.fullScale ∧ h.fullScale ≤ 1000 ∧ h.shift ≤ 4 ∧ 1 ≤ h.limit ∧ h.limit ≤ 1000 := by
  unfold headOfRecord at heq
  dsimp only at heq
  split at heq <;> cases heq
  all_goals
    exact ⟨rfl, le_clampTo _ _ _, clampTo_le (by decide) _, clampTo_le (by decide) _, le_clampTo _ _ _,
      clampTo_le (by decide) _⟩

theorem bayOfRecord_legal {r : List Byte} {n : Nat} {b : BaySettings} (heq : (bayOfRecord r n).value = some b) :
    b.number = n ∧ b.channel ≤ 8 := by
  unfold bayOfRecord at heq
  dsimp only at heq
  split at heq <;> cases heq
  exact ⟨rfl, clampTo_le (by decide) _⟩

theorem gateOfRecord_legal {own : Nat} {r : List Byte} {n : Nat} {g : GateSettings}
    (heq : (gateOfRecord own r n).value = some g) :
    g.number = n ∧ g.farSide.all (fun a => decide (1 ≤ a ∧ a ≤ 62 ∧ a ≠ own)) = true := by
  unfold gateOfRecord at heq
  dsimp only at heq
  split at heq <;> cases heq
  refine ⟨rfl, ?_⟩
  dsimp only
  split
  · rfl
  · rename_i hfar
    simp only [Bool.or_eq_true, decide_eq_true_eq, not_or] at hfar
    exact decide_eq_true ⟨by omega, by omega, hfar.1.2⟩

theorem staticOfRecord_legal {own : Nat} {r : List Byte} {n : Nat} {c : StaticSettings}
    (heq : (staticOfRecord own r n).value = some c) :
    c.Legal own ∧ c.address = recordByte r (154 + 5 * (n - 1)) ∧
      c.address ∉ (List.range (n - 1)).map (fun k => recordByte r (154 + 5 * k)) := by
  unfold staticOfRecord at heq
  dsimp only at heq
  split at heq
  · cases heq
  · rename_i hused
    split at heq <;> cases heq
    rename_i hgood
    simp only [not_or] at hgood
    obtain ⟨hhigh, hown, hearlier⟩ := hgood
    refine ⟨⟨by simp only; omega, by simp only; omega, hown, clampTo_le (by decide) _, clampTo_le (by decide) _, ?_⟩,
      rfl, hearlier⟩
    dsimp only
    split
    · refine decide_eq_true ⟨?_, le_clampTo _ _ _, clampTo_le (by decide) _⟩
      exact Nat.le_of_lt_succ (Nat.mod_lt _ (by decide))
    · rfl

theorem signOfRecord_number {r : List Byte} {n : Nat} {g : SignSettings} (heq : (signOfRecord r n).value = some g) :
    g.number = n := by
  unfold signOfRecord at heq
  dsimp only at heq
  split at heq <;> cases heq
  rfl

theorem channelOfRecord_legal {r : List Byte} {n : Nat} {c : ChannelSettings}
    (heq : (channelOfRecord r n).value = some c) : c.Legal := by
  cases heq
  exact ⟨clampTo_le (by decide) _, clampTo_le (by decide) _, le_clampTo _ _ _, clampTo_le (by decide) _,
    le_clampTo _ _ _, clampTo_le (by decide) _⟩

/-! ### The settings of a record in their ranges -/

theorem own_of_recordPasses {r : List Byte} (h : recordPasses r = true) : 1 ≤ recordByte r 4 ∧ recordByte r 4 ≤ 62 := by
  simp only [recordPasses, Bool.and_eq_true, decide_eq_true_eq] at h
  exact ⟨h.1.2, h.2⟩

theorem revertThresholds_legal {w n a : Nat} (hw : 1 ≤ w) (ha : a ≤ 999) :
    1 ≤ (revertThresholds w n a).value.1 ∧
      (revertThresholds w n a).value.1 < (revertThresholds w n a).value.2.1 ∧
      (revertThresholds w n a).value.2.1 < (revertThresholds w n a).value.2.2 ∧
      (revertThresholds w n a).value.2.2 ≤ 999 := by
  unfold revertThresholds
  split
  · rename_i hasc
    exact ⟨hw, hasc.1, hasc.2, ha⟩
  · decide

theorem revertEffective_legal {lo hi : Nat} (h : hi ≤ 999) :
    (revertEffective lo hi).value.1 < (revertEffective lo hi).value.2 ∧ (revertEffective lo hi).value.2 ≤ 999 := by
  unfold revertEffective
  split
  · exact ⟨‹_›, h⟩
  · decide

theorem settingsOfRecord_airLegal {r : List Byte} (h : recordPasses r = true) : (settingsOfRecord r).value.AirLegal := by
  obtain ⟨hlow, hhigh⟩ := own_of_recordPasses h
  obtain ⟨hw, hwn, hna, ha⟩ := revertThresholds_legal (n := clampTo 1 999 (recordHalf r 11))
    (le_clampTo 1 999 (recordHalf r 9)) (clampTo_le (by decide) (recordHalf r 13) : clampTo 1 999 _ ≤ 999)
  refine ⟨hlow, hhigh, clampTo_le (by decide) _, le_clampTo _ _ _, clampTo_le (by decide) _, le_clampTo _ _ _,
    clampTo_le (by decide) _, hw, hwn, hna, ha, clampTo_le (by decide) _, clampTo_le (by decide) _, ?_, ?_⟩
  · intro x hx
    obtain ⟨k, hk, hk6, heq⟩ := mem_collect.mp hx
    obtain ⟨hnum, hrest⟩ := headOfRecord_legal heq
    exact ⟨hnum ▸ hk, hnum ▸ hk6, hrest⟩
  · exact collect_ascending fun k x hx => (headOfRecord_legal hx).1

theorem settingsOfRecord_fansLegal (r : List Byte) : (settingsOfRecord r).value.FansLegal := by
  obtain ⟨hlt, hle⟩ := revertEffective_legal (lo := clampTo 0 999 (recordHalf r 54))
    (clampTo_le (by decide) (recordHalf r 56) : clampTo 0 999 _ ≤ 999)
  have mem : ∀ n ∈ fansOfRecord r, 1 ≤ n ∧ n ≤ 6 := by
    intro n hn
    have hsix : n ∈ oneTo 6 := (List.mem_filter.mp hn).1
    exact mem_oneTo.mp hsix
  have asc : Ascending (fansOfRecord r) := (oneTo_ascending 6).filter _
  exact ⟨mem, asc, hlt, hle, clampTo_le (by decide) _, clampTo_le (by decide) _, clampTo_le (by decide) _,
    clampTo_le (by decide) _, clampTo_le (by decide) _, clampTo_le (by decide) _, clampTo_le (by decide) _,
    clampTo_le (by decide) _, le_clampTo _ _ _, clampTo_le (by decide) _, le_clampTo _ _ _, clampTo_le (by decide) _,
    le_clampTo _ _ _, clampTo_le (by decide) _, le_clampTo _ _ _, clampTo_le (by decide) _, le_clampTo _ _ _,
    clampTo_le (by decide) _⟩

/-- No slot gives the address of an earlier one (R72). -/
theorem settingsOfRecord_statics_nodup (r : List Byte) :
    ((settingsOfRecord r).value.statics.map StaticSettings.address).Nodup := by
  change ((collect 8 (staticOfRecord (recordByte r 4) r)).value.map StaticSettings.address).Pairwise (· ≠ ·)
  rw [collect_value, List.pairwise_map, List.pairwise_filterMap]
  refine (oneTo_ascending 8).imp_of_mem fun {a b} ha hb hlt x hx y hy => ?_
  obtain ⟨-, hxaddr, -⟩ := staticOfRecord_legal hx
  obtain ⟨-, -, hyearlier⟩ := staticOfRecord_legal hy
  have hpos := (mem_oneTo.mp ha).1
  rintro heq
  exact hyearlier (List.mem_map.mpr ⟨a - 1, List.mem_range.mpr (by omega), heq ▸ hxaddr.symm⟩)

theorem collect_length_le {α : Type} {n : Nat} {f : Nat → Corrected (Option α)} : (collect n f).value.length ≤ n := by
  rw [collect_value]
  exact (List.length_filterMap_le _ _).trans (by simp [oneTo])

theorem settingsOfRecord_zoneLegal (r : List Byte) : (settingsOfRecord r).value.ZoneLegal := by
  refine ⟨le_clampTo _ _ _, clampTo_le (by decide) _, le_clampTo _ _ _, clampTo_le (by decide) _, ?_, ?_, ?_, ?_, rfl,
    collect_length_le, ?_, settingsOfRecord_statics_nodup r, ?_, ?_, settingsOfRecord_channels_length r, ?_⟩
  · intro b hb
    obtain ⟨k, hk, hk64, heq⟩ := mem_collect.mp hb
    obtain ⟨hnum, hchannel⟩ := bayOfRecord_legal heq
    exact ⟨hnum ▸ hk, hnum ▸ hk64, hchannel⟩
  · exact collect_ascending fun k x hx => (bayOfRecord_legal hx).1
  · intro g hg
    obtain ⟨k, hk, hk4, heq⟩ := mem_collect.mp hg
    obtain ⟨hnum, hfar⟩ := gateOfRecord_legal heq
    exact ⟨hnum ▸ hk, hnum ▸ hk4, hfar⟩
  · exact collect_ascending fun k x hx => (gateOfRecord_legal hx).1
  · intro c hc
    obtain ⟨k, -, -, heq⟩ := mem_collect.mp hc
    exact (staticOfRecord_legal heq).1
  · exact collect_ascending fun k x hx => signOfRecord_number hx
  · intro g hg
    obtain ⟨k, hk, hk4, heq⟩ := mem_collect.mp hg
    exact signOfRecord_number heq ▸ ⟨hk, hk4⟩
  · intro c hc
    obtain ⟨k, -, -, heq⟩ := mem_collect.mp hc
    exact channelOfRecord_legal heq

/-! ### The settings of a record are the record's -/

theorem clampTo_one_eq_zero (v : Nat) : clampTo 0 1 v = 0 ↔ v = 0 := by
  rw [clampTo_zero]
  omega

theorem settingsOfRecord_givesFields (r : List Byte) : RecordGivesFields r (settingsOfRecord r).value := by
  refine ⟨rfl, ?_, ?_, ?_, ?_, ?_, rfl, rfl⟩
  · simp only [byteFields, List.forall_mem_cons, List.not_mem_nil, false_imp_iff, implies_true, and_true]
    refine ⟨?_, ?_, ?_, ?_, ?_, ?_, ?_, ?_, ?_, ?_, ?_, ?_, ?_, ?_, ?_, ?_, ?_, ?_, ?_, ?_⟩ <;>
      exact clampTo_eq (by decide) _
  · change (if clampTo 0 1 (recordByte r 8) = 0 then Selection.strict else .weighted) = _
    simp only [clampTo_one_eq_zero]
  · change (if clampTo 0 1 (recordByte r 68) = 0 then FallMode.ramp else .coast) = _
    simp only [clampTo_one_eq_zero]
  · change (revertThresholds (clampTo 1 999 (recordHalf r 9)) (clampTo 1 999 (recordHalf r 11))
      (clampTo 1 999 (recordHalf r 13))).value = _
    simp only [revertThresholds, clampTo_eq (show 1 ≤ 999 by decide), List.map_cons, List.map_nil]
    split <;> rfl
  · change (revertEffective (clampTo 0 999 (recordHalf r 54)) (clampTo 0 999 (recordHalf r 56))).value = _
    simp only [revertEffective, clampTo_zero, min_comm (999 : Nat)]
    split <;> rfl

/-! ### Each device is the one its bytes give -/

theorem recordGivesHead (r : List Byte) {n : Nat} (hn : 1 ≤ n) : RecordGivesHead r n (11 + 6 * n) := by
  have hbase : 17 + 6 * (n - 1) = 11 + 6 * n := by omega
  simp only [RecordGivesHead, headOfRecord, hbase, clampField_value, clampField_corrections, clampTo_eq (show 1 ≤ 1000 by decide), clampTo_zero]
  refine ⟨fun h => by simp [h], fun h => ?_, ?_⟩
  · split
    · omega
    · omega
    · omega
    · rfl
  · simp only [List.forall_mem_cons, List.not_mem_nil, false_imp_iff, implies_true, and_true]
    exact ⟨fun h => by simp [h], fun h => by simp [h]⟩

theorem recordGivesBay (r : List Byte) (n : Nat) : RecordGivesBay r n (r.getD (73 + n) 0#8) := by
  have hclass : ∀ k, k < 4 → classOfCode k = [BayClass.standard, .accessible, .charging, .staff].getD k .staff := by
    decide
  have hfield : field (r.getD (73 + n) 0#8) 4 2 < 4 := Nat.mod_lt _ (by decide)
  simp only [RecordGivesBay, bayOfRecord, hclass _ hfield, clampField_value, clampField_corrections, clampTo_zero]

theorem recordGivesGate (own : Nat) (r : List Byte) {n : Nat} (hn : 1 ≤ n) : RecordGivesGate own r n (135 + 3 * n) := by
  have hbase : 138 + 3 * (n - 1) = 135 + 3 * n := by omega
  have hfar : ∀ far : Nat, (if (decide (62 < far) || decide (far = own)) || far = 0 then none else some far) =
      if 1 ≤ far ∧ far ≤ 62 ∧ far ≠ own then some far else none := by
    intro far
    by_cases h : 1 ≤ far ∧ far ≤ 62 ∧ far ≠ own
    · rw [if_pos h, if_neg]
      simp only [Bool.or_eq_true, decide_eq_true_eq]
      omega
    · rw [if_neg h, if_pos]
      simp only [Bool.or_eq_true, decide_eq_true_eq]
      omega
  simp only [RecordGivesGate, gateOfRecord, hbase, hfar]
  simp only [Bool.or_eq_true, decide_eq_true_eq]

theorem recordGivesStatic (own : Nat) (r : List Byte) {n : Nat} (hn : 1 ≤ n) :
    RecordGivesStatic own r n (149 + 5 * n) := by
  have hbase : 154 + 5 * (n - 1) = 149 + 5 * n := by omega
  simp only [RecordGivesStatic, staticOfRecord, hbase, clampField_value, clampField_corrections, clampTo_zero,
    clampTo_eq (show 1 ≤ 4 by decide), show ∀ a : Nat, 63 ≤ a ↔ 62 < a from fun _ => Iff.rfl]

theorem arrowOfCode_eq {k : Nat} (hk : k < 16) : arrowOfCode k = { value := arrowHeld k, corrections := outside 1 6 k } := by
  revert k
  decide

theorem recordGivesSign (r : List Byte) {n : Nat} (hn : 1 ≤ n) : RecordGivesSign r n (190 + 4 * n) := by
  have hbase : 194 + 4 * (n - 1) = 190 + 4 * n := by omega
  have nibble : ∀ (b : Byte) (lo : Nat), field b lo 4 < 16 := fun b lo => Nat.mod_lt _ (by decide)
  have pair : ∀ (b : Byte) (lo : Nat), field b lo 2 < 4 := fun b lo => Nat.mod_lt _ (by decide)
  have hmode : ∀ k, k < 4 → (match clampTo 0 2 k with | 0 => SignMode.zone | 1 => .route | _ => .total) =
      [SignMode.zone, .route, .total].getD (min 2 k) .total := by decide
  have hclass : ∀ k, k < 4 → (match k with
      | 0 => GuidedClass.standard | 1 => .accessible | 2 => .charging | _ => .standard) =
        [GuidedClass.standard, .accessible, .charging].getD k .standard ∧
      (if k = 3 then 1 else 0) = outside 0 2 k := by decide
  simp only [RecordGivesSign, signOfRecord, hbase, arrowOfCode_eq (nibble _ _), clampField_value, clampField_corrections]
  split
  · congr 2
    · congr 1
      · exact hmode _ (pair _ _)
      · exact (hclass _ (pair _ _)).1
    · rw [(hclass _ (pair _ _)).2]
  · rfl

theorem recordGivesChannel (r : List Byte) {n : Nat} (hn : 1 ≤ n) : RecordGivesChannel r n (204 + 6 * n) := by
  have hbase : 210 + 6 * (n - 1) = 204 + 6 * n := by omega
  simp only [RecordGivesChannel, channelOfRecord, hbase, clampField_value, clampField_corrections, clampTo_zero,
    clampTo_eq (show 10 ≤ 3600 by decide), clampTo_eq (show 1 ≤ 50 by decide), min_comm (100 : Nat)]

theorem settingsOfRecord_givesDevices (r : List Byte) : RecordGivesDevices r (settingsOfRecord r).value := by
  refine ⟨⟨?_, ?_, ?_, ?_, ?_, ?_⟩, collect_value, collect_value, collect_value, collect_value, collect_value,
    collect_value⟩
  · exact fun n hn => recordGivesHead r (mem_oneTo.mp hn).1
  · exact fun n _ => recordGivesBay r n
  · exact fun n hn => recordGivesGate _ r (mem_oneTo.mp hn).1
  · exact fun n hn => recordGivesStatic _ r (mem_oneTo.mp hn).1
  · exact fun n hn => recordGivesSign r (mem_oneTo.mp hn).1
  · exact fun n hn => recordGivesChannel r (mem_oneTo.mp hn).1

/-! ### Each correction is counted once -/

theorem revertThresholds_corrections (w n a : Nat) :
    (revertThresholds w n a).corrections = if Ascending [w, n, a] then 0 else 1 := by
  have hasc : Ascending [w, n, a] ↔ w < n ∧ n < a := by
    simp only [Ascending, List.pairwise_cons, List.mem_cons, List.not_mem_nil, or_false, forall_eq_or_imp, forall_eq]
    constructor
    · rintro ⟨⟨hwn, -⟩, hna, -⟩
      exact ⟨hwn, hna⟩
    · rintro ⟨hwn, hna⟩
      exact ⟨⟨hwn, hwn.trans hna⟩, hna, by simp⟩
  unfold revertThresholds
  simp only [hasc]
  split <;> rfl

theorem revertEffective_corrections (lo hi : Nat) :
    (revertEffective lo hi).corrections = if lo < hi then 0 else 1 := by
  unfold revertEffective
  split <;> rfl

theorem settingsOfRecord_corrections (r : List Byte) : (settingsOfRecord r).corrections = recordCorrections r := by
  simp only [settingsOfRecord, recordCorrections, collect_corrections, clampField_corrections, clampField_value,
    revertThresholds_corrections, revertEffective_corrections, byteFields, List.map_cons, List.map_nil, List.sum_cons,
    List.sum_nil, clampTo_eq (show 1 ≤ 999 by decide), clampTo_zero, min_comm (999 : Nat)]
  ring

/-- Settles O7: the ranges from the clamping of each field, the fields and devices from their definitions, and the count
of corrections summand by summand. -/
theorem correctedSettingsLieInTheirRanges : Obligations.CorrectedSettingsLieInTheirRanges := fun r h =>
  ⟨settingsOfRecord_airLegal h, settingsOfRecord_fansLegal r, settingsOfRecord_zoneLegal r,
    settingsOfRecord_givesFields r, settingsOfRecord_givesDevices r, settingsOfRecord_corrections r⟩

end Sys2Proof.Machine
end

section
/-! PROOFS. The Peer Table after every step (R73, R74, R77..R79, R81, R82, R84). -/

namespace Sys2Proof.Machine

/-! ### Entries -/

theorem heardIndex_le (h : Half) : (heardIndex h).getD 0 ≤ 999 := by
  unfold heardIndex
  cases indexOfHalf h <;> simp

theorem heardAdvert_legal (a : AdvertPayload) : (heardAdvert a).Legal := by
  refine ⟨min_le_left _ _, min_le_left _ _, ?_⟩
  unfold heardAdvert
  dsimp only
  split <;> omega

theorem Heard.absent_legal : Heard.absent.Legal := by decide

/-- What a bulletin gives is brought into range (R74, R77). -/
theorem Heard.take_legal {h : Heard} (hl : h.Legal) (b : Bulletin) : (h.take b).Legal := by
  cases b with
  | status p => exact ⟨heardIndex_le _, by simp [Heard.take, heardAdvert_legal]⟩
  | alert p => exact ⟨heardIndex_le _, hl.2⟩
  | passage _ => exact hl

/-- An entry that has kept its origin suits it still. -/
theorem Peer.suitsOrigin_of {p q : Peer} (h : p.suitsOrigin = true) (ho : q.origin = p.origin)
    (ha : q.address = p.address) (hl : ∀ c, p.origin = .static c → q.level = p.level)
    (hs : p.origin = .learned → q.state ≠ .silent) : q.suitsOrigin = true := by
  unfold Peer.suitsOrigin at h ⊢
  rw [ho, ha]
  cases hp : p.origin with
  | learned => exact decide_eq_true (hs hp)
  | static c =>
    rw [hp] at h
    rw [hl c hp]
    exact h

/-- A bulletin leaves the level number of a static entry (R77). -/
theorem levelAfter_static (c : StaticSettings) (old : Option Nat) (b : Bulletin) : levelAfter (.static c) old b = old := by
  cases b <;> rfl

theorem Peer.renew_legal {p : Peer} (hp : p.Legal) (b : Bulletin) : (p.renew b).Legal := by
  obtain ⟨hlow, hhigh, hheard, -, -, -, horigin⟩ := hp
  refine ⟨hlow, hhigh, Heard.take_legal hheard b, Nat.zero_le 3, by simp [Peer.renew], by simp [Peer.renew], ?_⟩
  exact Peer.suitsOrigin_of horigin rfl rfl (fun c hc => by simp [Peer.renew, hc, levelAfter_static]) (by simp [Peer.renew])

theorem Peer.learn_legal {source : Nat} (hlow : 1 ≤ source) (hhigh : source ≤ 62) (b : Bulletin) :
    (Peer.learn source b).Legal :=
  ⟨hlow, hhigh, Heard.take_legal Heard.absent_legal b, Nat.zero_le 3, by simp [Peer.learn], by simp [Peer.learn],
    by simp [Peer.learn, Peer.suitsOrigin]⟩

theorem Peer.ofStatic_legal {own : Nat} {c : StaticSettings} (h : c.Legal own) : (Peer.ofStatic c).Legal :=
  ⟨h.1, h.2.1, Heard.absent_legal, le_rfl, by simp [Peer.ofStatic], by simp [Peer.ofStatic],
    by simp [Peer.ofStatic, Peer.suitsOrigin]⟩

/-- An entry that a sweep leaves is legal (R81, R82). -/
theorem Peer.sweep_legal {p q : Peer} (hp : p.Legal) (hq : p.sweep = some q) : q.Legal := by
  obtain ⟨hlow, hhigh, hheard, hage, hfresh, hsilent, horigin⟩ := hp
  unfold Peer.sweep at hq
  split at hq
  · rename_i hyoung
    have hspoken : p.state ≠ .silent := fun h => absurd (hsilent h).1 (by omega)
    have hold : ¬ p.state = .fresh → 1 < p.age := fun h => by simpa [h] using hfresh
    obtain rfl := Option.some.inj hq
    have hstate : (if p.state = .fresh ∧ 2 ≤ p.age + 1 then PeerState.stale else p.state) ≠ .silent := by
      split
      · decide
      · exact hspoken
    refine ⟨hlow, hhigh, hheard, hyoung, ?_, fun h => absurd h hstate, ?_⟩
    · by_cases hs : p.state = .fresh
      · by_cases hone : 1 ≤ p.age
        · simp [hs, hone]
          omega
        · simp [hs, hone]
          omega
      · simpa [hs] using by have := hold hs; omega
    · exact Peer.suitsOrigin_of horigin rfl rfl (fun _ _ => rfl) fun _ => hstate
  · have hthree : p.age = 3 := by omega
    split at hq
    · cases hq
    · rename_i c horig hstale
      obtain rfl := Option.some.inj hq
      exact ⟨hlow, hhigh, Heard.absent_legal, hage, by simp [hthree], by simp [hthree],
        Peer.suitsOrigin_of horigin rfl rfl (fun _ _ => rfl) (fun h => by rw [horig] at h; cases h)⟩
    · obtain rfl := Option.some.inj hq
      exact ⟨hlow, hhigh, hheard, hage, hfresh, hsilent, horigin⟩

theorem Peer.sweep_address {p q : Peer} (hq : p.sweep = some q) : q.address = p.address := by
  unfold Peer.sweep at hq
  split at hq
  · obtain rfl := Option.some.inj hq
    rfl
  · split at hq
    · cases hq
    · obtain rfl := Option.some.inj hq
      rfl
    · obtain rfl := Option.some.inj hq
      rfl

/-! ### Slots -/

/-- The entries of the slots, in slot order. -/
abbrev entriesOf (slots : List (Option Peer)) : List Peer := slots.filterMap id

theorem mem_entriesOf {slots : List (Option Peer)} {p : Peer} : p ∈ entriesOf slots ↔ some p ∈ slots := by
  simp [entriesOf]

theorem entriesOf_map (f : Peer → Peer) (slots : List (Option Peer)) :
    entriesOf (slots.map (Option.map f)) = (entriesOf slots).map f := by
  simp only [entriesOf, List.filterMap_map, List.map_filterMap]
  rfl

theorem entriesOf_bind (f : Peer → Option Peer) (slots : List (Option Peer)) :
    entriesOf (slots.map (fun slot => slot.bind f)) = (entriesOf slots).filterMap f := by
  simp only [entriesOf, List.filterMap_map, List.filterMap_filterMap]
  rfl

theorem fillFirstEmpty_length (p : Peer) (slots : List (Option Peer)) :
    (fillFirstEmpty p slots).length = slots.length := by
  induction slots with
  | nil => rfl
  | cons slot rest ih => cases slot <;> simp [fillFirstEmpty, ih]

/-- An entry admitted stands beside those that were there (R78). -/
theorem entriesOf_fillFirstEmpty (p : Peer) {slots : List (Option Peer)} (h : slots.any Option.isNone = true) :
    (entriesOf (fillFirstEmpty p slots)).Perm (p :: entriesOf slots) := by
  induction slots with
  | nil => cases h
  | cons slot rest ih =>
    cases slot with
    | none => exact List.Perm.refl _
    | some q =>
      have hrest : rest.any Option.isNone = true := by simpa using h
      exact ((ih hrest).cons q).trans (List.Perm.swap p q _)

/-- No entry has this address when the table finds none. -/
theorem PeerTable.entry?_eq_none {t : PeerTable} {a : Nat} :
    t.entry? a = none ↔ ∀ p ∈ entriesOf t.slots, p.address ≠ a := by
  unfold PeerTable.entry?
  cases hf : t.slots.find? (fun slot => slot.any (fun p => p.address == a)) with
  | none =>
    rw [List.find?_eq_none] at hf
    simp only [Option.join_none, mem_entriesOf, true_iff]
    intro p hp
    simpa using hf _ hp
  | some slot =>
    cases slot with
    | none => simpa using List.find?_some hf
    | some q =>
      have hq : q.address = a := by simpa using List.find?_some hf
      simp only [Option.join_some, reduceCtorEq, false_iff, not_forall]
      exact ⟨q, mem_entriesOf.mpr (List.mem_of_find?_eq_some hf), fun h => h hq⟩

/-- The entry a table finds for an address is one of its entries and has that address. -/
theorem PeerTable.entry?_eq_some {t : PeerTable} {a : Nat} {p : Peer} (h : t.entry? a = some p) :
    p ∈ entriesOf t.slots ∧ p.address = a := by
  unfold PeerTable.entry? at h
  rw [Option.join_eq_some_iff] at h
  exact ⟨mem_entriesOf.mpr (List.mem_of_find?_eq_some h), by simpa using List.find?_some h⟩

/-- Sixteen slots, legal entries, no two with one address: what `PeersSound` says of the slots. -/
structure SlotsSound (slots : List (Option Peer)) : Prop where
  length : slots.length = 16
  legal : ∀ p ∈ entriesOf slots, p.Legal
  nodup : ((entriesOf slots).map Peer.address).Nodup

theorem slotsSound_empty : SlotsSound (List.replicate 16 none) :=
  ⟨rfl, by simp, by simp⟩

theorem SlotsSound.sweep {slots : List (Option Peer)} (h : SlotsSound slots) :
    SlotsSound (slots.map (fun slot => slot.bind Peer.sweep)) := by
  refine ⟨by simp [h.length], fun p hp => ?_, ?_⟩
  · rw [entriesOf_bind, List.mem_filterMap] at hp
    obtain ⟨q, hq, hqp⟩ := hp
    exact Peer.sweep_legal (h.legal q hq) hqp
  · rw [entriesOf_bind, List.Nodup, List.pairwise_map, List.pairwise_filterMap]
    refine (List.pairwise_map.mp h.nodup).imp fun {a b} hab x hx y hy => ?_
    rwa [Peer.sweep_address hx, Peer.sweep_address hy]

theorem SlotsSound.renew {slots : List (Option Peer)} (h : SlotsSound slots) (source : Nat) (b : Bulletin) :
    SlotsSound (slots.map (Option.map (fun p => if p.address = source then p.renew b else p))) := by
  refine ⟨by simp [h.length], fun p hp => ?_, ?_⟩
  · rw [entriesOf_map, List.mem_map] at hp
    obtain ⟨q, hq, rfl⟩ := hp
    split
    · exact Peer.renew_legal (h.legal q hq) b
    · exact h.legal q hq
  · have hsame : (Peer.address ∘ fun p : Peer => if p.address = source then p.renew b else p) = Peer.address := by
      funext p
      simp only [Function.comp_apply]
      split <;> rfl
    rw [entriesOf_map, List.map_map, hsame]
    exact h.nodup

/-- A learned entry of a station the slots do not hold finds an empty slot (R78). -/
theorem SlotsSound.fill {slots : List (Option Peer)} (h : SlotsSound slots) {p : Peer} (hp : p.Legal)
    (hnew : ∀ q ∈ entriesOf slots, q.address ≠ p.address) (hempty : slots.any Option.isNone = true) :
    SlotsSound (fillFirstEmpty p slots) := by
  have hperm := entriesOf_fillFirstEmpty p hempty
  refine ⟨by rw [fillFirstEmpty_length, h.length], fun q hq => ?_, ?_⟩
  · rcases List.mem_cons.mp (hperm.mem_iff.mp hq) with rfl | hold
    · exact hp
    · exact h.legal q hold
  · rw [(hperm.map Peer.address).nodup_iff, List.map_cons, List.nodup_cons]
    refine ⟨fun hin => ?_, h.nodup⟩
    obtain ⟨q, hq, haddress⟩ := List.mem_map.mp hin
    exact hnew q hq haddress

/-- A learned entry of a station the slots do not hold takes the slot of another (R79). -/
theorem SlotsSound.evict {slots : List (Option Peer)} (h : SlotsSound slots) {p : Peer} (hp : p.Legal)
    (hnew : ∀ q ∈ entriesOf slots, q.address ≠ p.address) (victim : Nat) :
    SlotsSound (slots.map (Option.map (fun q => if q.address = victim then p else q))) := by
  refine ⟨by simp [h.length], fun q hq => ?_, ?_⟩
  · rw [entriesOf_map, List.mem_map] at hq
    obtain ⟨x, hx, rfl⟩ := hq
    split
    · exact hp
    · exact h.legal x hx
  · rw [entriesOf_map, List.map_map]
    have hinj := List.inj_on_of_nodup_map h.nodup
    refine List.Nodup.map_on (fun x hx y hy hxy => ?_) h.nodup.of_map
    simp only [Function.comp_apply] at hxy
    split at hxy <;> split at hxy
    · exact hinj hx hy (‹x.address = victim›.trans ‹y.address = victim›.symm)
    · exact absurd hxy.symm (hnew y hy)
    · exact absurd hxy (hnew x hx)
    · exact hinj hx hy hxy

theorem SlotsSound.taken {t : PeerTable} (h : SlotsSound t.slots) {source : Nat} (hlow : 1 ≤ source)
    (hhigh : source ≤ 62) {b : Bulletin} {slots : List (Option Peer)} (ht : t.taken source b = some slots) :
    SlotsSound slots := by
  unfold PeerTable.taken at ht
  split at ht
  · obtain rfl := Option.some.inj ht
    exact h.renew source b
  · have hnew := PeerTable.entry?_eq_none.mp ‹_›
    split at ht
    · obtain rfl := Option.some.inj ht
      exact h.fill (Peer.learn_legal hlow hhigh b) hnew ‹_›
    · split at ht
      · obtain rfl := Option.some.inj ht
        exact h.evict (Peer.learn_legal hlow hhigh b) hnew _
      · cases ht

/-- The static entries at the entry to LISTENING (R72, R73). -/
theorem slotsSound_statics {own : Nat} {statics : List StaticSettings} (hlen : statics.length ≤ 8)
    (hlegal : ∀ c ∈ statics, c.Legal own) (hnodup : (statics.map StaticSettings.address).Nodup) :
    SlotsSound (statics.map (fun c => some (Peer.ofStatic c)) ++ List.replicate (16 - statics.length) none) := by
  have hentries : entriesOf (statics.map (fun c => some (Peer.ofStatic c)) ++ List.replicate (16 - statics.length) none) =
      statics.map Peer.ofStatic := by
    simp [entriesOf, List.filterMap_map]
  refine ⟨by simp; omega, fun p hp => ?_, ?_⟩
  · rw [hentries, List.mem_map] at hp
    obtain ⟨c, hc, rfl⟩ := hp
    exact Peer.ofStatic_legal (hlegal c hc)
  · rw [hentries, List.map_map]
    exact hnodup

/-! ### The table -/

theorem State.peersSound_iff (s : State) : s.PeersSound ↔ SlotsSound s.peers.slots ∧
    s.peers.sympathy = sympathyHolds s.settings.levelNumber s.peers.slots ∧
      (s.working = false → s.peers.slots = List.replicate 16 none) :=
  ⟨fun ⟨hlength, hlegal, hnodup, hrest⟩ => ⟨⟨hlength, hlegal, hnodup⟩, hrest⟩,
    fun ⟨hslots, hrest⟩ => ⟨hslots.length, hslots.legal, hslots.nodup, hrest⟩⟩

theorem State.PeersSound.of_same {s t : State} (h : s.PeersSound) (hp : t.peers = s.peers)
    (hc : t.settings = s.settings) (hst : t.station = s.station) : t.PeersSound := by
  have hw : t.working = s.working := State.working_eq hst
  rw [State.peersSound_iff] at h ⊢
  rwa [hp, hc, hw]

/-- A table at its value after reset is sound whatever the settings. -/
theorem State.peersSound_afterReset {s : State} (h : s.peers = .afterReset) : s.PeersSound := by
  rw [State.peersSound_iff, h]
  exact ⟨slotsSound_empty, by simp [PeerTable.afterReset, sympathyHolds], fun _ => rfl⟩

@[simp] theorem State.peersChanged_peers (s : State) (slots : List (Option Peer)) (b : Bool) :
    (s.peersChanged slots b).peers =
      { s.peers with slots := slots, sympathy := sympathyHolds s.settings.levelNumber slots } := by
  unfold State.peersChanged
  dsimp only
  split <;> split <;> simp

theorem State.PeersSound.peersChanged {s : State} (hw : s.working = true) {slots : List (Option Peer)}
    (hslots : SlotsSound slots) (b : Bool) : (s.peersChanged slots b).PeersSound := by
  have hworking : (s.peersChanged slots b).working = true := (State.working_eq (by simp)).trans hw
  rw [State.peersSound_iff]
  exact ⟨by simpa using hslots, by simp, by simp [hworking]⟩

theorem State.PeersSound.takeBulletin {s : State} (h : s.PeersSound) (hw : s.working = true) (source : Byte)
    (b : Bulletin) : (s.takeBulletin source b).PeersSound := by
  rcases s.takeBulletin_cases source b with ⟨n, heq⟩ | ⟨slots, htaken, hlow, hhigh, -, heq⟩ <;> rw [heq]
  · exact h.of_same (by simp) (by simp) (by simp)
  · have hslots := ((State.peersSound_iff s).mp h).1.taken hlow hhigh htaken
    exact (State.PeersSound.peersChanged hw hslots (s.statusOfDrive source.toNat b)).of_same (by simp) (by simp) (by simp)

theorem CommandEffect.peersSound {s t : State} {code : Nat} (e : CommandEffect s code t) (h : s.PeersSound) :
    t.PeersSound := by
  cases e <;> exact h.of_same (by simp) (by simp) (by simp)

theorem ServiceEffect.peersSound {s t : State} {code : Nat} (e : ServiceEffect s code t) (h : s.PeersSound) :
    t.PeersSound := by
  cases e with
  | unanswered _ _ e => exact e.peersSound h
  | answered _ _ _ e => exact (e.peersSound h).of_same (by simp) (by simp) (by simp)
  | restartAnswered _ _ _ _ _ _ ht => exact h.of_same (by simp [ht]) (by simp [ht]) (by simp [ht])
  | restarted => exact State.peersSound_afterReset rfl
  | _ => exact h.of_same (by simp) (by simp) (by simp)

theorem FrameEffect.peersSound {s t : State} {codes : Nat → Prop} (e : FrameEffect s codes t) (h : s.PeersSound) :
    t.PeersSound := by
  have haccepted : s.frameAccepted.PeersSound := h.of_same (by simp) (by simp) (by simp)
  cases e with
  | bulletin hw source b =>
    exact haccepted.takeBulletin ((State.working_eq (by simp)).trans hw) source b
  | service _ _ _ e => exact e.peersSound haccepted
  | _ => exact h.of_same (by simp) (by simp) (by simp)

theorem State.enterListening_peersSound (s : State) (image r : List Byte) (k : Nat) :
    (s.enterListening image (settingsOfRecord r).value k).PeersSound := by
  obtain ⟨-, -, -, -, -, -, -, -, -, hlen, hstatics, hnodup, -⟩ := settingsOfRecord_zoneLegal r
  have hpeers : (s.enterListening image (settingsOfRecord r).value k).peers.slots =
      (settingsOfRecord r).value.statics.map (fun c => some (Peer.ofStatic c)) ++
        List.replicate (16 - (settingsOfRecord r).value.statics.length) none := by
    simp [State.enterListening, State.peersListen]
  have hsympathy : (s.enterListening image (settingsOfRecord r).value k).peers.sympathy = false := by
    simp [State.enterListening, State.peersListen]
  have hworking : (s.enterListening image (settingsOfRecord r).value k).working = true := by
    simp [State.enterListening, State.working]
  rw [State.peersSound_iff, hpeers, hsympathy, hworking]
  refine ⟨slotsSound_statics hlen hstatics hnodup, ?_, by simp⟩
  simp [sympathyHolds, Peer.ofStatic]

theorem Effect.peersSound {s t : State} {c : Instr} (e : Effect s c t) (h : s.PeersSound) : t.PeersSound := by
  cases e with
  | reset => exact State.peersSound_afterReset rfl
  | listens => exact s.enterListening_peersSound _ _ _
  | fallsBack _ hst =>
    have hresting : s.working = false := by simp [State.working, hst]
    obtain ⟨hslots, hsympathy, hempty⟩ := (State.peersSound_iff s).mp h
    rw [hempty hresting] at hslots hsympathy
    rw [State.peersSound_iff]
    have hpeers : s.enterFallback.peers = s.peers := by simp [State.enterFallback]
    rw [hpeers, hempty hresting, hsympathy]
    exact ⟨hslots, by simp [sympathyHolds], fun _ => rfl⟩
  | entersNormal hst =>
    rw [State.peersSound_iff] at h ⊢
    have hworking : s.working = true := by simp [State.working, hst]
    have hnormal : State.working (((s.setStation .normal).setStartup
        { s.startup with listeningTimer := none }).guidanceTold true false) = true := by simp [State.working]
    rw [hworking] at h
    rw [hnormal]
    simpa using h
  | purgeWorking _ _ _ _ ht => exact h.of_same (by simp [ht]) (by simp [ht]) (by simp [ht])
  | purgeResting _ _ _ _ _ ht => exact h.of_same (by simp [ht]) (by simp [ht]) (by simp [ht])
  | loopMoves _ _ _ _ _ _ _ _ _ next _ _ ht =>
    cases next.2 <;> exact h.of_same (by simp [ht]) (by simp [ht]) (by simp [ht])
  | swept hw =>
    refine State.PeersSound.peersChanged ?_ ((State.peersSound_iff s).mp h).1.sweep _
    exact hw
  | motionStarts _ _ _ ht => exact h.of_same (by simp [ht]) (by simp [ht]) (by simp [ht])
  | motionEnds _ _ _ ht => exact h.of_same (by simp [ht]) (by simp [ht]) (by simp [ht])
  | droppedRestarts => exact State.peersSound_afterReset rfl
  | sentRestarts => exact State.peersSound_afterReset rfl
  | idles _ idle hidle _ ht => rcases ht with rfl | rfl <;> exact h.of_same (by simp [hidle]) (by simp [hidle]) (by simp [hidle])
  | idleSelects _ _ idle hidle _ ht =>
    rcases ht with rfl | rfl <;> exact h.of_same (by simp [hidle]) (by simp [hidle]) (by simp [hidle])
  | frame _ _ _ e => exact e.peersSound h
  | _ => exact h.of_same (by simp) (by simp) (by simp)

/-- Settles O57: what a bulletin and a sweep do to the slots; every other effect leaves the table. -/
theorem stepKeepsPeersSound : Obligations.StepKeepsPeersSound := fun _ _ hstep h =>
  step_keeps (I := State.PeersSound) (fun _ _ h => h.of_same rfl rfl rfl)
    (fun s h => by
      unfold State.tick
      split
      · exact h.of_same rfl rfl rfl
      · exact h)
    (fun _ _ _ e h => e.peersSound h) hstep h

end Sys2Proof.Machine
end

section
/-! PROOFS. The Bay Monitor after every step: bay records, the read in progress, gates and their loops (R50..R71). -/

namespace Sys2Proof.Machine

/-! ### Filtered inputs -/

/-- An input that has taken a change shows it; the others show what they did. -/
theorem filteredAt_takeAt {l : List FilteredInput} {n : Nat} (hlow : 1 ≤ n) (hhigh : n ≤ l.length) (m : Nat) (v : Bool) :
    filteredAt (takeAt l n v) m = if m = n then v else filteredAt l m := by
  have hn : n ≠ 0 := by omega
  have hget : l[n - 1]? = some l[n - 1] := List.getElem?_eq_getElem _
  have htake : takeAt l n v = l.set (n - 1) (l[n - 1].take v) := by simp [takeAt, inputAt?, hn, hget]
  unfold filteredAt inputAt?
  rw [htake]
  rcases Nat.eq_zero_or_pos m with rfl | hm
  · simp [show ¬ (0 = n) by omega]
  · have hm0 : m ≠ 0 := by omega
    by_cases hmn : m = n
    · subst hmn
      simp [hm0, List.getElem?_set_self (show m - 1 < l.length by omega), FilteredInput.take]
    · simp [hm0, hmn, List.getElem?_set_ne (show n - 1 ≠ m - 1 by omega)]

/-- Inputs changed without a change of their filtered states show what they did. -/
theorem filteredAt_map {l : List FilteredInput} {f : FilteredInput → FilteredInput}
    (h : ∀ i, (f i).filtered = i.filtered) (m : Nat) : filteredAt (l.map f) m = filteredAt l m := by
  unfold filteredAt inputAt?
  by_cases hm : m = 0
  · simp [hm]
  · simp only [hm, if_false, List.getElem?_map]
    cases l[m - 1]? <;> simp [h]

/-- Filters just reset show nothing active (R63, R116). -/
theorem filteredAt_afterReset (l : List FilteredInput) (m : Nat) :
    filteredAt (l.map FilteredInput.afterReset) m = false := by
  unfold filteredAt inputAt?
  by_cases hm : m = 0
  · simp [hm]
  · simp only [hm, if_false, List.getElem?_map]
    cases l[m - 1]? <;> rfl

@[simp] theorem FilteredInput.tick_filtered (i : FilteredInput) : i.tick.filtered = i.filtered := by
  unfold FilteredInput.tick
  split <;> rfl

theorem Inputs.loopOn_takeLoop {i : Inputs} (houter : i.outerLoops.length = 4) (hinner : i.innerLoops.length = 4)
    {n : Nat} (hlow : 1 ≤ n) (hhigh : n ≤ 4) (loop : Loop) (on : Bool) (m : Nat) (k : Loop) :
    (i.takeLoop n loop on).loopOn m k = if m = n ∧ k = loop then on else i.loopOn m k := by
  have ho := filteredAt_takeAt (l := i.outerLoops) hlow (by omega) m on
  have hi := filteredAt_takeAt (l := i.innerLoops) hlow (by omega) m on
  cases loop <;> cases k <;> simp [Inputs.takeLoop, Inputs.loopOn, ho, hi]

/-! ### One bay -/

/-- What an answer keeps of a bay: its settings, its legality, and being out of service. -/
structure Bay.Keeps (b d : Bay) : Prop where
  settings : d.settings = b.settings
  legal : b.Legal → d.Legal
  inService : b.state ≠ .outOfService → d.state ≠ .outOfService

theorem Bay.Keeps.refl (b : Bay) : b.Keeps b := ⟨rfl, id, id⟩

theorem Bay.Keeps.trans {a b c : Bay} (h : a.Keeps b) (k : b.Keeps c) : a.Keeps c :=
  ⟨k.settings.trans h.settings, fun hl => k.legal (h.legal hl), fun hs => k.inService (h.inService hs)⟩

/-- Entering any state but RESERVED without a reservation is legal (R50). -/
theorem Bay.enter_keeps (b : Bay) {st : BayState} (hres : st ≠ .reserved) (hout : st ≠ .outOfService) :
    b.Keeps (b.enter st) :=
  ⟨rfl, fun ⟨_, hcounts⟩ => ⟨by simp [Bay.enter, hres], hcounts⟩, fun _ => hout⟩

theorem saturatingSucc_le (top n : Nat) : saturatingSucc top n ≤ top := by
  unfold saturatingSucc
  split <;> omega

/-- Only the counts have changed, within their ranges. -/
theorem Bay.counts_keeps (b : Bay) {on off bad : Nat} (h : b.Legal → on ≤ 16 ∧ off ≤ 16 ∧ bad ≤ 3) :
    b.Keeps { b with onCount := on, offCount := off, faultCount := bad } :=
  ⟨rfl, fun hl => ⟨hl.1, h hl⟩, id⟩

theorem Bay.answerFault_keeps (b : Bay) : b.Keeps b.answerFault := by
  have counted := b.counts_keeps (on := 0) (off := 0) (bad := saturatingSucc 3 b.faultCount)
    fun _ => ⟨Nat.zero_le _, Nat.zero_le _, saturatingSucc_le _ _⟩
  unfold Bay.answerFault
  dsimp only
  split
  · exact counted.trans (Bay.enter_keeps _ (by decide) (by decide))
  · exact counted

theorem Bay.answered_keeps (b : Bay) : b.Keeps b.answered := by
  unfold Bay.answered
  split
  · exact (b.enter_keeps (st := .unknown) (by decide) (by decide)).trans
      (Bay.counts_keeps _ fun _ => ⟨Nat.zero_le _, Nat.zero_le _, Nat.zero_le _⟩)
  · exact b.counts_keeps fun h => ⟨h.2.1, h.2.2.1, Nat.zero_le _⟩

theorem Bay.answerPresent_keeps (nOn : Nat) (b : Bay) : b.Keeps (b.answerPresent nOn) := by
  have counted := b.answered_keeps.trans (b.answered.counts_keeps (on := saturatingSucc 16 b.answered.onCount) (off := 0)
    (bad := b.answered.faultCount) fun h => ⟨saturatingSucc_le _ _, Nat.zero_le _, h.2.2.2⟩)
  unfold Bay.answerPresent
  dsimp only
  split
  · exact counted.trans (Bay.enter_keeps _ (by decide) (by decide))
  · exact counted

theorem Bay.answerAbsent_keeps (nOff : Nat) (b : Bay) : b.Keeps (b.answerAbsent nOff) := by
  have counted := b.answered_keeps.trans (b.answered.counts_keeps (on := 0) (off := saturatingSucc 16 b.answered.offCount)
    (bad := b.answered.faultCount) fun h => ⟨Nat.zero_le _, saturatingSucc_le _ _, h.2.2.2⟩)
  unfold Bay.answerAbsent
  dsimp only
  split
  · exact counted.trans (Bay.enter_keeps _ (by decide) (by decide))
  · exact counted

theorem Bay.answer_keeps (c : Settings) (a : BayAnswer) (b : Bay) : b.Keeps (b.answer c a) := by
  unfold Bay.answer
  split
  · exact .refl b
  · cases a
    · exact b.answerPresent_keeps _
    · exact b.answerAbsent_keeps _
    · exact b.answerFault_keeps

theorem Bay.comeIn_keeps (b : Bay) : b.Keeps b.comeIn := by
  unfold Bay.comeIn
  split
  · exact (b.enter_keeps (st := .unknown) (by decide) (by decide)).trans
      (Bay.counts_keeps _ fun _ => ⟨Nat.zero_le _, Nat.zero_le _, Nat.zero_le _⟩)
  · exact .refl b

theorem Bay.reserve_keeps (b : Bay) (l : TimeLimit) :
    b.Keeps { b with state := .reserved, reservation := some l } :=
  ⟨rfl, fun h => ⟨by simp, h.2⟩, fun _ => by simp⟩

theorem Bay.fresh_legal (c : BaySettings) : (Bay.fresh c).Legal := by
  unfold Bay.fresh
  cases c.inService <;> simp [Bay.Legal]

/-! ### The bay records -/

/-- The read in progress suits the bays: its answer will be discarded, or its bay is in service (R51). -/
def BayMonitor.ReadSound (b : BayMonitor) : Prop :=
  b.reading.all (fun r => r.discarded || b.bays.any (fun x =>
    decide (x.settings.number = r.bay) && decide (x.state ≠ .outOfService))) = true

/-- What `BaysSound` says of bay records and the read in progress (R50, R51). -/
structure BayMonitor.RecordsSound (b : BayMonitor) : Prop where
  legal : ∀ x ∈ b.bays, x.Legal
  ascending : Ascending (b.bays.map (fun x => x.settings.number))
  numbers : ∀ x ∈ b.bays, 1 ≤ x.settings.number ∧ x.settings.number ≤ 64
  reading : b.ReadSound

/-- Bays changed one by one, with the read in progress still suiting them. -/
theorem BayMonitor.RecordsSound.mapBays {b d : BayMonitor} (h : b.RecordsSound) {f : Bay → Bay}
    (hd : d.bays = b.bays.map f) (hset : ∀ x, (f x).settings = x.settings)
    (hlegal : ∀ x ∈ b.bays, x.Legal → (f x).Legal) (hread : d.ReadSound) : d.RecordsSound := by
  have hnumbers : d.bays.map (fun x => x.settings.number) = b.bays.map (fun x => x.settings.number) := by
    simp [hd, hset]
  refine ⟨?_, hnumbers ▸ h.ascending, ?_, hread⟩
  · rw [hd]
    simp only [List.mem_map, forall_exists_index, and_imp, forall_apply_eq_imp_iff₂]
    exact fun x hx => hlegal x hx (h.legal x hx)
  · rw [hd]
    simp only [List.mem_map, forall_exists_index, and_imp, forall_apply_eq_imp_iff₂, hset]
    exact h.numbers

/-- The bay read is still in service when every bay in service stays so. -/
theorem BayMonitor.ReadSound.mapBays {b d : BayMonitor} (h : b.ReadSound) {f : Bay → Bay}
    (hd : d.bays = b.bays.map f) (hset : ∀ x, (f x).settings = x.settings)
    (hin : ∀ x, x.state ≠ .outOfService → (f x).state ≠ .outOfService)
    (hreading : ∀ r ∈ d.reading, ∃ q ∈ b.reading, r.bay = q.bay ∧ r.discarded = q.discarded) : d.ReadSound := by
  unfold BayMonitor.ReadSound at h ⊢
  rw [Option.all_eq_true] at h ⊢
  intro r hr
  obtain ⟨q, hq, hbay, hdis⟩ := hreading r hr
  have hq' := h q hq
  rw [Bool.or_eq_true, List.any_eq_true] at hq' ⊢
  rcases hq' with hdiscarded | ⟨x, hx, hmatch⟩
  · exact .inl (hdis.trans hdiscarded)
  · refine .inr ⟨f x, hd ▸ List.mem_map_of_mem hx, ?_⟩
    simp only [Bool.and_eq_true, decide_eq_true_eq] at hmatch ⊢
    exact ⟨by rw [hset, hbay]; exact hmatch.1, hin x hmatch.2⟩

/-- The records of one number changed by something that keeps a bay. -/
theorem BayMonitor.RecordsSound.mapBay {b : BayMonitor} (h : b.RecordsSound) (n : Nat) {f : Bay → Bay}
    (hf : ∀ x : Bay, x.Keeps (f x)) : (b.mapBay n f).RecordsSound := by
  have keeps : ∀ x : Bay, x.Keeps (if x.settings.number = n then f x else x) := by
    intro x
    split
    · exact hf x
    · exact .refl x
  refine h.mapBays rfl (fun x => (keeps x).settings) (fun x _ => (keeps x).legal) ?_
  exact h.reading.mapBays rfl (fun x => (keeps x).settings) (fun x => (keeps x).inService) fun r hr => ⟨r, hr, rfl, rfl⟩

/-- A bay out of service, the answer of its own read discarded (R51, R57). -/
theorem BayMonitor.RecordsSound.putOut {b : BayMonitor} (h : b.RecordsSound) (n : Nat) :
    ((b.discardRead n).mapBay n Bay.goOut).RecordsSound := by
  have hset : ∀ x : Bay, (if x.settings.number = n then x.goOut else x).settings = x.settings := by
    intro x
    split <;> rfl
  refine h.mapBays rfl hset (fun x _ hx => ?_) ?_
  · split
    · exact ⟨by simp [Bay.goOut, Bay.enter], Nat.zero_le _, Nat.zero_le _, Nat.zero_le _⟩
    · exact hx
  · unfold BayMonitor.ReadSound at *
    rw [Option.all_eq_true]
    intro r hr
    obtain ⟨q, hq, hqr⟩ : ∃ q, b.reading = some q ∧ (if q.bay = n then { q with discarded := true } else q) = r := by
      simpa [BayMonitor.mapBay, BayMonitor.discardRead] using hr
    by_cases hn : q.bay = n
    · simp [← hqr, hn]
    · have hold := h.reading
      rw [BayMonitor.ReadSound, hq, Option.all_some, Bool.or_eq_true, List.any_eq_true] at hold
      simp only [hn, if_false] at hqr
      subst hqr
      rw [Bool.or_eq_true, List.any_eq_true]
      refine hold.imp_right fun ⟨x, hx, hmatch⟩ => ⟨x, ?_, hmatch⟩
      simp only [Bool.and_eq_true, decide_eq_true_eq] at hmatch
      refine List.mem_map.mpr ⟨x, hx, ?_⟩
      simp [hmatch.1, hn]

/-- A read that begins with the first bay of a search is of a bay in service (R51). -/
theorem State.readAfter_recordsSound {s : State} (h : s.bays.RecordsSound) (n : Nat) :
    (s.readAfter n).bays.RecordsSound := by
  unfold State.readAfter
  split
  · rename_i b hb
    refine ⟨h.legal, h.ascending, h.numbers, ?_⟩
    have hprop := List.find?_some hb
    simp only [Bool.and_eq_true, decide_eq_true_eq] at hprop
    simp only [State.setBays_bays, BayMonitor.ReadSound, Option.all_some, Bool.or_eq_true, List.any_eq_true]
    exact .inr ⟨b, List.mem_of_find?_eq_some hb, by simpa using hprop.2⟩
  · exact ⟨h.legal, h.ascending, h.numbers, rfl⟩

/-! ### One gate -/

/-- The gate machine goes in step with the loops (R64, R65, R66). -/
theorem GateState.next_suits : ∀ (g : GateState) (loop : Loop) (on outer inner outer' inner' : Bool),
    g.suits outer inner = true → (if loop = .outer then outer else inner) ≠ on →
      outer' = (if loop = .outer then on else outer) → inner' = (if loop = .inner then on else inner) →
        (g.next loop on (!outer' && !inner')).1.suits outer' inner' = true := by
  intro g loop
  cases g <;> cases loop <;> decide

/-- A gate enters BLOCKED by its timer alone, and leaves it for CLEAR alone (R66). -/
theorem GateState.next_blocked : ∀ (g : GateState) (loop : Loop) (on bothOff : Bool),
    ((g.next loop on bothOff).1 = .blocked → g = .blocked) ∧
      (g = .blocked → (g.next loop on bothOff).1 = .blocked ∨ (g.next loop on bothOff).1 = .clear) := by
  intro g loop
  cases g <;> cases loop <;> decide

/-- The gate timer runs exactly out of CLEAR and BLOCKED (R64). -/
theorem gateTimerAfter_ne_none {old new : GateState} {t : Timer} (ht : t ≠ none ↔ old ≠ .clear ∧ old ≠ .blocked)
    (hin : new = .blocked → old = .blocked) (hout : old = .blocked → new = .blocked ∨ new = .clear) :
    gateTimerAfter old new t ≠ none ↔ new ≠ .clear ∧ new ≠ .blocked := by
  unfold gateTimerAfter
  by_cases hnew : new = .clear
  · simp [hnew]
  · by_cases hold : old = .clear
    · have : new ≠ .blocked := fun h => by simp [hold] at hin; exact hin h
      simp [hnew, hold, this]
    · simp only [hnew, hold, if_false, ht, ne_eq, not_false_eq_true, true_and]
      exact not_congr ⟨fun h => (hout h).resolve_right hnew, hin⟩

/-! ### The gates -/

/-- What `BaysSound` says of gates and loops (R63..R66). -/
structure GatesSound (b : BayMonitor) (i : Inputs) : Prop where
  legal : ∀ g ∈ b.gates, g.Legal i
  ascending : Ascending (b.gates.map (fun g => g.settings.number))
  outer : i.outerLoops.length = 4
  inner : i.innerLoops.length = 4

/-- Gates changed one by one under changed loops. -/
theorem GatesSound.mapGates {b d : BayMonitor} {i j : Inputs} (h : GatesSound b i) {f : Gate → Gate}
    (hd : d.gates = b.gates.map f) (hset : ∀ g, (f g).settings = g.settings)
    (hlegal : ∀ g ∈ b.gates, g.Legal i → (f g).Legal j) (houter : j.outerLoops.length = i.outerLoops.length)
    (hinner : j.innerLoops.length = i.innerLoops.length) : GatesSound d j := by
  refine ⟨?_, ?_, houter.trans h.outer, hinner.trans h.inner⟩
  · rw [hd]
    simp only [List.mem_map, forall_exists_index, and_imp, forall_apply_eq_imp_iff₂]
    exact fun g hg => hlegal g hg (h.legal g hg)
  · have hnumbers : d.gates.map (fun g => g.settings.number) = b.gates.map (fun g => g.settings.number) := by
      simp [hd, hset]
    exact hnumbers ▸ h.ascending

/-- Gates read the loops alone. -/
theorem Gate.Legal.of_loops {g : Gate} {i j : Inputs} (h : g.Legal i) (hon : ∀ n k, j.loopOn n k = i.loopOn n k) :
    g.Legal j := by
  unfold Gate.Legal
  rw [hon, hon]
  exact h

/-- A loop change steps its gate and no other (R63..R66). -/
theorem GatesSound.moves {b : BayMonitor} {i : Inputs} (h : GatesSound b i) {n : Nat} {g : Gate} (hg : b.gate? n = some g)
    {loop : Loop} {on : Bool} (hon : i.loopOn n loop ≠ on) :
    let j := i.takeLoop n loop on
    let next := (g.state.next loop on (!j.loopOn n .outer && !j.loopOn n .inner)).1
    GatesSound (b.mapGate n (fun x => { x with state := next, timer := gateTimerAfter g.state next x.timer })) j := by
  intro j next
  obtain ⟨hmem, hnumber⟩ := find?_key (key := fun x : Gate => x.settings.number) hg
  obtain ⟨htimer, hlow, hhigh, hsuits⟩ := h.legal g hmem
  rw [hnumber] at hlow hhigh hsuits
  have hloops := Inputs.loopOn_takeLoop h.outer h.inner hlow hhigh loop on
  refine h.mapGates rfl (fun x => ?_) (fun x hx hlegal => ?_) ?_ ?_
  · split <;> rfl
  · split
    · rename_i hxn
      obtain rfl : x = g := eq_of_find?_of_nodup (key := fun x : Gate => x.settings.number) h.ascending.nodup hg hx hxn
      obtain ⟨hin, hout⟩ := x.state.next_blocked loop on (!j.loopOn n .outer && !j.loopOn n .inner)
      refine ⟨gateTimerAfter_ne_none htimer hin hout, hnumber ▸ hlow, hnumber ▸ hhigh, ?_⟩
      simp only [hnumber]
      refine GateState.next_suits x.state loop on (i.loopOn n .outer) (i.loopOn n .inner) _ _ hsuits ?_ ?_ ?_
      · cases loop <;> exact hon
      · rw [hloops]; cases loop <;> simp
      · rw [hloops]; cases loop <;> simp
    · rename_i hxn
      obtain ⟨htimer, hlow, hhigh, hsuits⟩ := hlegal
      refine ⟨htimer, hlow, hhigh, ?_⟩
      rw [hloops, hloops, if_neg fun h => hxn h.1, if_neg fun h => hxn h.1]
      exact hsuits
  · cases loop <;> simp [j, Inputs.takeLoop]
  · cases loop <;> simp [j, Inputs.takeLoop]

/-- A gate whose timer ends is BLOCKED with a loop on: a running timer means a state out of CLEAR and BLOCKED (R66). -/
theorem GatesSound.sticks {b : BayMonitor} {i : Inputs} (h : GatesSound b i) {n : Nat} {g : Gate} (hg : b.gate? n = some g)
    (ht : g.timer ≠ none) : GatesSound (b.mapGate n (fun x => { x with state := .blocked, timer := none })) i := by
  refine h.mapGates rfl (fun x => ?_) (fun x hx hlegal => ?_) rfl rfl
  · split <;> rfl
  · split
    · rename_i hxn
      obtain rfl : x = g := eq_of_find?_of_nodup (key := fun x : Gate => x.settings.number) h.ascending.nodup hg hx hxn
      obtain ⟨htimer, hlow, hhigh, hsuits⟩ := hlegal
      refine ⟨by simp, hlow, hhigh, ?_⟩
      obtain ⟨hclear, hblocked⟩ := htimer.mp ht
      have outOfClear : ∀ (st : GateState) (outer inner : Bool), st ≠ .clear → st.suits outer inner = true →
          (outer || inner) = true := by
        intro st
        cases st <;> decide
      exact outOfClear _ _ _ hclear hsuits
    · exact hlegal

/-! ### The Bay Monitor -/

theorem State.baysSound_iff (s : State) : s.BaysSound ↔
    s.bays.RecordsSound ∧ GatesSound s.bays s.inputs ∧ (s.working = false → s.bays.gates = []) :=
  ⟨fun ⟨hlegal, hasc, hnum, hread, hgates, hgasc, houter, hinner, hrest⟩ =>
      ⟨⟨hlegal, hasc, hnum, hread⟩, ⟨hgates, hgasc, houter, hinner⟩, hrest⟩,
    fun ⟨⟨hlegal, hasc, hnum, hread⟩, ⟨hgates, hgasc, houter, hinner⟩, hrest⟩ =>
      ⟨hlegal, hasc, hnum, hread, hgates, hgasc, houter, hinner, hrest⟩⟩

/-- The bays of another state under inputs with the same loops. -/
theorem State.BaysSound.of_same {s t : State} (h : s.BaysSound) (hb : t.bays = s.bays)
    (ho : t.inputs.outerLoops = s.inputs.outerLoops) (hi : t.inputs.innerLoops = s.inputs.innerLoops)
    (hw : t.working = s.working) : t.BaysSound := by
  obtain ⟨hrecords, hgates, hrest⟩ := s.baysSound_iff.mp h
  rw [State.baysSound_iff, hb, hw]
  refine ⟨hrecords, ⟨fun g hg => (hgates.legal g hg).of_loops fun n k => ?_, hgates.ascending, by rw [ho, hgates.outer],
    by rw [hi, hgates.inner]⟩, hrest⟩
  cases k
  · exact congrArg (filteredAt · n) ho
  · exact congrArg (filteredAt · n) hi

/-- New bay records beside the same gates. -/
theorem State.BaysSound.of_records {s t : State} (h : s.BaysSound) (hrecords : t.bays.RecordsSound)
    (hg : t.bays.gates = s.bays.gates) (hi : t.inputs = s.inputs) (hw : t.working = s.working) : t.BaysSound := by
  obtain ⟨-, hgates, hrest⟩ := s.baysSound_iff.mp h
  rw [State.baysSound_iff, hg, hi, hw]
  exact ⟨hrecords, ⟨by rw [hg]; exact hgates.legal, by rw [hg]; exact hgates.ascending, hgates.outer, hgates.inner⟩,
    hrest⟩

@[simp] theorem State.changeBay_bays (s : State) (n : Nat) (f : Bay → Bay) :
    (s.changeBay n f).bays = s.bays.mapBay n f := by
  unfold State.changeBay
  dsimp only
  split <;> simp

/-- The answer of a read changes the bay it names alone. -/
@[simp] theorem State.bayAnswered_bays (s : State) (n : Nat) (a : BayAnswer) :
    (s.bayAnswered n a).bays = s.bays.mapBay n (Bay.answer s.settings a) := by
  unfold State.bayAnswered
  split
  · rename_i hnone
    have hall : ∀ x ∈ s.bays.bays, ¬ x.settings.number = n := by
      simpa [BayMonitor.bay?, List.find?_eq_none] using hnone
    have hmap : s.bays.bays.map (fun x => if x.settings.number = n then x.answer s.settings a else x) = s.bays.bays :=
      (List.map_congr_left fun x hx => if_neg (hall x hx)).trans (List.map_id _)
    simp only [BayMonitor.mapBay, hmap]
  · dsimp only
    split <;> simp

theorem State.BaysSound.changeBay {s : State} (h : s.BaysSound) (n : Nat) {f : Bay → Bay} (hf : ∀ x : Bay, x.Keeps (f x)) :
    (s.changeBay n f).BaysSound := by
  refine h.of_records ?_ (by simp [BayMonitor.mapBay]) (by simp) (State.working_eq (by simp))
  rw [State.changeBay_bays]
  exact (s.baysSound_iff.mp h).1.mapBay n hf

theorem State.readAfter_gates (s : State) (n : Nat) : (s.readAfter n).bays.gates = s.bays.gates := by
  unfold State.readAfter
  split <;> rfl

theorem State.BaysSound.readAfter {s : State} (h : s.BaysSound) (n : Nat) : (s.readAfter n).BaysSound :=
  h.of_records (State.readAfter_recordsSound (s.baysSound_iff.mp h).1 n) (s.readAfter_gates n) (by simp)
    (State.working_eq (by simp))

theorem State.BaysSound.endRead {s : State} (h : s.BaysSound) (r : BayRead) (a : BayAnswer) : (s.endRead r a).BaysSound := by
  unfold State.endRead
  split
  · exact h.readAfter _
  · refine State.BaysSound.readAfter (h.of_records ?_ ?_ ?_ ?_) _
    · rw [State.bayAnswered_bays]
      exact (s.baysSound_iff.mp h).1.mapBay _ fun x => x.answer_keeps _ a
    · simp [BayMonitor.mapBay]
    · simp
    · exact State.working_eq (by simp)

theorem State.BaysSound.bayGoesOut {s : State} (h : s.BaysSound) (n : Nat) : (s.bayGoesOut n).BaysSound := by
  unfold State.bayGoesOut
  refine h.of_records ?_ ?_ ?_ ?_
  · rw [State.changeBay_bays]
    exact (s.baysSound_iff.mp h).1.putOut n
  · simp [BayMonitor.mapBay, BayMonitor.discardRead]
  · simp
  · exact State.working_eq (by simp)

theorem CommandEffect.baysSound {s t : State} {code : Nat} (e : CommandEffect s code t) (h : s.BaysSound) :
    t.BaysSound := by
  cases e with
  | reserved n l => exact h.changeBay n fun x => x.reserve_keeps l
  | released n => exact h.changeBay n fun x => x.enter_keeps (by decide) (by decide)
  | putOut n => exact h.bayGoesOut n
  | broughtIn n => exact h.changeBay n fun x => x.comeIn_keeps
  | _ => exact h.of_same (by simp) (by simp) (by simp) (State.working_eq (by simp))

/-- The Bay Monitor at its values after reset is sound under loops four and four. -/
theorem State.baysSound_afterReset {s : State} (hb : s.bays = .afterReset) (ho : s.inputs.outerLoops.length = 4)
    (hi : s.inputs.innerLoops.length = 4) : s.BaysSound := by
  rw [State.baysSound_iff, hb]
  exact ⟨⟨by simp [BayMonitor.afterReset], by simp [BayMonitor.afterReset], by simp [BayMonitor.afterReset], rfl⟩,
    ⟨by simp [BayMonitor.afterReset], by simp [BayMonitor.afterReset], ho, hi⟩, fun _ => rfl⟩

theorem State.BaysSound.afterReset {s : State} (h : s.BaysSound) (st : Station) (u : StartUp) (k : Counters) :
    (s.afterReset st u k).BaysSound := by
  obtain ⟨-, hgates, -⟩ := s.baysSound_iff.mp h
  exact State.baysSound_afterReset rfl (by simp [State.afterReset, Inputs.afterReset, hgates.outer])
    (by simp [State.afterReset, Inputs.afterReset, hgates.inner])

theorem ServiceEffect.baysSound {s t : State} {code : Nat} (e : ServiceEffect s code t) (h : s.BaysSound) :
    t.BaysSound := by
  cases e with
  | unanswered _ _ e => exact e.baysSound h
  | answered _ _ _ e => exact (e.baysSound h).of_same (by simp) (by simp) (by simp) (State.working_eq (by simp))
  | restartAnswered _ _ _ _ _ _ ht =>
    exact h.of_same (by simp [ht]) (by simp [ht]) (by simp [ht]) (State.working_eq (by simp [ht]))
  | restarted => exact h.afterReset _ _ _
  | _ => exact h.of_same (by simp) (by simp) (by simp) (State.working_eq (by simp))

theorem FrameEffect.baysSound {s t : State} {codes : Nat → Prop} (e : FrameEffect s codes t) (h : s.BaysSound) :
    t.BaysSound := by
  cases e with
  | service _ _ _ e =>
    exact e.baysSound (h.of_same (by simp) (by simp) (by simp) (State.working_eq (by simp)))
  | _ => exact h.of_same (by simp) (by simp) (by simp) (State.working_eq (by simp))

theorem State.BaysSound.passage {s : State} (h : s.BaysSound) (g : GateSettings) (p : Passage) :
    (s.passage g p).BaysSound := by
  have hpassed : (s.passage g p).bays = { s.bays with ring := s.bays.ring.passed } := by
    rcases s.passage_cases g p with heq | ⟨n, -, -, heq⟩ <;> simp [heq]
  obtain ⟨hrecords, hgates, hrest⟩ := s.baysSound_iff.mp h
  rw [State.baysSound_iff, hpassed, State.working_eq (s := s) (by simp), State.passage_inputs]
  exact ⟨⟨hrecords.legal, hrecords.ascending, hrecords.numbers, hrecords.reading⟩,
    ⟨hgates.legal, hgates.ascending, hgates.outer, hgates.inner⟩, hrest⟩

/-- The read that follows bay `n`: of the next bay in service (R51). -/
def BayMonitor.nextRead (b : BayMonitor) (n : Nat) : Option BayRead :=
  (b.bays.find? (fun x => decide (n < x.settings.number) && decide (x.state ≠ .outOfService))).map
    (fun x => { bay := x.settings.number, window := bayWindow, discarded := false })

theorem State.readAfter_bays (s : State) (n : Nat) :
    (s.readAfter n).bays = { s.bays with reading := s.bays.nextRead n } := by
  unfold State.readAfter BayMonitor.nextRead
  split <;> simp only [*] <;> rfl

/-- The bays and gates with which LISTENING begins, before the first read (R50, R63, R71). -/
def BayMonitor.fresh (c : Settings) : BayMonitor :=
  { BayMonitor.afterReset with
    bays := c.bays.map Bay.fresh
    gates := c.gates.map (fun g => { settings := g, state := .clear, timer := none })
    scanTimer := some 500, ringTimer := some (seconds 10) }

theorem State.baysListen_bays (s : State) :
    s.baysListen.bays = { BayMonitor.fresh s.settings with reading := (BayMonitor.fresh s.settings).nextRead 0 } :=
  State.readAfter_bays (s.setBays (BayMonitor.fresh s.settings)) 0

theorem State.enterListening_bays (s : State) (image : List Byte) (c : Settings) (k : Nat) :
    (s.enterListening image c k).bays = { BayMonitor.fresh c with reading := (BayMonitor.fresh c).nextRead 0 } := by
  simp [State.enterListening, State.baysListen_bays]

/-- The filters of loops and motion inputs begin with LISTENING (R63, R116). -/
theorem State.enterListening_inputs (s : State) (image : List Byte) (c : Settings) (k : Nat) :
    (s.enterListening image c k).inputs = { s.inputs with
      outerLoops := s.inputs.outerLoops.map FilteredInput.afterReset
      innerLoops := s.inputs.innerLoops.map FilteredInput.afterReset
      motion := s.inputs.motion.map FilteredInput.afterReset } := by
  simp [State.enterListening]

theorem State.enterListening_working (s : State) (image : List Byte) (c : Settings) (k : Nat) :
    (s.enterListening image c k).working = true := by
  simp [State.enterListening, State.working]

theorem BayMonitor.fresh_recordsSound (r : List Byte) : (BayMonitor.fresh (settingsOfRecord r).value).RecordsSound := by
  obtain ⟨-, -, -, -, hbays, hascending, -⟩ := settingsOfRecord_zoneLegal r
  refine ⟨?_, ?_, ?_, rfl⟩
  · simp only [BayMonitor.fresh, List.mem_map, forall_exists_index, and_imp, forall_apply_eq_imp_iff₂]
    exact fun b _ => Bay.fresh_legal b
  · rw [BayMonitor.fresh, List.map_map]
    exact hascending
  · simp only [BayMonitor.fresh, List.mem_map, forall_exists_index, and_imp, forall_apply_eq_imp_iff₂]
    exact fun b hb => ⟨(hbays b hb).1, (hbays b hb).2.1⟩

/-- At the entry to LISTENING every bay and gate is fresh, every loop filter shows nothing, and the first bay in service
is read (R50, R51, R63, R71). -/
theorem State.enterListening_baysSound {s : State} (h : s.BaysSound) (image r : List Byte) (k : Nat) :
    (s.enterListening image (settingsOfRecord r).value k).BaysSound := by
  obtain ⟨-, -, -, -, -, -, hlegal, hascending, -⟩ := settingsOfRecord_zoneLegal r
  obtain ⟨-, hgates, -⟩ := s.baysSound_iff.mp h
  rw [State.baysSound_iff, State.enterListening_inputs, State.enterListening_working, State.enterListening_bays]
  refine ⟨?_, ⟨?_, ?_, by simp [hgates.outer], by simp [hgates.inner]⟩, by simp⟩
  · have hread := State.readAfter_recordsSound (s := State.reset.setBays (.fresh (settingsOfRecord r).value))
      (BayMonitor.fresh_recordsSound r) 0
    rwa [State.readAfter_bays] at hread
  · simp only [BayMonitor.fresh, List.mem_map, forall_exists_index, and_imp, forall_apply_eq_imp_iff₂]
    intro g hg
    obtain ⟨hlow, hhigh, -⟩ := hlegal g hg
    exact ⟨by simp, hlow, hhigh, by simp [GateState.suits, Inputs.loopOn, filteredAt_afterReset]⟩
  · rw [BayMonitor.fresh, List.map_map]
    exact hascending

theorem Effect.baysSound {s t : State} {c : Instr} (e : Effect s c t) (h : s.BaysSound) : t.BaysSound := by
  cases e with
  | reset => exact h.afterReset _ _ _
  | listens => exact State.enterListening_baysSound h _ _ _
  | fallsBack _ hst =>
    have hw : s.enterFallback.working = s.working := by simp [State.enterFallback, State.working, hst]
    exact h.of_same (by simp [State.enterFallback]) (by simp [State.enterFallback]) (by simp [State.enterFallback]) hw
  | entersNormal hst => exact h.of_same (by simp) (by simp) (by simp) (by simp [State.working, hst])
  | purgeWorking _ _ _ _ ht => exact h.of_same (by simp [ht]) (by simp [ht]) (by simp [ht]) (State.working_eq (by simp [ht]))
  | purgeResting _ _ _ _ _ ht => exact h.of_same (by simp [ht]) (by simp [ht]) (by simp [ht]) (State.working_eq (by simp [ht]))
  | scanStarts =>
    refine State.BaysSound.readAfter (s := s.setBays { s.bays with scanTimer := some 500 }) ?_ 0
    refine h.of_records ?_ rfl rfl rfl
    obtain ⟨hlegal, hasc, hnum, hread⟩ := (s.baysSound_iff.mp h).1
    exact ⟨hlegal, hasc, hnum, hread⟩
  | readEnds _ _ r _ a => exact h.endRead r a
  | reservationExpires _ n => exact h.changeBay n fun x => x.enter_keeps (by decide) (by decide)
  | loopMoves hw n loop on g hg hon inputs hin next hnext moved ht =>
    obtain ⟨hrecords, hgates, -⟩ := s.baysSound_iff.mp h
    have hmoved : moved.BaysSound := by
      subst ht hnext hin
      rw [State.baysSound_iff]
      refine ⟨?_, ?_, ?_⟩
      · exact ⟨hrecords.legal, hrecords.ascending, hrecords.numbers, hrecords.reading⟩
      · exact hgates.moves hg hon
      · exact fun hrest => absurd (show s.working = false from hrest) (by simp [hw])
    cases next.2 with
    | none => exact hmoved
    | some p => exact hmoved.passage g.settings p
  | gateSticks hw n g hg ht =>
    obtain ⟨hrecords, hgates, -⟩ := s.baysSound_iff.mp h
    rw [State.baysSound_iff]
    exact ⟨⟨hrecords.legal, hrecords.ascending, hrecords.numbers, hrecords.reading⟩, hgates.sticks hg ht,
      fun hrest => absurd (show s.working = false from hrest) (by simp [hw])⟩
  | ringRotates hw =>
    obtain ⟨hrecords, hgates, -⟩ := s.baysSound_iff.mp h
    rw [State.baysSound_iff]
    exact ⟨⟨hrecords.legal, hrecords.ascending, hrecords.numbers, hrecords.reading⟩,
      ⟨hgates.legal, hgates.ascending, hgates.outer, hgates.inner⟩,
      fun hrest => absurd (show s.working = false from hrest) (by simp [hw])⟩
  | motionStarts _ _ _ ht => exact h.of_same (by simp [ht]) (by simp [ht]) (by simp [ht]) (State.working_eq (by simp [ht]))
  | motionEnds _ _ _ ht => exact h.of_same (by simp [ht]) (by simp [ht]) (by simp [ht]) (State.working_eq (by simp [ht]))
  | droppedRestarts => exact h.afterReset _ _ _
  | sentRestarts => exact h.afterReset _ _ _
  | idles _ idle hidle _ ht =>
    rcases ht with rfl | rfl <;>
      exact h.of_same (by simp [hidle]) (by simp [hidle]) (by simp [hidle]) (State.working_eq (by simp [hidle]))
  | idleSelects _ _ idle hidle _ ht =>
    rcases ht with rfl | rfl <;>
      exact h.of_same (by simp [hidle]) (by simp [hidle]) (by simp [hidle]) (State.working_eq (by simp [hidle]))
  | frame _ _ _ e => exact e.baysSound h
  | _ => exact h.of_same (by simp) (by simp) (by simp) (State.working_eq (by simp))

/-- A tick runs the timers of bays, gates and the read, and touches nothing else of them. -/
theorem BayMonitor.RecordsSound.tick {b : BayMonitor} (h : b.RecordsSound) : b.tick.RecordsSound := by
  refine h.mapBays rfl (fun _ => rfl) (fun x _ hx => ?_) ?_
  · obtain ⟨hres, hcounts⟩ := hx
    exact ⟨by simpa using hres, hcounts⟩
  · refine h.reading.mapBays rfl (fun _ => rfl) (fun _ => id) fun r hr => ?_
    obtain ⟨q, hq, rfl⟩ : ∃ q, b.reading = some q ∧ { q with window := q.window - 1 } = r := by
      simpa [BayMonitor.tick] using hr
    exact ⟨q, hq, rfl, rfl⟩

theorem Inputs.tick_loopOn (i : Inputs) (w : Bool) (n : Nat) (k : Loop) : (i.tick w).loopOn n k = i.loopOn n k := by
  cases w <;> cases k <;> simp [Inputs.tick, Inputs.loopOn, filteredAt_map]

theorem GatesSound.tick {b : BayMonitor} {i : Inputs} (h : GatesSound b i) (w : Bool) : GatesSound b.tick (i.tick w) := by
  refine h.mapGates rfl (fun _ => rfl) (fun g _ hg => ?_) ?_ ?_
  · obtain ⟨htimer, hlow, hhigh, hsuits⟩ := hg
    refine ⟨by simpa using htimer, hlow, hhigh, ?_⟩
    rw [Inputs.tick_loopOn, Inputs.tick_loopOn]
    exact hsuits
  · cases w <;> simp [Inputs.tick]
  · cases w <;> simp [Inputs.tick]

theorem State.BaysSound.tick {s : State} (h : s.BaysSound) : s.tick.BaysSound := by
  unfold State.tick
  split
  · exact h.of_same rfl rfl rfl rfl
  · obtain ⟨hrecords, hgates, hrest⟩ := s.baysSound_iff.mp h
    rw [State.baysSound_iff]
    exact ⟨hrecords.tick, hgates.tick s.working, fun hw => by simp [BayMonitor.tick, hrest hw]⟩

/-- Settles O56: bay by bay and gate by gate, and by what each effect does to the loops and the read in progress. -/
theorem stepKeepsBaysSound : Obligations.StepKeepsBaysSound := fun _ _ hstep h =>
  step_keeps (I := State.BaysSound) (fun _ _ h => h.of_same rfl rfl rfl rfl) (fun _ h => h.tick)
    (fun _ _ _ e h => e.baysSound h) hstep h

end Sys2Proof.Machine
end

section
/-! PROOFS. Fans, the run list and the start queue in agreement, and what allocation passes do to them (R34..R41). -/

namespace Sys2Proof.Machine

/-! ### One fan -/

theorem Fan.inState_legal (f : Fan) {st : FanState} (h : st ≠ .stopping) : (f.inState st).Legal := by
  simp [Fan.inState, Fan.Legal, h]

theorem Fan.toStopping_legal (f : Fan) (c : Settings) : (f.toStopping c).Legal := by
  simp [Fan.toStopping, Fan.inState, Fan.Legal]

theorem Fan.toStarting_legal (f : Fan) (c : Settings) (b : Bool) : (f.toStarting c b).Legal := by
  cases b <;> simp [Fan.toStarting, Fan.inState, Fan.Legal]

@[simp] theorem Fan.toStarting_number (f : Fan) (c : Settings) (b : Bool) : (f.toStarting c b).number = f.number := by
  cases b <;> rfl

@[simp] theorem Fan.toStarting_state (f : Fan) (c : Settings) (b : Bool) : (f.toStarting c b).state = .starting := by
  cases b <;> rfl

theorem Fan.healthy_of {f : Fan} (h : f.state ≠ .fault) (h' : f.state ≠ .lockedOut) : f.healthy = true := by
  simp [Fan.healthy, h, h']

/-! ### The lists and the fan states -/

/-- `Ordered`, fan by fan: a fan stands in a list exactly when its state says so. -/
structure Ventilation.InOrder (v : Ventilation) : Prop where
  ascending : Ascending (v.fans.map Fan.number)
  legal : ∀ f ∈ v.fans, f.Legal
  runNodup : v.runList.Nodup
  queueNodup : v.startQueue.Nodup
  runFans : ∀ k ∈ v.runList, k ∈ v.fans.map Fan.number
  queueFans : ∀ k ∈ v.startQueue, k ∈ v.fans.map Fan.number
  run : ∀ f ∈ v.fans, f.number ∈ v.runList ↔ f.state = .starting ∨ f.state = .running
  queue : ∀ f ∈ v.fans, f.number ∈ v.startQueue ↔ f.state = .queued
  single : ∀ f ∈ v.fans, ∀ g ∈ v.fans, f.state = .starting → g.state = .starting → f = g

theorem Ventilation.mem_numbersIn {v : Ventilation} {a b : FanState} {k : Nat} :
    k ∈ v.numbersIn a b ↔ ∃ f ∈ v.fans, f.number = k ∧ (f.state = a ∨ f.state = b) := by
  simp only [Ventilation.numbersIn, List.mem_map, List.mem_filter, Bool.or_eq_true, decide_eq_true_eq]
  constructor
  · rintro ⟨f, ⟨hf, hst⟩, hk⟩
    exact ⟨f, hf, hk, hst⟩
  · rintro ⟨f, hf, hk, hst⟩
    exact ⟨f, ⟨hf, hst⟩, hk⟩

/-- In a collection without repeated keys a member is told by its key. -/
theorem eq_of_key {α : Type} {key : α → Nat} {l : List α} (h : (l.map key).Nodup) {x y : α} (hx : x ∈ l) (hy : y ∈ l)
    (hkey : key x = key y) : x = y :=
  List.inj_on_of_nodup_map h hx hy hkey

/-- A list holds the numbers of the fans in two states, fan by fan. -/
theorem Ventilation.perm_numbersIn {v : Ventilation} (hasc : Ascending (v.fans.map Fan.number)) (l : List Nat)
    (a b : FanState) : l.Perm (v.numbersIn a b) ↔
      l.Nodup ∧ (∀ k ∈ l, k ∈ v.fans.map Fan.number) ∧ ∀ f ∈ v.fans, f.number ∈ l ↔ f.state = a ∨ f.state = b := by
  have hnodup : (v.numbersIn a b).Nodup := by
    have hsub : (v.numbersIn a b).Sublist (v.fans.map Fan.number) := List.filter_sublist.map _
    exact hsub.nodup hasc.nodup
  have hin : ∀ f ∈ v.fans, f.number ∈ v.numbersIn a b ↔ f.state = a ∨ f.state = b := by
    intro f hf
    rw [Ventilation.mem_numbersIn]
    constructor
    · rintro ⟨g, hg, hgf, hst⟩
      rwa [← eq_of_key hasc.nodup hg hf hgf]
    · exact fun hst => ⟨f, hf, rfl, hst⟩
  constructor
  · intro h
    refine ⟨h.nodup_iff.mpr hnodup, fun k hk => ?_, fun f hf => ?_⟩
    · obtain ⟨f, hf, hk, -⟩ := Ventilation.mem_numbersIn.mp (h.mem_iff.mp hk)
      exact hk ▸ List.mem_map_of_mem hf
    · rw [h.mem_iff, hin f hf]
  · rintro ⟨hl, hfans, hiff⟩
    rw [List.perm_ext_iff_of_nodup hl hnodup]
    intro k
    constructor
    · intro hk
      obtain ⟨f, hf, rfl⟩ := List.mem_map.mp (hfans k hk)
      rwa [hin f hf, ← hiff f hf]
    · intro hk
      obtain ⟨f, hf, rfl, -⟩ := Ventilation.mem_numbersIn.mp hk
      rwa [hiff f hf, ← hin f hf]

/-- At most one member of a list without repetition has a property when any two that have it are one. -/
theorem length_filter_le_one {α : Type} {l : List α} (h : l.Nodup) {p : α → Bool} :
    (l.filter p).length ≤ 1 ↔ ∀ x ∈ l, ∀ y ∈ l, p x = true → p y = true → x = y := by
  constructor
  · intro hle x hx y hy hpx hpy
    have hxf := List.mem_filter.mpr ⟨hx, hpx⟩
    have hyf := List.mem_filter.mpr ⟨hy, hpy⟩
    match hl : l.filter p, hle with
    | [], _ => simp [hl] at hxf
    | [z], _ =>
      rw [hl, List.mem_singleton] at hxf hyf
      exact hxf.trans hyf.symm
  · intro hone
    match hl : l.filter p with
    | [] => simp
    | [z] => simp
    | x :: y :: rest =>
      have hnodup := h.filter p
      rw [hl, List.nodup_cons] at hnodup
      have hx : x ∈ l.filter p := by simp [hl]
      have hy : y ∈ l.filter p := by simp [hl]
      rw [List.mem_filter] at hx hy
      exact absurd (hone x hx.1 y hy.1 hx.2 hy.2) fun heq => hnodup.1 (by simp [heq])

theorem Ventilation.ordered_iff (v : Ventilation) : v.Ordered ↔ v.InOrder := by
  have hsingle (hasc : Ascending (v.fans.map Fan.number)) :
      (v.fans.filter (fun f => decide (f.state = .starting))).length ≤ 1 ↔
        ∀ f ∈ v.fans, ∀ g ∈ v.fans, f.state = .starting → g.state = .starting → f = g := by
    rw [length_filter_le_one hasc.nodup.of_map]
    simp only [decide_eq_true_eq]
  constructor
  · rintro ⟨hasc, hlegal, hrun, hqueue, hone⟩
    obtain ⟨hrn, hrf, hri⟩ := (Ventilation.perm_numbersIn hasc _ _ _).mp hrun
    obtain ⟨hqn, hqf, hqi⟩ := (Ventilation.perm_numbersIn hasc _ _ _).mp hqueue
    exact ⟨hasc, hlegal, hrn, hqn, hrf, hqf, hri, fun f hf => by simpa using hqi f hf, (hsingle hasc).mp hone⟩
  · rintro ⟨hasc, hlegal, hrn, hqn, hrf, hqf, hri, hqi, hone⟩
    exact ⟨hasc, hlegal, (Ventilation.perm_numbersIn hasc _ _ _).mpr ⟨hrn, hrf, hri⟩,
      (Ventilation.perm_numbersIn hasc _ _ _).mpr ⟨hqn, hqf, fun f hf => by simpa using hqi f hf⟩,
      (hsingle hasc).mpr hone⟩

namespace Ventilation.InOrder

variable {v w : Ventilation}

theorem nodup (h : v.InOrder) : (v.fans.map Fan.number).Nodup := h.ascending.nodup

/-- The record found for a number is the fan of that number. -/
theorem fan?_iff (h : v.InOrder) {n : Nat} {f : Fan} : v.fan? n = some f ↔ f ∈ v.fans ∧ f.number = n := by
  constructor
  · exact find?_key
  · rintro ⟨hf, rfl⟩
    exact find?_of_nodup h.nodup hf

/-- Fans changed one by one under new lists, every fan still where its state says. -/
theorem mapped (h : v.InOrder) {g : Fan → Fan} (hw : w.fans = v.fans.map g) (hnum : ∀ f, (g f).number = f.number)
    (hlegal : ∀ f ∈ v.fans, (g f).Legal) (hrunNodup : w.runList.Nodup) (hqueueNodup : w.startQueue.Nodup)
    (hrunFans : ∀ k ∈ w.runList, k ∈ v.fans.map Fan.number) (hqueueFans : ∀ k ∈ w.startQueue, k ∈ v.fans.map Fan.number)
    (hrun : ∀ f ∈ v.fans, f.number ∈ w.runList ↔ (g f).state = .starting ∨ (g f).state = .running)
    (hqueue : ∀ f ∈ v.fans, f.number ∈ w.startQueue ↔ (g f).state = .queued)
    (hsingle : ∀ f ∈ v.fans, ∀ f' ∈ v.fans, (g f).state = .starting → (g f').state = .starting → f = f') :
    w.InOrder := by
  have hnumbers : w.fans.map Fan.number = v.fans.map Fan.number := by
    rw [hw, List.map_map]
    exact List.map_congr_left fun f _ => hnum f
  refine ⟨hnumbers ▸ h.ascending, ?_, hrunNodup, hqueueNodup, hnumbers ▸ hrunFans, hnumbers ▸ hqueueFans, ?_, ?_, ?_⟩ <;>
    rw [hw] <;> simp only [List.mem_map, forall_exists_index, and_imp, forall_apply_eq_imp_iff₂, hnum]
  · exact hlegal
  · exact hrun
  · exact hqueue
  · exact fun f hf f' hf' hs hs' => congrArg g (hsingle f hf f' hf' hs hs')

/-- The lists and fans of another controller. -/
theorem of_same (h : v.InOrder) (hf : w.fans = v.fans) (hr : w.runList = v.runList) (hq : w.startQueue = v.startQueue) :
    w.InOrder := by
  obtain ⟨hasc, hlegal, hrn, hqn, hrf, hqf, hri, hqi, hone⟩ := h
  constructor <;> simpa only [hf, hr, hq]

end Ventilation.InOrder

/-- The healthy count reads the states alone (R36). -/
theorem Ventilation.healthyCount_map {v w : Ventilation} {g : Fan → Fan} (hw : w.fans = v.fans.map g)
    (hg : ∀ f ∈ v.fans, (g f).healthy = f.healthy) : w.healthyCount = v.healthyCount := by
  unfold Ventilation.healthyCount
  rw [hw, List.filter_map, List.length_map]
  exact congrArg List.length (List.filter_congr hg)

/-! ### The run list replaced -/

@[simp] theorem Ventilation.advanceDuty_fans (v : Ventilation) : v.advanceDuty.fans = v.fans := by
  unfold Ventilation.advanceDuty; (repeat' split) <;> rfl
@[simp] theorem Ventilation.advanceDuty_runList (v : Ventilation) : v.advanceDuty.runList = v.runList := by
  unfold Ventilation.advanceDuty; (repeat' split) <;> rfl
@[simp] theorem Ventilation.advanceDuty_startQueue (v : Ventilation) : v.advanceDuty.startQueue = v.startQueue := by
  unfold Ventilation.advanceDuty; (repeat' split) <;> rfl

/-- The duty pointer moves to the next configured fan above it, or to the lowest (R39). -/
theorem Ventilation.advanceDuty_dutyPointer (v : Ventilation) : v.advanceDuty.dutyPointer = v.nextDuty := by
  unfold Ventilation.advanceDuty Ventilation.nextDuty
  cases hp : v.dutyPointer with
  | none => simp [hp]
  | some p =>
    simp only [Option.bind_some, List.find?_map]
    cases hf : v.fans.find? (fun f => decide (p < f.number)) <;> simp [hf]

@[simp] theorem Ventilation.setRunList_fans (v : Ventilation) (l : List Nat) : (v.setRunList l).fans = v.fans := by
  unfold Ventilation.setRunList; split <;> simp
@[simp] theorem Ventilation.setRunList_runList (v : Ventilation) (l : List Nat) : (v.setRunList l).runList = l := by
  unfold Ventilation.setRunList; split <;> simp
@[simp] theorem Ventilation.setRunList_startQueue (v : Ventilation) (l : List Nat) :
    (v.setRunList l).startQueue = v.startQueue := by
  unfold Ventilation.setRunList; split <;> simp

/-- The duty pointer moves when the run list becomes empty (R39). -/
theorem Ventilation.setRunList_dutyPointer (v : Ventilation) (l : List Nat) : (v.setRunList l).dutyPointer =
    if v.runList ≠ [] ∧ l = [] then v.nextDuty else v.dutyPointer := by
  unfold Ventilation.setRunList
  split
  · rw [Ventilation.advanceDuty_dutyPointer]
    rfl
  · rfl

theorem Ventilation.setRunList_self (v : Ventilation) : v.setRunList v.runList = v := by
  unfold Ventilation.setRunList
  rw [if_neg (by simp)]

/-- The next in duty reads the fan numbers and the pointer (R39). -/
theorem Ventilation.nextDuty_congr {v w : Ventilation} (hn : w.fans.map Fan.number = v.fans.map Fan.number)
    (hp : w.dutyPointer = v.dutyPointer) : w.nextDuty = v.nextDuty := by
  unfold Ventilation.nextDuty
  rw [hn, hp]

theorem Ventilation.mapFans_nil (v : Ventilation) (f : Fan → Fan) : v.mapFans [] f = v := by
  simp [Ventilation.mapFans]

theorem Ventilation.map_number_mapFans {v : Ventilation} {l : List Nat} {f : Fan → Fan}
    (h : ∀ x, (f x).number = x.number) : (v.mapFans l f).fans.map Fan.number = v.fans.map Fan.number := by
  simp only [Ventilation.mapFans, List.map_map]
  refine List.map_congr_left fun x _ => ?_
  simp only [Function.comp_apply]
  split
  · exact h x
  · rfl

/-! ### Removal and adding -/

/-- Of a list without repetition, what is dropped is what is not taken. -/
theorem mem_take_iff {l : List Nat} (h : l.Nodup) {k n : Nat} : k ∈ l.take n ↔ k ∈ l ∧ k ∉ l.drop n := by
  have happ := List.take_append_drop n l
  have hdisj := List.disjoint_of_nodup_append (happ.symm ▸ h)
  constructor
  · exact fun hk => ⟨List.mem_of_mem_take hk, hdisj hk⟩
  · rintro ⟨hk, hno⟩
    rw [← happ, List.mem_append] at hk
    exact hk.resolve_right hno

/-- The last queued return to STOPPED (R37). -/
theorem Ventilation.InOrder.unqueue {v : Ventilation} (h : v.InOrder) (k : Nat) :
    Ventilation.InOrder { v.mapFans (v.startQueue.drop k) (fun f => f.inState .stopped) with
      startQueue := v.startQueue.take k } := by
  refine h.mapped (g := fun x => if x.number ∈ v.startQueue.drop k then x.inState .stopped else x) rfl ?_ ?_ h.runNodup
    (h.queueNodup.sublist (List.take_sublist k _)) h.runFans (fun n hn => h.queueFans n (List.mem_of_mem_take hn)) ?_ ?_ ?_
  · intro f
    split <;> rfl
  · intro f hf
    split
    · exact f.inState_legal (by decide)
    · exact h.legal f hf
  · intro f hf
    change f.number ∈ v.runList ↔ _
    split
    · have hqueued := (h.queue f hf).mp (List.mem_of_mem_drop ‹_›)
      simp [h.run f hf, hqueued, Fan.inState]
    · exact h.run f hf
  · intro f hf
    change f.number ∈ v.startQueue.take k ↔ _
    rw [mem_take_iff h.queueNodup, h.queue f hf]
    split
    · simp [*, Fan.inState]
    · simp [*]
  · intro f hf f' hf' hs hs'
    have keep : ∀ x : Fan, (if x.number ∈ v.startQueue.drop k then x.inState .stopped else x).state = .starting →
        x.state = .starting := by
      intro x
      split
      · simp [Fan.inState]
      · exact id
    exact h.single f hf f' hf' (keep f hs) (keep f' hs')

/-- The last started enter STOPPING (R37). -/
theorem Ventilation.InOrder.cutRun {v : Ventilation} (h : v.InOrder) (c : Settings) (k : Nat) :
    Ventilation.InOrder ((v.mapFans (v.runList.drop k) (fun f => f.toStopping c)).setRunList (v.runList.take k)) := by
  refine h.mapped (g := fun x => if x.number ∈ v.runList.drop k then x.toStopping c else x)
    (by simp [Ventilation.mapFans]) ?_ ?_ ?_ ?_ ?_ ?_ ?_ ?_ ?_
  · intro f
    split <;> rfl
  · intro f hf
    split
    · exact f.toStopping_legal c
    · exact h.legal f hf
  · rw [Ventilation.setRunList_runList]
    exact h.runNodup.sublist (List.take_sublist k _)
  · rw [Ventilation.setRunList_startQueue]
    exact h.queueNodup
  · rw [Ventilation.setRunList_runList]
    exact fun n hn => h.runFans n (List.mem_of_mem_take hn)
  · rw [Ventilation.setRunList_startQueue]
    exact h.queueFans
  · intro f hf
    rw [Ventilation.setRunList_runList, mem_take_iff h.runNodup, h.run f hf]
    split
    · simp [*, Fan.toStopping, Fan.inState]
    · simp [*]
  · intro f hf
    rw [Ventilation.setRunList_startQueue]
    change f.number ∈ v.startQueue ↔ _
    rw [h.queue f hf]
    split
    · have hruns := (h.run f hf).mp (List.mem_of_mem_drop ‹_›)
      rcases hruns with hs | hs <;> simp [hs, Fan.toStopping, Fan.inState]
    · exact Iff.rfl
  · intro f hf f' hf' hs hs'
    have keep : ∀ x : Fan, (if x.number ∈ v.runList.drop k then x.toStopping c else x).state = .starting →
        x.state = .starting := by
      intro x
      split
      · simp [Fan.toStopping, Fan.inState]
      · exact id
    exact h.single f hf f' hf' (keep f hs) (keep f' hs')

theorem Ventilation.InOrder.removeExcess {v : Ventilation} (h : v.InOrder) (c : Settings) (n : Nat) :
    (v.removeExcess c n).InOrder := (h.unqueue _).cutRun c n

theorem Ventilation.mem_dutyOrder {v : Ventilation} {f : Fan} : f ∈ v.dutyOrder ↔ f ∈ v.fans := by
  unfold Ventilation.dutyOrder
  cases v.dutyPointer with
  | none => exact Iff.rfl
  | some p =>
    simp only [List.mem_append, List.mem_filter, decide_eq_true_eq]
    constructor
    · rintro (⟨hf, -⟩ | ⟨hf, -⟩) <;> exact hf
    · intro hf
      rcases Nat.lt_or_ge f.number p with hlt | hge
      · exact .inr ⟨hf, hlt⟩
      · exact .inl ⟨hf, hge⟩

theorem Ventilation.dutyOrder_nodup {v : Ventilation} (h : (v.fans.map Fan.number).Nodup) :
    (v.dutyOrder.map Fan.number).Nodup := by
  unfold Ventilation.dutyOrder
  cases v.dutyPointer with
  | none => exact h
  | some p =>
    rw [List.map_append]
    refine List.Nodup.append ((List.filter_sublist.map _).nodup h) ((List.filter_sublist.map _).nodup h) ?_
    intro k hk hk'
    simp only [List.mem_map, List.mem_filter, decide_eq_true_eq] at hk hk'
    obtain ⟨f, ⟨-, hge⟩, rfl⟩ := hk
    obtain ⟨g, ⟨-, hlt⟩, hg⟩ := hk'
    omega

/-- The fans an adding chooses: STOPPED ones in duty order (R38). -/
theorem Ventilation.addShort_eq (v : Ventilation) (n : Nat) : v.addShort n =
    { v.mapFans (v.available.take (n - (v.runList.length + v.startQueue.length))) (fun f => f.inState .queued) with
      startQueue := v.startQueue ++ v.available.take (n - (v.runList.length + v.startQueue.length)) } := by
  simp only [Ventilation.addShort, Ventilation.available, List.map_take]

theorem Ventilation.InOrder.mem_available {v : Ventilation} (h : v.InOrder) {f : Fan} (hf : f ∈ v.fans) :
    f.number ∈ v.available ↔ f.state = .stopped := by
  simp only [Ventilation.available, List.mem_map, List.mem_filter, decide_eq_true_eq, Ventilation.mem_dutyOrder]
  constructor
  · rintro ⟨g, ⟨hg, hs⟩, hgf⟩
    rwa [← eq_of_key h.nodup hg hf hgf]
  · exact fun hs => ⟨f, ⟨hf, hs⟩, rfl⟩

theorem Ventilation.available_fans {v : Ventilation} {k : Nat} (h : k ∈ v.available) : k ∈ v.fans.map Fan.number := by
  simp only [Ventilation.available, List.mem_map, List.mem_filter, Ventilation.mem_dutyOrder] at h
  obtain ⟨f, ⟨hf, -⟩, rfl⟩ := h
  exact List.mem_map_of_mem hf

theorem Ventilation.InOrder.available_nodup {v : Ventilation} (h : v.InOrder) : v.available.Nodup :=
  (List.filter_sublist.map _).nodup (Ventilation.dutyOrder_nodup h.nodup)

/-- STOPPED fans chosen join the end of the start queue (R38). -/
theorem Ventilation.InOrder.addShort {v : Ventilation} (h : v.InOrder) (n : Nat) : (v.addShort n).InOrder := by
  rw [Ventilation.addShort_eq]
  generalize n - (v.runList.length + v.startQueue.length) = short
  have hstopped : ∀ f ∈ v.fans, f.number ∈ v.available.take short → f.state = .stopped := fun f hf hk =>
    (h.mem_available hf).mp (List.mem_of_mem_take hk)
  have keep : ∀ f : Fan, (if f.number ∈ v.available.take short then f.inState .queued else f).state = .starting →
      f.state = .starting := by
    intro f
    split
    · simp [Fan.inState]
    · exact id
  refine h.mapped (g := fun x => if x.number ∈ v.available.take short then x.inState .queued else x) rfl ?_ ?_ h.runNodup
    ?_ h.runFans ?_ ?_ ?_ ?_
  · intro f
    split <;> rfl
  · intro f hf
    split
    · exact f.inState_legal (by decide)
    · exact h.legal f hf
  · refine h.queueNodup.append (h.available_nodup.sublist (List.take_sublist _ _)) fun k hk hk' => ?_
    obtain ⟨f, hf, rfl⟩ := List.mem_map.mp (h.queueFans k hk)
    have hqueued := (h.queue f hf).mp hk
    rw [hstopped f hf hk'] at hqueued
    cases hqueued
  · intro k hk
    rcases List.mem_append.mp hk with hk | hk
    · exact h.queueFans k hk
    · exact Ventilation.available_fans (List.mem_of_mem_take hk)
  · intro f hf
    change f.number ∈ v.runList ↔ _
    rw [h.run f hf]
    split
    · simp [hstopped f hf ‹_›, Fan.inState]
    · exact Iff.rfl
  · intro f hf
    change f.number ∈ v.startQueue ++ v.available.take short ↔ _
    rw [List.mem_append, h.queue f hf]
    split
    · simp [*, Fan.inState]
    · simp [*]
  · exact fun f hf f' hf' hs hs' => h.single f hf f' hf' (keep f hs) (keep f' hs')

/-! ### The plan of a pass -/

/-- The running count a pass plans for (R36). -/
def Ventilation.plan (v : Ventilation) : Nat := plannedCount v.commanded v.healthyCount

/-- The controller once a pass has removed and added (R37, R38). -/
def Ventilation.planned (v : Ventilation) (c : Settings) : Ventilation := (v.removeExcess c v.plan).addShort v.plan

/-- No fan is removed while those that run and wait are no more than planned. -/
theorem Ventilation.removeExcess_of_le {v : Ventilation} {n : Nat} (h : v.runList.length + v.startQueue.length ≤ n)
    (c : Settings) : v.removeExcess c n = v := by
  have hrun : v.runList.take n = v.runList := List.take_of_length_le (by omega)
  have hqueue : v.startQueue.take (n - v.runList.length) = v.startQueue := List.take_of_length_le (by omega)
  have hrunDrop : v.runList.drop n = [] := List.drop_eq_nil_of_le (by omega)
  have hqueueDrop : v.startQueue.drop (n - v.runList.length) = [] := List.drop_eq_nil_of_le (by omega)
  simp only [Ventilation.removeExcess, hqueue, hqueueDrop, Ventilation.mapFans_nil, hrun, hrunDrop,
    Ventilation.setRunList_self]

/-- No fan is added while those that run and wait are as many as planned, or none is STOPPED. -/
theorem Ventilation.addShort_of_none {v : Ventilation} {n : Nat}
    (h : v.available.take (n - (v.runList.length + v.startQueue.length)) = []) : v.addShort n = v := by
  rw [Ventilation.addShort_eq, h]
  simp [Ventilation.mapFans_nil]

/-- A fan after a removal: the last started are STOPPING, the last queued STOPPED (R37). -/
def Ventilation.cut (v : Ventilation) (c : Settings) (n : Nat) (f : Fan) : Fan :=
  if f.number ∈ v.runList.drop n then f.toStopping c
  else if f.number ∈ v.startQueue.drop (n - v.runList.length) then f.inState .stopped else f

@[simp] theorem Ventilation.cut_number (v : Ventilation) (c : Settings) (n : Nat) (f : Fan) :
    (v.cut c n f).number = f.number := by
  unfold Ventilation.cut
  (repeat' split) <;> rfl

theorem Ventilation.removeExcess_eq (v : Ventilation) (c : Settings) (n : Nat) : v.removeExcess c n =
    Ventilation.setRunList { v with fans := v.fans.map (v.cut c n), startQueue := v.startQueue.take (n - v.runList.length) }
      (v.runList.take n) := by
  have hcut : ((fun x : Fan => if x.number ∈ v.runList.drop n then x.toStopping c else x) ∘ fun x =>
      if x.number ∈ v.startQueue.drop (n - v.runList.length) then x.inState .stopped else x) = v.cut c n := by
    funext f
    by_cases hq : f.number ∈ v.startQueue.drop (n - v.runList.length) <;>
      simp only [Function.comp_apply, hq, if_true, if_false, Ventilation.cut]
    rfl
  simp only [Ventilation.removeExcess, Ventilation.mapFans, List.map_map, hcut]

theorem map_number_map {g : Fan → Fan} (h : ∀ f, (g f).number = f.number) (l : List Fan) :
    (l.map g).map Fan.number = l.map Fan.number := by
  rw [List.map_map]
  exact List.map_congr_left fun f _ => h f

/-- A pass that plans leaves the run list cut to the plan, the start queue cut and filled, fans not named alone, the
numbers, health and demand, and the duty pointer unless the run list becomes empty (R36..R39). -/
structure Ventilation.Plans (c : Settings) (v w : Ventilation) (chosen : List Nat) : Prop where
  order : w.InOrder
  runList : w.runList = v.runList.take v.plan
  startQueue : w.startQueue = v.startQueue.take (v.plan - v.runList.length) ++ chosen
  numbers : w.fans.map Fan.number = v.fans.map Fan.number
  healthy : w.healthyCount = v.healthyCount
  demand : w.SameDemand v
  duty : w.dutyPointer = if v.runList ≠ [] ∧ v.plan = 0 then v.nextDuty else v.dutyPointer
  full : w.runList.length + w.startQueue.length ≤ v.plan
  short : w.runList.length + w.startQueue.length < v.plan → ∀ f ∈ w.fans, f.state ≠ .stopped
  stopping : ∀ f ∈ v.fans, f.number ∈ v.runList.drop v.plan → f.toStopping c ∈ w.fans
  stopped : ∀ f ∈ v.fans, f.number ∈ v.startQueue.drop (v.plan - v.runList.length) → f.inState .stopped ∈ w.fans
  kept : ∀ f ∈ v.fans, f.number ∉ v.runList.drop v.plan → f.number ∉ v.startQueue.drop (v.plan - v.runList.length) →
    f.number ∉ chosen → f ∈ w.fans

/-- No fan stands in both lists. -/
theorem Ventilation.InOrder.disjoint {v : Ventilation} (h : v.InOrder) {k : Nat} (hr : k ∈ v.runList) :
    k ∉ v.startQueue := by
  intro hq
  obtain ⟨f, hf, rfl⟩ := List.mem_map.mp (h.runFans k hr)
  rw [h.run f hf] at hr
  rw [h.queue f hf] at hq
  simp [hq] at hr

theorem Ventilation.InOrder.cut_healthy {v : Ventilation} (h : v.InOrder) (c : Settings) (n : Nat) {f : Fan}
    (hf : f ∈ v.fans) : (v.cut c n f).healthy = f.healthy := by
  unfold Ventilation.cut
  split
  · rcases (h.run f hf).mp (List.mem_of_mem_drop ‹_›) with hs | hs <;>
      simp [Fan.healthy, hs, Fan.toStopping, Fan.inState]
  · split
    · simp [Fan.healthy, (h.queue f hf).mp (List.mem_of_mem_drop ‹_›), Fan.inState]
    · rfl

/-- More run or wait than planned: fans are removed and none is added (R37). -/
theorem Ventilation.InOrder.plans_of_gt {v : Ventilation} (h : v.InOrder) (c : Settings)
    (hgt : v.plan < v.runList.length + v.startQueue.length) : v.Plans c (v.planned c) [] := by
  have heq := v.removeExcess_eq c v.plan
  have hrun : (v.removeExcess c v.plan).runList = v.runList.take v.plan := by simp [heq]
  have hqueue : (v.removeExcess c v.plan).startQueue = v.startQueue.take (v.plan - v.runList.length) := by simp [heq]
  have hfans : (v.removeExcess c v.plan).fans = v.fans.map (v.cut c v.plan) := by simp [heq]
  have hnumbers := map_number_map (v.cut_number c v.plan) v.fans
  have hlength : (v.removeExcess c v.plan).runList.length + (v.removeExcess c v.plan).startQueue.length = v.plan := by
    rw [hrun, hqueue, List.length_take, List.length_take]
    omega
  have hplanned : v.planned c = v.removeExcess c v.plan :=
    Ventilation.addShort_of_none (by rw [hlength, Nat.sub_self, List.take_zero])
  have hmem : ∀ f ∈ v.fans, v.cut c v.plan f ∈ (v.removeExcess c v.plan).fans := fun f hf =>
    hfans ▸ List.mem_map_of_mem hf
  rw [hplanned]
  refine ⟨h.removeExcess c _, hrun, by simp [hqueue], hfans ▸ hnumbers,
    Ventilation.healthyCount_map hfans fun f hf => h.cut_healthy c _ hf, v.removeExcess_sameDemand c _, ?_, hlength.le,
    fun hlt => by omega, fun f hf hk => ?_, fun f hf hk => ?_, fun f hf hr hq _ => ?_⟩
  · have hnext : Ventilation.nextDuty { v with
        fans := v.fans.map (v.cut c v.plan), startQueue := v.startQueue.take (v.plan - v.runList.length) } = v.nextDuty :=
      Ventilation.nextDuty_congr hnumbers rfl
    rw [heq, Ventilation.setRunList_dutyPointer, hnext]
    refine if_congr ?_ rfl rfl
    rw [List.take_eq_nil_iff]
    tauto
  · simpa [Ventilation.cut, hk] using hmem f hf
  · have hno : f.number ∉ v.runList.drop v.plan := fun hr =>
      h.disjoint (List.mem_of_mem_drop hr) (List.mem_of_mem_drop hk)
    simpa [Ventilation.cut, hk, hno] using hmem f hf
  · simpa [Ventilation.cut, hr, hq] using hmem f hf

/-- No more run and wait than planned: none is removed, and STOPPED fans are added as far as they go (R38). -/
theorem Ventilation.InOrder.plans_of_le {v : Ventilation} (h : v.InOrder) (c : Settings)
    (hle : v.runList.length + v.startQueue.length ≤ v.plan) :
    v.Plans c (v.planned c) (v.available.take (v.plan - (v.runList.length + v.startQueue.length))) := by
  have hrun : v.runList.take v.plan = v.runList := List.take_of_length_le (by omega)
  have hqueue : v.startQueue.take (v.plan - v.runList.length) = v.startQueue := List.take_of_length_le (by omega)
  have hrunDrop : v.runList.drop v.plan = [] := List.drop_eq_nil_of_le (by omega)
  have hqueueDrop : v.startQueue.drop (v.plan - v.runList.length) = [] := List.drop_eq_nil_of_le (by omega)
  have hduty : ¬ (v.runList ≠ [] ∧ v.plan = 0) := by
    rintro ⟨hne, hzero⟩
    exact hne (List.eq_nil_of_length_eq_zero (by omega))
  have hplanned : v.planned c = v.addShort v.plan := by rw [Ventilation.planned, Ventilation.removeExcess_of_le hle]
  have hadded := v.addShort_eq v.plan
  set chosen := v.available.take (v.plan - (v.runList.length + v.startQueue.length)) with hchosen
  have hstopped : ∀ f ∈ v.fans, f.number ∈ chosen → f.state = .stopped := fun f hf hk =>
    (h.mem_available hf).mp (List.mem_of_mem_take hk)
  have hfans : (v.addShort v.plan).fans = v.fans.map (fun x => if x.number ∈ chosen then x.inState .queued else x) := by
    rw [hadded]
    rfl
  have hlists : (v.addShort v.plan).runList = v.runList ∧ (v.addShort v.plan).startQueue = v.startQueue ++ chosen := by
    rw [hadded]
    exact ⟨rfl, rfl⟩
  rw [hplanned]
  refine ⟨h.addShort _, by rw [hlists.1, hrun], by rw [hlists.2, hqueue], ?_, ?_, v.addShort_sameDemand _, ?_, ?_, ?_, ?_,
    ?_, fun f hf _ _ hk => ?_⟩
  · rw [hadded]
    exact Ventilation.map_number_mapFans fun _ => rfl
  · refine Ventilation.healthyCount_map hfans fun f hf => ?_
    split
    · simp [Fan.healthy, hstopped f hf ‹_›, Fan.inState]
    · rfl
  · rw [if_neg hduty, hadded]
    rfl
  · rw [hlists.1, hlists.2, List.length_append, hchosen, List.length_take]
    omega
  · rw [hlists.1, hlists.2, List.length_append, hchosen, List.length_take]
    intro hlt f hf
    rw [hfans] at hf
    obtain ⟨g, hg, rfl⟩ := List.mem_map.mp hf
    have hall : chosen = v.available := List.take_of_length_le (by omega)
    split
    · simp [Fan.inState]
    · rename_i hno
      exact fun hs => hno (hall ▸ (h.mem_available hg).mpr hs)
  · simp [hrunDrop]
  · simp [hqueueDrop]
  · rw [hfans]
    exact List.mem_map.mpr ⟨f, hf, if_neg hk⟩

/-- What every pass does before it starts a fan (R36..R39). -/
theorem Ventilation.InOrder.plans {v : Ventilation} (h : v.InOrder) (c : Settings) :
    v.Plans c (v.planned c) (v.available.take (v.plan - (v.runList.length + v.startQueue.length))) := by
  rcases Nat.lt_or_ge v.plan (v.runList.length + v.startQueue.length) with hgt | hle
  · rw [Nat.sub_eq_zero_of_le hgt.le, List.take_zero]
    exact h.plans_of_gt c hgt
  · exact h.plans_of_le c hle

/-! ### Starts and confirmations -/

/-- From one controller to another fans have been started or confirmed, and nothing else (R40, R41). -/
structure Ventilation.Progress (v w : Ventilation) : Prop where
  order : w.InOrder
  lists : w.runList ++ w.startQueue = v.runList ++ v.startQueue
  run : v.runList <+: w.runList
  numbers : w.fans.map Fan.number = v.fans.map Fan.number
  healthy : w.healthyCount = v.healthyCount
  duty : w.dutyPointer = v.dutyPointer
  demand : w.SameDemand v
  kept : ∀ f ∈ v.fans, f.state ≠ .queued → f.state ≠ .starting → f ∈ w.fans
  stopped : ∀ f ∈ w.fans, f.state = .stopped → f ∈ v.fans

theorem Ventilation.InOrder.progress_refl {v : Ventilation} (h : v.InOrder) : v.Progress v :=
  ⟨h, rfl, List.prefix_refl _, rfl, rfl, rfl, ⟨rfl, rfl, rfl, rfl⟩, fun _ hf _ _ => hf, fun _ hf _ => hf⟩

theorem Ventilation.Progress.trans {u v w : Ventilation} (h : u.Progress v) (k : v.Progress w) : u.Progress w :=
  ⟨k.order, k.lists.trans h.lists, h.run.trans k.run, k.numbers.trans h.numbers, k.healthy.trans h.healthy,
    k.duty.trans h.duty, k.demand.trans h.demand, fun f hf hq hs => k.kept f (h.kept f hf hq hs) hq hs,
    fun f hf hs => h.stopped f (k.stopped f hf hs) hs⟩

/-- The waiting fans and the one in STARTING: each confirmation of a pass makes them fewer. -/
def Ventilation.unstarted (v : Ventilation) : Nat :=
  v.startQueue.length + if v.fans.any (fun f => decide (f.state = .starting)) then 1 else 0

/-- One fan changed to a healthy state from a healthy state other than STOPPED. -/
theorem Ventilation.InOrder.healthyCount_mapFan {v : Ventilation} (h : v.InOrder) {g : Fan → Fan} {f : Fan}
    (hf : f ∈ v.fans) (hg : (g f).healthy = f.healthy) : (v.mapFan f.number g).healthyCount = v.healthyCount := by
  refine Ventilation.healthyCount_map rfl fun x hx => ?_
  split
  · rw [eq_of_key h.nodup hx hf ‹_›, hg]
  · rfl

/-- The start stagger moves the head of the start queue to the run list, or does nothing (R40). -/
theorem Ventilation.InOrder.startNext {v : Ventilation} (h : v.InOrder) (c : Settings) (b : Bool) :
    v.Progress (v.startNext c b) ∧ (v.startNext c b).unstarted ≤ v.unstarted ∧
      ((v.startNext c b).startQueue ≠ [] → ∃ f ∈ (v.startNext c b).fans, f.state = .starting) := by
  unfold Ventilation.startNext
  split
  · exact ⟨h.progress_refl, le_rfl, fun hne => absurd ‹v.startQueue = []› hne⟩
  · rename_i n rest hqueue
    split
    · rename_i hany
      refine ⟨h.progress_refl, le_rfl, fun _ => ?_⟩
      simpa using hany
    · rename_i hnone
      have hidle : ∀ f ∈ v.fans, f.state ≠ .starting := by simpa using hnone
      obtain ⟨f, hf, hfn⟩ := List.mem_map.mp (h.queueFans n (by simp [hqueue]))
      subst hfn
      have hqueued : f.state = .queued := (h.queue f hf).mp (by simp [hqueue])
      have hrest : f.number ∉ rest := (List.nodup_cons.mp (hqueue ▸ h.queueNodup)).1
      have hothers : ∀ x ∈ v.fans, x.number = f.number → x = f := fun x hx => eq_of_key h.nodup hx hf
      have hmember : ∀ x ∈ v.fans, (if x.number = f.number then x.toStarting c b else x) ∈
          (v.mapFan f.number (fun f => f.toStarting c b)).fans := fun x hx => List.mem_map_of_mem hx
      refine ⟨⟨?_, ?_, ?_, ?_, ?_, rfl, ⟨rfl, rfl, rfl, rfl⟩, ?_, ?_⟩, ?_, ?_⟩
      · refine h.mapped (g := fun x => if x.number = f.number then x.toStarting c b else x) rfl ?_ ?_ ?_ ?_ ?_ ?_ ?_ ?_ ?_
        · intro x
          split <;> simp
        · intro x hx
          split
          · exact x.toStarting_legal c b
          · exact h.legal x hx
        · exact h.runNodup.append (List.nodup_singleton _) (by
            rw [List.disjoint_singleton]
            exact fun hr => h.disjoint hr (by simp [hqueue]))
        · exact (List.nodup_cons.mp (hqueue ▸ h.queueNodup)).2
        · intro k hk
          rcases List.mem_append.mp hk with hk | hk
          · exact h.runFans k hk
          · exact h.queueFans k (by simp [hqueue, List.mem_singleton.mp hk])
        · exact fun k hk => h.queueFans k (by simp [hqueue, hk])
        · intro x hx
          change x.number ∈ v.runList ++ [f.number] ↔ _
          rw [List.mem_append, h.run x hx, List.mem_singleton]
          split
          · simp [*]
          · simp [*]
        · intro x hx
          change x.number ∈ rest ↔ _
          split
          · simp [*]
          · rw [← h.queue x hx]
            simp [*]
        · intro x hx y hy hsx hsy
          have hstarts : ∀ z ∈ v.fans, (if z.number = f.number then z.toStarting c b else z).state = .starting →
              z = f := by
            intro z hz
            split
            · exact fun _ => hothers z hz ‹_›
            · exact fun hs => absurd hs (hidle z hz)
          rw [hstarts x hx hsx, hstarts y hy hsy]
      · simp [hqueue]
      · exact List.prefix_append _ _
      · exact map_number_map (fun x => by split <;> simp) v.fans
      · exact h.healthyCount_mapFan hf (by simp [Fan.healthy, hqueued])
      · intro x hx hq _
        have hne : x.number ≠ f.number := fun heq => hq (hothers x hx heq ▸ hqueued)
        simpa [hne] using hmember x hx
      · intro x hx hs
        obtain ⟨y, hy, rfl⟩ := List.mem_map.mp hx
        split at hs
        · simp at hs
        · simp [*]
      · simp only [Ventilation.unstarted, hqueue, List.length_cons]
        (repeat' split) <;> omega
      · intro _
        exact ⟨f.toStarting c b, by simpa only [if_true] using hmember f hf, by simp⟩

/-- One fan changed so that it stays in the lists it stands in. -/
theorem Ventilation.InOrder.mapFan {v : Ventilation} (h : v.InOrder) {f : Fan} (hf : f ∈ v.fans) {g : Fan → Fan}
    (hnum : ∀ x, (g x).number = x.number) (hlegal : (g f).Legal)
    (hrun : (g f).state = .starting ∨ (g f).state = .running ↔ f.state = .starting ∨ f.state = .running)
    (hqueue : (g f).state = .queued ↔ f.state = .queued) (hstart : (g f).state = .starting → f.state = .starting) :
    (v.mapFan f.number g).InOrder := by
  have hothers : ∀ x ∈ v.fans, x.number = f.number → x = f := fun x hx => eq_of_key h.nodup hx hf
  refine h.mapped (g := fun x => if x.number = f.number then g x else x) rfl ?_ ?_ h.runNodup h.queueNodup
    h.runFans h.queueFans ?_ ?_ ?_
  · intro x
    split
    · exact hnum x
    · rfl
  · intro x hx
    split
    · rwa [hothers x hx ‹_›]
    · exact h.legal x hx
  · intro x hx
    change x.number ∈ v.runList ↔ _
    rw [h.run x hx]
    split
    · rw [hothers x hx ‹_›, hrun]
    · exact Iff.rfl
  · intro x hx
    change x.number ∈ v.startQueue ↔ _
    rw [h.queue x hx]
    split
    · rw [hothers x hx ‹_›, hqueue]
    · exact Iff.rfl
  · intro x hx y hy hsx hsy
    have keep : ∀ z ∈ v.fans, (if z.number = f.number then g z else z).state = .starting → z.state = .starting := by
      intro z hz
      split
      · rw [hothers z hz ‹_›]
        exact hstart
      · exact id
    exact h.single x hx y hy (keep x hx hsx) (keep y hy hsy)

/-- A fan in STARTING that is confirmed is RUNNING (R41). -/
theorem Ventilation.InOrder.confirm {v : Ventilation} (h : v.InOrder) {f : Fan} (hf : f ∈ v.fans)
    (hs : f.state = .starting) : v.Progress (v.mapFan f.number (fun x => x.inState .running)) ∧
      (v.mapFan f.number (fun x => x.inState .running)).unstarted < v.unstarted := by
  have hothers : ∀ x ∈ v.fans, x.number = f.number → x = f := fun x hx => eq_of_key h.nodup hx hf
  have hmember : ∀ x ∈ v.fans, (if x.number = f.number then x.inState .running else x) ∈
      (v.mapFan f.number (fun x => x.inState .running)).fans := fun x hx => List.mem_map_of_mem hx
  have hnone : ∀ x ∈ v.fans, (if x.number = f.number then x.inState .running else x).state ≠ .starting := by
    intro x hx
    split
    · simp [Fan.inState]
    · exact fun hsx => ‹¬ x.number = f.number› (by rw [h.single x hx f hf hsx hs])
  refine ⟨⟨?_, rfl, List.prefix_refl _, ?_, ?_, rfl, ⟨rfl, rfl, rfl, rfl⟩, ?_, ?_⟩, ?_⟩
  · exact h.mapFan hf (fun _ => rfl) (f.inState_legal (by decide)) (by simp [hs, Fan.inState]) (by simp [hs, Fan.inState])
      (by simp [Fan.inState])
  · exact map_number_map (fun x => by split <;> rfl) v.fans
  · exact h.healthyCount_mapFan hf (by simp [Fan.healthy, hs, Fan.inState])
  · intro x hx _ hsx
    have hne : x.number ≠ f.number := fun heq => hsx (hothers x hx heq ▸ hs)
    simpa only [hne, if_false] using hmember x hx
  · intro x hx hsx
    obtain ⟨y, hy, rfl⟩ := List.mem_map.mp hx
    split at hsx
    · cases hsx
    · simp [*]
  · have hbefore : v.fans.any (fun x => decide (x.state = .starting)) = true := by
      rw [List.any_eq_true]
      exact ⟨f, hf, decide_eq_true hs⟩
    have hafter : (v.mapFan f.number (fun x => x.inState .running)).fans.any (fun x => decide (x.state = .starting)) =
        false := by
      rw [List.any_eq_false]
      intro x hx
      obtain ⟨y, hy, rfl⟩ := List.mem_map.mp hx
      simpa using hnone y hy
    rw [Ventilation.unstarted, Ventilation.unstarted, hbefore, hafter]
    exact Nat.lt_succ_self _

theorem Ventilation.confirmed_eq_some {v : Ventilation} {i : Inputs} {b : Bool} {k : Nat}
    (h : v.confirmed i b = some k) : ∃ f ∈ v.fans, f.number = k ∧ f.state = .starting := by
  unfold Ventilation.confirmed at h
  split at h
  · cases h
  · obtain ⟨f, hf, hk⟩ := Option.map_eq_some_iff.mp h
    have hprop := List.find?_some hf
    simp only [Bool.and_eq_true, decide_eq_true_eq] at hprop
    exact ⟨f, List.mem_of_find?_eq_some hf, hk, hprop.1⟩

/-- Nothing is left for a pass to remove or add. -/
def Ventilation.Settled (v : Ventilation) : Prop :=
  v.runList.length + v.startQueue.length ≤ v.plan ∧
    (v.runList.length + v.startQueue.length < v.plan → ∀ f ∈ v.fans, f.state ≠ .stopped)

theorem Ventilation.Settled.planned_eq {v : Ventilation} (h : v.Settled) (c : Settings) : v.planned c = v := by
  have hnone : v.available.take (v.plan - (v.runList.length + v.startQueue.length)) = [] := by
    rcases Nat.lt_or_ge (v.runList.length + v.startQueue.length) v.plan with hlt | hge
    · have hempty : v.available = [] := by
        simp only [Ventilation.available, List.map_eq_nil_iff, List.filter_eq_nil_iff, Ventilation.mem_dutyOrder,
          decide_eq_true_eq]
        exact h.2 hlt
      rw [hempty, List.take_nil]
    · rw [Nat.sub_eq_zero_of_le hge, List.take_zero]
  rw [Ventilation.planned, Ventilation.removeExcess_of_le h.1, Ventilation.addShort_of_none hnone]

theorem Ventilation.Progress.plan_eq {v w : Ventilation} (h : v.Progress w) : w.plan = v.plan := by
  rw [Ventilation.plan, Ventilation.plan, h.healthy, h.demand.commanded]

theorem Ventilation.Progress.length_eq {v w : Ventilation} (h : v.Progress w) :
    w.runList.length + w.startQueue.length = v.runList.length + v.startQueue.length := by
  simpa only [List.length_append] using congrArg List.length h.lists

theorem Ventilation.Progress.settled {v w : Ventilation} (h : v.Progress w) (hs : v.Settled) : w.Settled := by
  unfold Ventilation.Settled
  rw [h.length_eq, h.plan_eq]
  exact ⟨hs.1, fun hlt f hf hst => hs.2 hlt f (h.stopped f hf hst) hst⟩

theorem Ventilation.Plans.plan_eq {c : Settings} {v w : Ventilation} {chosen : List Nat} (h : v.Plans c w chosen) :
    w.plan = v.plan := by
  rw [Ventilation.plan, Ventilation.plan, h.healthy, h.demand.commanded]

theorem Ventilation.Plans.settled {c : Settings} {v w : Ventilation} {chosen : List Nat} (h : v.Plans c w chosen) :
    w.Settled := by
  unfold Ventilation.Settled
  rw [h.plan_eq]
  exact ⟨h.full, h.short⟩

/-- A start and the confirmations that follow it, once the plan is met (R40, R41). -/
theorem Ventilation.InOrder.passes_of_settled (c : Settings) (i : Inputs) (b : Bool) {k : Nat} {v : Ventilation}
    (h : v.InOrder) (hsettled : v.Settled) (hk : v.unstarted < k) :
    ∃ w, v.Progress w ∧ (w.startQueue ≠ [] → ∃ f ∈ w.fans, f.state = .starting) ∧ v.passes c i b k = w.finishPass c := by
  induction k generalizing v with
  | zero => omega
  | succ k ih =>
    obtain ⟨hstart, hfewer, hwaits⟩ := h.startNext c b
    have hplanned : (v.removeExcess c (plannedCount v.commanded v.healthyCount)).addShort
        (plannedCount v.commanded v.healthyCount) = v := hsettled.planned_eq c
    simp only [Ventilation.passes, hplanned]
    split
    · rename_i n hn
      obtain ⟨f, hf, rfl, hs⟩ := Ventilation.confirmed_eq_some hn
      obtain ⟨hconfirm, hless⟩ := hstart.order.confirm hf hs
      have hboth := hstart.trans hconfirm
      obtain ⟨w, hw, hwaits, heq⟩ := ih hboth.order (hboth.settled hsettled) (by omega)
      exact ⟨w, hboth.trans hw, hwaits, heq⟩
    · exact ⟨_, hstart, hwaits, rfl⟩

/-- No more fans stand in the lists than there are. -/
theorem Ventilation.InOrder.length_le {v : Ventilation} (h : v.InOrder) :
    v.runList.length + v.startQueue.length ≤ v.fans.length := by
  have hnodup : (v.runList ++ v.startQueue).Nodup := h.runNodup.append h.queueNodup fun _ hr hq => h.disjoint hr hq
  have hsub : (v.runList ++ v.startQueue).Subperm (v.fans.map Fan.number) :=
    hnodup.subperm fun k hk => (List.mem_append.mp hk).elim (h.runFans k) (h.queueFans k)
  simpa using hsub.length_le

theorem Ventilation.InOrder.unstarted_le {v : Ventilation} (h : v.InOrder) : v.unstarted ≤ v.fans.length := by
  refine le_trans ?_ h.length_le
  unfold Ventilation.unstarted
  split
  · rename_i hany
    obtain ⟨f, hf, hs⟩ := List.any_eq_true.mp hany
    have hin : f.number ∈ v.runList := (h.run f hf).mpr (.inl (of_decide_eq_true hs))
    have hpos := List.length_pos_of_mem hin
    omega
  · omega

/-- Allocation passes are the plan, then starts and confirmations, then the end of a pass (R36..R41). -/
theorem Ventilation.InOrder.passes {v : Ventilation} (h : v.InOrder) (c : Settings) (i : Inputs) (b : Bool) :
    ∃ w, (v.planned c).Progress w ∧ (w.startQueue ≠ [] → ∃ f ∈ w.fans, f.state = .starting) ∧
      v.passes c i b (v.fans.length + 1) = w.finishPass c := by
  have hplans := h.plans c
  have hagain : v.passes c i b (v.fans.length + 1) = (v.planned c).passes c i b (v.fans.length + 1) := by
    have hsame : ((v.planned c).removeExcess c (plannedCount (v.planned c).commanded (v.planned c).healthyCount)).addShort
        (plannedCount (v.planned c).commanded (v.planned c).healthyCount) = v.planned c := hplans.settled.planned_eq c
    simp only [Ventilation.passes, hsame]
    rfl
  rw [hagain]
  refine hplans.order.passes_of_settled c i b hplans.settled (Nat.lt_succ_of_le ?_)
  refine hplans.order.unstarted_le.trans (le_of_eq ?_)
  simpa using congrArg List.length hplans.numbers

/-! ### An allocation pass -/

/-- What an allocation pass leads to (R36..R41, R47): the plan, then starts and confirmations, then speed and flags. -/
theorem State.allocate_passes {s : State} (h : s.vent.InOrder) :
    ∃ w, (s.vent.planned s.settings).Progress w ∧ (w.startQueue ≠ [] → ∃ f ∈ w.fans, f.state = .starting) ∧
      s.allocate.vent = w.finishPass s.settings := by
  rw [State.allocate_vent]
  exact h.passes _ _ _

theorem Ventilation.InOrder.finishPass {v : Ventilation} (h : v.InOrder) (c : Settings) : (v.finishPass c).InOrder :=
  h.of_same rfl rfl rfl

theorem Ventilation.sound_iff (v : Ventilation) :
    v.Sound ↔ v.InOrder ∧ v.runList.length + v.startQueue.length ≤ v.plan := by
  rw [Ventilation.Sound, Ventilation.ordered_iff]
  rfl

/-- From ordered fans an allocation pass comes to sound ones (R37, R38). -/
theorem State.allocate_sound {s : State} (h : s.vent.InOrder) : s.allocate.vent.Sound := by
  obtain ⟨w, hw, -, heq⟩ := State.allocate_passes h
  have hplans := h.plans s.settings
  rw [Ventilation.sound_iff, heq]
  refine ⟨hw.order.finishPass _, ?_⟩
  change w.runList.length + w.startQueue.length ≤ w.plan
  rw [hw.length_eq, hw.plan_eq, hplans.plan_eq]
  exact hplans.full

/-- An allocation pass keeps the fan numbers. -/
theorem State.allocate_numbers {s : State} (h : s.vent.InOrder) :
    s.allocate.vent.fans.map Fan.number = s.vent.fans.map Fan.number := by
  obtain ⟨w, hw, -, heq⟩ := State.allocate_passes h
  rw [heq]
  exact hw.numbers.trans (h.plans s.settings).numbers

end Sys2Proof.Machine
end

section
/-! PROOFS. Fans, run list and start queue after every step (R34..R46). -/

namespace Sys2Proof.Machine

/-! ### One fan leaves the lists -/

@[simp] theorem Ventilation.dropFan_fans (v : Ventilation) (n : Nat) : (v.dropFan n).fans = v.fans := by
  simp [Ventilation.dropFan]
@[simp] theorem Ventilation.dropFan_runList (v : Ventilation) (n : Nat) :
    (v.dropFan n).runList = v.runList.filter (fun k => k ≠ n) := by
  simp [Ventilation.dropFan]
@[simp] theorem Ventilation.dropFan_startQueue (v : Ventilation) (n : Nat) :
    (v.dropFan n).startQueue = v.startQueue.filter (fun k => k ≠ n) := by
  simp [Ventilation.dropFan]

/-- A fan put into FAULT or LOCKED_OUT leaves both lists (R41, R42, R44). -/
theorem Ventilation.InOrder.takeOut {v : Ventilation} (h : v.InOrder) {f : Fan} (hf : f ∈ v.fans) {st : FanState}
    (hst : st = .fault ∨ st = .lockedOut) :
    ((v.mapFan f.number (fun x => x.inState st)).dropFan f.number).InOrder := by
  have hothers : ∀ x ∈ v.fans, x.number = f.number → x = f := fun x hx => eq_of_key h.nodup hx hf
  have hrun : ((v.mapFan f.number (fun x => x.inState st)).dropFan f.number).runList =
      v.runList.filter (fun k => k ≠ f.number) := by simp [Ventilation.mapFan]
  have hqueue : ((v.mapFan f.number (fun x => x.inState st)).dropFan f.number).startQueue =
      v.startQueue.filter (fun k => k ≠ f.number) := by simp [Ventilation.mapFan]
  refine h.mapped (g := fun x => if x.number = f.number then x.inState st else x) (by simp [Ventilation.mapFan])
    ?_ ?_ ?_ ?_ ?_ ?_ ?_ ?_ ?_
  · intro x
    split <;> rfl
  · intro x hx
    split
    · exact x.inState_legal (by rcases hst with rfl | rfl <;> decide)
    · exact h.legal x hx
  · exact hrun ▸ h.runNodup.filter _
  · exact hqueue ▸ h.queueNodup.filter _
  · exact hrun ▸ fun k hk => h.runFans k (List.mem_of_mem_filter hk)
  · exact hqueue ▸ fun k hk => h.queueFans k (List.mem_of_mem_filter hk)
  · intro x hx
    rw [hrun, List.mem_filter, h.run x hx]
    split
    · rcases hst with rfl | rfl <;> simp [*, Fan.inState]
    · simp [*]
  · intro x hx
    rw [hqueue, List.mem_filter, h.queue x hx]
    split
    · rcases hst with rfl | rfl <;> simp [*, Fan.inState]
    · simp [*]
  · intro x hx y hy hsx hsy
    have keep : ∀ z : Fan, (if z.number = f.number then z.inState st else z).state = .starting → z.state = .starting := by
      intro z
      split
      · rcases hst with rfl | rfl <;> simp [Fan.inState]
      · exact id
    exact h.single x hx y hy (keep x hsx) (keep y hsy)

/-! ### The Ventilation Controller of a state -/

/-- The fans in order, their numbers in 1..6, six run-confirm inputs: `FansSound` without the plan. -/
structure State.FansOrdered (s : State) : Prop where
  order : s.vent.InOrder
  confirms : s.inputs.runConfirm.length = 6
  numbers : ∀ n ∈ s.vent.fans.map Fan.number, 1 ≤ n ∧ n ≤ 6

theorem State.FansOrdered.sound {s : State} (h : s.FansOrdered) (hs : s.vent.Sound) : s.FansSound :=
  ⟨hs, h.confirms, fun _ hf => h.numbers _ (List.mem_map_of_mem hf)⟩

theorem State.FansSound.ordered {s : State} (h : s.FansSound) : s.FansOrdered :=
  ⟨((Ventilation.sound_iff _).mp h.1).1, h.2.1, fun _ hn => by
    obtain ⟨f, hf, rfl⟩ := List.mem_map.mp hn
    exact h.2.2 f hf⟩

theorem State.FansSound.of_same {s t : State} (h : s.FansSound) (hv : t.vent = s.vent)
    (hi : t.inputs.runConfirm.length = s.inputs.runConfirm.length) : t.FansSound := by
  rw [State.FansSound, hv, hi]
  exact h

/-- Fans in order beside inputs of the same number. -/
theorem State.FansSound.reordered {s t : State} (h : s.FansSound) (hv : t.vent.InOrder)
    (hn : t.vent.fans.map Fan.number = s.vent.fans.map Fan.number)
    (hi : t.inputs.runConfirm.length = s.inputs.runConfirm.length) : t.FansOrdered :=
  ⟨hv, hi.trans h.2.1, hn ▸ h.ordered.numbers⟩

/-- An allocation pass makes ordered fans sound (R37, R38). -/
theorem State.FansOrdered.allocate {s : State} (h : s.FansOrdered) : s.allocate.FansSound :=
  ⟨State.allocate_sound h.order, by simpa using h.confirms, fun f hf =>
    h.numbers _ (State.allocate_numbers h.order ▸ List.mem_map_of_mem hf)⟩

theorem State.FansSound.recompute {s : State} (h : s.FansSound) (b : Bool) : (s.recompute b).FansSound := by
  unfold State.recompute
  dsimp only
  split
  · refine State.FansOrdered.allocate (h.reordered (h.ordered.order.of_same rfl rfl rfl) rfl rfl)
  · exact h

theorem State.FansSound.endFanOverride {s : State} (h : s.FansSound) : s.endFanOverride.FansSound :=
  State.FansSound.recompute (s := s.setVent { s.vent with override := none }) h false

theorem State.FansSound.airSettled {s : State} (h : s.FansSound) (a : AirMonitor) : (s.airSettled a).FansSound := by
  unfold State.airSettled
  dsimp only
  split
  · exact State.FansSound.recompute (s := s.setAir a) h true
  · have halert : (s.setAir a).queueAlert.FansSound := h.of_same (by simp) (by simp)
    exact (halert.recompute true).of_same (by simp) (by simp)

theorem State.FansSound.airSample {s : State} (h : s.FansSound) : s.airSample.FansSound := h.airSettled _

theorem State.FansSound.roundEnds {s : State} (h : s.FansSound) : s.roundEnds.FansSound := by
  rcases s.roundEnds_cases with ⟨-, -, heq⟩ | ⟨-, heq⟩ <;> rw [heq]
  · exact h
  · exact h.airSample

theorem State.FansSound.afterPoll {s : State} (h : s.FansSound) (n : Nat) : (s.afterPoll n).FansSound := by
  unfold State.afterPoll
  split
  · exact h.of_same (by simp) (by simp)
  · exact State.FansSound.roundEnds (h.of_same (by simp) (by simp))

theorem State.FansSound.startRound {s : State} (h : s.FansSound) : s.startRound.FansSound := by
  have htimed : (s.setAir { s.air with roundTimer := some (seconds 1), poll := none }).FansSound := h
  rcases s.startRound_cases with ⟨-, heq⟩ | ⟨-, t, ht, heq⟩
  · exact heq ▸ htimed.afterPoll _
  · have hsample : t.FansSound := ht ▸ htimed.airSample
    rcases heq with heq | ⟨_, -, heq⟩ <;> rw [heq]
    · exact hsample
    · exact hsample.of_same (by simp) (by simp)

theorem State.FansSound.peersChanged {s : State} (h : s.FansSound) (slots : List (Option Peer)) (b : Bool) :
    (s.peersChanged slots b).FansSound := by
  have hchanged : ∀ p, (s.setPeers p).FansSound := fun _ => h
  unfold State.peersChanged
  dsimp only
  split <;> split
  · exact ((hchanged _).recompute false).of_same (State.guidanceTold_vent _ _ _) (by simp)
  · exact (hchanged _).of_same (State.guidanceTold_vent _ _ _) (by simp)
  · exact (hchanged _).recompute false
  · exact hchanged _

theorem State.FansSound.takeBulletin {s : State} (h : s.FansSound) (source : Byte) (b : Bulletin) :
    (s.takeBulletin source b).FansSound := by
  rcases s.takeBulletin_cases source b with ⟨n, heq⟩ | ⟨slots, -, -, -, -, heq⟩ <;> rw [heq]
  · exact h.of_same (by simp) (by simp)
  · exact (h.peersChanged slots (s.statusOfDrive source.toNat b)).of_same (by simp) (by simp)

/-- One fan changed within the lists, then a pass. -/
theorem State.FansSound.changeFan {s t : State} (h : s.FansSound) {n : Nat} {f : Fan} (hf : s.vent.fan? n = some f)
    {g : Fan → Fan} (hv : t.vent = s.vent.mapFan n g) (hi : t.inputs.runConfirm.length = s.inputs.runConfirm.length)
    (hnum : ∀ x, (g x).number = x.number) (hlegal : (g f).Legal)
    (hrun : (g f).state = .starting ∨ (g f).state = .running ↔ f.state = .starting ∨ f.state = .running)
    (hqueue : (g f).state = .queued ↔ f.state = .queued) (hstart : (g f).state = .starting → f.state = .starting) :
    t.FansOrdered := by
  obtain ⟨hmem, rfl⟩ := h.ordered.order.fan?_iff.mp hf
  refine h.reordered ?_ ?_ hi <;> rw [hv]
  · exact h.ordered.order.mapFan hmem hnum hlegal hrun hqueue hstart
  · exact map_number_map (fun x => by split <;> simp [hnum]) s.vent.fans

/-- One fan in FAULT or LOCKED_OUT, out of both lists. -/
theorem State.FansSound.takeOut {s t : State} (h : s.FansSound) {n : Nat} {f : Fan} (hf : s.vent.fan? n = some f)
    {st : FanState} (hv : t.vent = (s.vent.mapFan n (fun x => x.inState st)).dropFan n)
    (hi : t.inputs.runConfirm.length = s.inputs.runConfirm.length) (hst : st = .fault ∨ st = .lockedOut) :
    t.FansOrdered := by
  obtain ⟨hmem, rfl⟩ := h.ordered.order.fan?_iff.mp hf
  refine h.reordered ?_ ?_ hi <;> rw [hv]
  · exact h.ordered.order.takeOut hmem hst
  · rw [Ventilation.dropFan_fans]
    exact map_number_map (fun x => by split <;> rfl) s.vent.fans

theorem CommandEffect.fansSound {s t : State} {code : Nat} (e : CommandEffect s code t) (h : s.FansSound) :
    t.FansSound := by
  cases e with
  | overrideSet o => exact State.FansSound.recompute (s := s.setVent { s.vent with override := some o }) h false
  | overrideCleared => exact h.endFanOverride
  | lockedOut n f hf =>
    refine State.FansOrdered.allocate ?_
    exact h.takeOut hf rfl rfl (.inr rfl)
  | returned _ n f hf hst =>
    have hfrom : f.state = .lockedOut ∨ f.state = .fault := hst.imp And.right And.right
    refine State.FansOrdered.allocate ?_
    refine h.changeFan hf rfl rfl (fun _ => rfl) (f.toStopping_legal _) ?_ ?_ ?_ <;>
      rcases hfrom with hs | hs <;> simp [hs, Fan.toStopping, Fan.inState]
  | _ => exact h.of_same (by simp) (by simp)

/-- No fan, both lists empty (R23). -/
theorem Ventilation.afterReset_sound : Ventilation.afterReset.Sound := by decide

theorem State.FansSound.afterReset {s : State} (h : s.FansSound) (st : Station) (u : StartUp) (k : Counters) :
    (s.afterReset st u k).FansSound :=
  ⟨Ventilation.afterReset_sound, by simp [State.afterReset, Inputs.afterReset, h.2.1], by
    simp [State.afterReset, Ventilation.afterReset]⟩

theorem ServiceEffect.fansSound {s t : State} {code : Nat} (e : ServiceEffect s code t) (h : s.FansSound) :
    t.FansSound := by
  cases e with
  | unanswered _ _ e => exact e.fansSound h
  | answered _ _ _ e => exact (e.fansSound h).of_same (by simp) (by simp)
  | restartAnswered _ _ _ _ _ _ ht => exact h.of_same (by simp [ht]) (by simp [ht])
  | restarted => exact h.afterReset _ _ _
  | _ => exact h.of_same (by simp) (by simp)

theorem FrameEffect.fansSound {s t : State} {codes : Nat → Prop} (e : FrameEffect s codes t) (h : s.FansSound) :
    t.FansSound := by
  have haccepted : s.frameAccepted.FansSound := h.of_same (by simp) (by simp)
  cases e with
  | bulletin _ source b => exact haccepted.takeBulletin source b
  | service _ _ _ e => exact e.fansSound haccepted
  | _ => exact h.of_same (by simp) (by simp)

/-- Fans just configured stand in no list: each is STOPPING (R49). -/
theorem Ventilation.fresh_inOrder {c : Settings} (h : Ascending c.fans) {v : Ventilation}
    (hf : v.fans = (Ventilation.fresh c).fans) (hr : v.runList = []) (hq : v.startQueue = []) : v.InOrder := by
  have hnumbers : v.fans.map Fan.number = c.fans := by
    rw [hf, Ventilation.fresh, List.map_map]
    exact List.map_id _
  have hstopping : ∀ f ∈ v.fans, f.state = .stopping ∧ f.Legal := by
    rw [hf]
    simp only [Ventilation.fresh, List.mem_map, forall_exists_index, and_imp, forall_apply_eq_imp_iff₂]
    exact fun n _ => ⟨trivial, by simp [Fan.Legal]⟩
  refine ⟨hnumbers ▸ h, fun f hf => (hstopping f hf).2, hr ▸ List.nodup_nil, hq ▸ List.nodup_nil, by simp [hr],
    by simp [hq], fun f hf => ?_, fun f hf => ?_, fun f hf _ _ hs => ?_⟩
  · simp [hr, (hstopping f hf).1]
  · simp [hq, (hstopping f hf).1]
  · rw [(hstopping f hf).1] at hs
    cases hs

theorem Ventilation.fresh_numbers (c : Settings) : (Ventilation.fresh c).fans.map Fan.number = c.fans := by
  rw [Ventilation.fresh, List.map_map]
  exact List.map_id _

theorem State.ventilationListens_fansSound {s : State} (hasc : Ascending s.settings.fans)
    (hrange : ∀ n ∈ s.settings.fans, 1 ≤ n ∧ n ≤ 6) (hi : s.inputs.runConfirm.length = 6) :
    s.ventilationListens.FansSound :=
  State.FansOrdered.allocate ⟨Ventilation.fresh_inOrder hasc rfl rfl rfl, hi,
    fun n hn => hrange n (Ventilation.fresh_numbers s.settings ▸ hn)⟩

/-- The entry to LISTENING before the Ventilation Controller begins: settings, filters, fresh heads and peers (R176). -/
def State.listeningBegins (s : State) (image : List Byte) (c : Settings) (k : Nat) : State :=
  let listening := (s.setStation .listening).setSettings c
  let started := listening.setStartup { s.startup with
    readTimer := none, listeningTimer := some (seconds (2 * c.sweepInterval)), image := image
    clampedCount := min 255 k }
  let filtered := started.setInputs { s.inputs with
    outerLoops := s.inputs.outerLoops.map FilteredInput.afterReset
    innerLoops := s.inputs.innerLoops.map FilteredInput.afterReset
    motion := s.inputs.motion.map FilteredInput.afterReset }
  let heads := filtered.setAir (.fresh c)
  heads.peersListen

/-- A sign as LISTENING begins with it: BLANK and due (R102, R107). -/
def Sign.fresh (g : SignSettings) : Sign :=
  { settings := g, image := .blank, due := true, refresh := some 5000, misses := 0, faultMark := false, lastStatus := none }

/-- From fresh fans to fresh channels, before the first STATUS is queued and the first round starts (R176). -/
def State.listeningBlocks (u : State) (c : Settings) : State :=
  let bays := u.ventilationListens.baysListen
  let lights := (bays.setGuide { bays.guide with signs := c.signs.map Sign.fresh }).formImages.lightingListens
  lights.setBus { lights.bus with jitter := c.ownAddress % 16, periodTimer := some (seconds c.statusPeriod) }

theorem State.enterListening_eq (s : State) (image : List Byte) (c : Settings) (k : Nat) :
    s.enterListening image c k = ((s.listeningBegins image c k).listeningBlocks c).queueStatus.startRound := by
  unfold State.enterListening State.listeningBlocks State.listeningBegins Sign.fresh
  with_reducible rfl

theorem State.listeningBegins_settings (s : State) (image : List Byte) (c : Settings) (k : Nat) :
    (s.listeningBegins image c k).settings = c := by
  simp [State.listeningBegins]

theorem State.listeningBegins_runConfirm (s : State) (image : List Byte) (c : Settings) (k : Nat) :
    (s.listeningBegins image c k).inputs.runConfirm = s.inputs.runConfirm := by
  simp [State.listeningBegins]

theorem State.listeningBlocks_vent (u : State) (c : Settings) :
    (u.listeningBlocks c).vent = u.ventilationListens.vent := by
  simp [State.listeningBlocks]

theorem State.listeningBlocks_inputs (u : State) (c : Settings) : (u.listeningBlocks c).inputs = u.inputs := by
  simp [State.listeningBlocks]

theorem State.FansSound.enterListening {s : State} (h : s.FansSound) (image r : List Byte) (k : Nat) :
    (s.enterListening image (settingsOfRecord r).value k).FansSound := by
  obtain ⟨hrange, hasc, -⟩ := settingsOfRecord_fansLegal r
  have hfans : (s.listeningBegins image (settingsOfRecord r).value k).ventilationListens.FansSound := by
    refine State.ventilationListens_fansSound ?_ ?_ ?_
    · rwa [State.listeningBegins_settings]
    · rwa [State.listeningBegins_settings]
    · rw [State.listeningBegins_runConfirm, h.2.1]
  rw [State.enterListening_eq]
  refine State.FansSound.startRound (hfans.of_same ?_ ?_)
  · rw [State.queueStatus_vent, State.listeningBlocks_vent]
  · rw [State.queueStatus_inputs, State.listeningBlocks_inputs, State.ventilationListens_inputs]

theorem State.FansSound.enterFallback {s : State} (h : s.FansSound) : s.enterFallback.FansSound := by
  unfold State.enterFallback State.ventilationFallsBack
  refine State.FansOrdered.allocate ⟨Ventilation.fresh_inOrder (c := .fallback) (by decide) rfl rfl rfl, h.2.1, ?_⟩
  simp [Ventilation.fresh, Settings.fallback]

theorem Effect.fansSound {s t : State} {c : Instr} (e : Effect s c t) (h : s.FansSound) : t.FansSound := by
  cases e with
  | reset => exact h.afterReset _ _ _
  | listens => exact h.enterListening _ _ _
  | fallsBack => exact h.enterFallback
  | roundStarts => exact h.startRound
  | headAnswers => exact State.FansSound.afterPoll (h.of_same (by simp) (by simp)) _
  | headMisses => exact State.FansSound.afterPoll (h.of_same (by simp) (by simp)) _
  | sampled => exact h.airSample
  | purgeWorking _ v _ taken ht =>
    have halert : taken.queueAlert.FansSound := h.of_same (by simp [ht]) (by simp [ht])
    exact (halert.recompute false).of_same (by simp) (by simp)
  | purgeResting _ _ _ _ _ ht => exact h.of_same (by simp [ht]) (by simp [ht])
  | confirmStarts _ n f hf hs =>
    refine State.FansOrdered.allocate ?_
    exact h.changeFan hf rfl (by simp) (fun _ => rfl) (f.inState_legal (by decide)) (by simp [hs, Fan.inState])
      (by simp [hs, Fan.inState]) (by simp [Fan.inState])
  | lossSet _ _ n v l f hf hs =>
    obtain ⟨hmem, rfl⟩ := h.ordered.order.fan?_iff.mp hf
    have hlegal : Fan.Legal { f with loss := l } := by
      obtain ⟨hconfirm, hfallback, -, hcoast⟩ := h.ordered.order.legal f hmem
      exact ⟨hconfirm, hfallback, fun _ => hs, hcoast⟩
    refine State.FansOrdered.sound ?_ ?_
    · exact h.changeFan hf rfl (by simp) (fun _ => rfl) hlegal Iff.rfl Iff.rfl id
    · rw [Ventilation.sound_iff]
      refine ⟨h.ordered.order.mapFan hmem (fun _ => rfl) hlegal Iff.rfl Iff.rfl id, ?_⟩
      change _ ≤ plannedCount s.vent.commanded (s.vent.mapFan f.number (fun x => { x with loss := l })).healthyCount
      rw [h.ordered.order.healthyCount_mapFan hmem rfl]
      exact h.1.2
  | fanFails _ _ n _ f hf =>
    refine State.FansOrdered.allocate ?_
    exact h.takeOut hf rfl rfl (.inl rfl)
  | fallbackStarts _ n f hf hs =>
    refine State.FansOrdered.allocate ?_
    exact h.changeFan hf rfl rfl (fun _ => rfl) (f.inState_legal (by decide)) (by simp [hs, Fan.inState])
      (by simp [hs, Fan.inState]) (by simp [Fan.inState])
  | coasted _ n f hf hs =>
    refine State.FansOrdered.allocate ?_
    exact h.changeFan hf rfl rfl (fun _ => rfl) (f.inState_legal (by decide)) (by simp [hs, Fan.inState])
      (by simp [hs, Fan.inState]) (by simp [Fan.inState])
  | overrideExpires => exact h.endFanOverride
  | loopMoves _ _ loop _ g _ _ inputs hin next _ moved ht =>
    have hmoved : moved.FansSound := h.of_same (by simp [ht]) (by cases loop <;> simp [ht, hin, Inputs.takeLoop])
    cases next.2 with
    | none => exact hmoved
    | some p => exact hmoved.of_same (by simp) (by simp)
  | swept =>
    refine State.FansSound.peersChanged ?_ _ _
    exact h
  | motionStarts _ _ _ ht => exact h.of_same (by simp [ht]) (by simp [ht])
  | motionEnds _ _ _ ht => exact h.of_same (by simp [ht]) (by simp [ht])
  | droppedRestarts => exact State.FansSound.afterReset (h.of_same rfl rfl) _ _ _
  | sentRestarts => exact State.FansSound.afterReset (h.of_same rfl rfl) _ _ _
  | idles _ idle hidle _ ht => rcases ht with rfl | rfl <;> exact h.of_same (by simp [hidle]) (by simp [hidle])
  | idleSelects _ _ idle hidle _ ht => rcases ht with rfl | rfl <;> exact h.of_same (by simp [hidle]) (by simp [hidle])
  | frame _ _ _ e => exact e.fansSound h
  | _ => exact h.of_same (by simp) (by simp)

/-- A tick runs the timers of the fans and of the override, and touches nothing else of them. -/
theorem Ventilation.Sound.tick {v : Ventilation} (h : v.Sound) : v.tick.Sound := by
  obtain ⟨horder, hplan⟩ := (Ventilation.sound_iff v).mp h
  rw [Ventilation.sound_iff]
  refine ⟨?_, ?_⟩
  · refine horder.mapped (g := Fan.tick) rfl (fun _ => rfl) (fun f hf => ?_) horder.runNodup horder.queueNodup
      horder.runFans horder.queueFans horder.run horder.queue horder.single
    obtain ⟨hconfirm, hfallback, hloss, hcoast⟩ := horder.legal f hf
    exact ⟨by simpa [Fan.tick] using hconfirm, by simpa [Fan.tick] using hfallback, by simpa [Fan.tick] using hloss,
      by simpa [Fan.tick] using hcoast⟩
  · have hhealthy : v.tick.healthyCount = v.healthyCount := Ventilation.healthyCount_map rfl fun _ _ => rfl
    rw [Ventilation.plan, hhealthy]
    exact hplan

theorem State.FansSound.tick {s : State} (h : s.FansSound) : s.tick.FansSound := by
  unfold State.tick
  split
  · exact h
  · refine State.FansOrdered.sound (h.reordered ?_ ?_ ?_) h.1.tick
    · exact ((Ventilation.sound_iff _).mp h.1.tick).1
    · exact map_number_map (g := Fan.tick) (fun _ => rfl) s.vent.fans
    · unfold Inputs.tick
      split <;> simp

/-- Settles O58: each effect keeps the fans in order, and each that touches them ends in an allocation pass. -/
theorem stepKeepsFansSound : Obligations.StepKeepsFansSound := fun _ _ hstep h =>
  step_keeps (I := State.FansSound) (fun _ _ h => h.of_same rfl rfl) (fun _ h => h.tick)
    (fun _ _ _ e h => e.fansSound h) hstep h

end Sys2Proof.Machine
end

section
/-! PROOFS. What an allocation pass comes to (R36..R40, R47), and the commands and expiries that end in one. -/

namespace Sys2Proof.Machine

/-! ### What a command leaves alone -/

/-- Part by part, from the changed state to the one before. -/
theorem onlyChanges_iff {parts : List Block} {s t : State} : OnlyChanges parts s t ↔
    (.station ∉ parts → t.station = s.station) ∧ (.settings ∉ parts → t.settings = s.settings) ∧
      (.startup ∉ parts → t.startup = s.startup) ∧ (.inputs ∉ parts → t.inputs = s.inputs) ∧
      (.air ∉ parts → t.air = s.air) ∧ (.vent ∉ parts → t.vent = s.vent) ∧ (.bays ∉ parts → t.bays = s.bays) ∧
      (.peers ∉ parts → t.peers = s.peers) ∧ (.guide ∉ parts → t.guide = s.guide) ∧
      (.light ∉ parts → t.light = s.light) ∧ (.bus ∉ parts → t.bus = s.bus) ∧
      (.counters ∉ parts → t.counters = s.counters) ∧ (.pending ∉ parts → t.pending = s.pending) := by
  simp only [OnlyChanges, Block.all, List.forall_mem_cons, List.not_mem_nil, Block.same, decide_eq_true_eq,
    false_implies, implies_true, and_true]
  simp only [eq_comm]

/-! ### An allocation pass, fan by fan -/

/-- From one controller to another the plan was made with the fans chosen, starts and confirmations followed, and the
pass was finished. -/
structure Ventilation.Allocated (c : Settings) (v w : Ventilation) : Prop where
  order : w.InOrder
  lists : w.runList ++ w.startQueue = v.runList.take v.plan ++ v.startQueue.take (v.plan - v.runList.length) ++
    v.available.take (v.plan - (v.runList.length + v.startQueue.length))
  run : v.runList.take v.plan <+: w.runList
  numbers : w.fans.map Fan.number = v.fans.map Fan.number
  healthy : w.healthyCount = v.healthyCount
  demand : w.SameDemand v
  duty : w.dutyPointer = if v.runList ≠ [] ∧ v.plan = 0 then v.nextDuty else v.dutyPointer
  full : w.runList.length + w.startQueue.length ≤ v.plan
  short : w.runList.length + w.startQueue.length < v.plan → ∀ f ∈ w.fans, f.state ≠ .stopped
  waits : w.startQueue ≠ [] → ∃ f ∈ w.fans, f.state = .starting
  stopping : ∀ f ∈ v.fans, f.number ∈ v.runList.drop v.plan → f.toStopping c ∈ w.fans
  stopped : ∀ f ∈ v.fans, f.number ∈ v.startQueue.drop (v.plan - v.runList.length) → f.inState .stopped ∈ w.fans
  idle : ∀ f ∈ v.fans, f.number ∉ v.runList → f.number ∉ v.startQueue →
    f.number ∉ v.available.take (v.plan - (v.runList.length + v.startQueue.length)) → f ∈ w.fans
  running : ∀ f ∈ v.fans, f.state = .running → f.number ∈ v.runList.take v.plan → f ∈ w.fans
  speed : w.runList ≠ [] → w.speed = clampTo c.minSpeed 100 (ceilDiv (v.commanded * v.healthyCount) w.runList.length)
  degraded : w.ventDegraded = decide (v.healthyCount < v.fans.length)
  lost : w.ventLost = (decide (v.healthyCount = 0) && decide (v.fans ≠ []))

theorem State.allocate_allocated {s : State} (h : s.vent.InOrder) : s.vent.Allocated s.settings s.allocate.vent := by
  obtain ⟨w, hw, hwaits, heq⟩ := State.allocate_passes h
  have hplans := h.plans s.settings
  have hlength : w.fans.length = s.vent.fans.length := by
    simpa using congrArg List.length (hw.numbers.trans hplans.numbers)
  have hhealthy : w.healthyCount = s.vent.healthyCount := hw.healthy.trans hplans.healthy
  have hdemand : w.SameDemand s.vent := hw.demand.trans hplans.demand
  rw [heq]
  constructor
  case order => exact hw.order.finishPass _
  case lists =>
    refine hw.lists.trans ?_
    rw [hplans.runList, hplans.startQueue, List.append_assoc]
  case run => exact hplans.runList ▸ hw.run
  case numbers => exact hw.numbers.trans hplans.numbers
  case healthy => exact hhealthy
  case demand => exact ⟨hdemand.floor, hdemand.demand, hdemand.commanded, hdemand.override⟩
  case duty => exact hw.duty.trans hplans.duty
  case full => exact hw.length_eq.le.trans hplans.full
  case short =>
    intro hlt f hf hs
    exact hplans.short (hw.length_eq ▸ hlt) f (hw.stopped f hf hs) hs
  case waits => exact hwaits
  case stopping =>
    intro f hf hk
    exact hw.kept _ (hplans.stopping f hf hk) (by simp [Fan.toStopping, Fan.inState]) (by simp [Fan.toStopping, Fan.inState])
  case stopped =>
    intro f hf hk
    exact hw.kept _ (hplans.stopped f hf hk) (by simp [Fan.inState]) (by simp [Fan.inState])
  case idle =>
    intro f hf hr hq hc
    have hin := hplans.kept f hf (fun hd => hr (List.mem_of_mem_drop hd)) (fun hd => hq (List.mem_of_mem_drop hd)) hc
    exact hw.kept f hin (fun hs => hq ((h.queue f hf).mpr hs)) fun hs => hr ((h.run f hf).mpr (.inl hs))
  case running =>
    intro f hf hs hk
    have hrun := (h.run f hf).mpr (.inr hs)
    have hqueue := h.disjoint hrun
    have hc : f.number ∉ s.vent.available.take (s.vent.plan - (s.vent.runList.length + s.vent.startQueue.length)) :=
      fun hc => by simp [(h.mem_available hf).mp (List.mem_of_mem_take hc)] at hs
    have hin := hplans.kept f hf ((mem_take_iff h.runNodup).mp hk).2 (fun hd => hqueue (List.mem_of_mem_drop hd)) hc
    exact hw.kept f hin (by simp [hs]) (by simp [hs])
  case speed =>
    intro hne
    have hpos : w.runList.length ≠ 0 := fun hz => hne (List.eq_nil_of_length_eq_zero hz)
    simp [Ventilation.finishPass, hpos, fanSpeed, hhealthy, hdemand.commanded]
  case degraded => simp [Ventilation.finishPass, hhealthy, hlength]
  case lost => simp [Ventilation.finishPass, hhealthy, hlength, List.length_pos_iff]

namespace Ventilation.Allocated

variable {c : Settings} {v w : Ventilation}

theorem sound (h : v.Allocated c w) : w.Sound := by
  rw [Ventilation.sound_iff]
  refine ⟨h.order, ?_⟩
  rw [Ventilation.plan, h.healthy, h.demand.commanded]
  exact h.full

/-- The record of a fan that stands in no list and is not chosen is the one it was. -/
theorem fan?_idle (h : v.Allocated c w) {f : Fan} (hf : f ∈ v.fans) (hr : f.number ∉ v.runList)
    (hq : f.number ∉ v.startQueue)
    (hc : f.number ∉ v.available.take (v.plan - (v.runList.length + v.startQueue.length))) :
    w.fan? f.number = some f :=
  h.order.fan?_iff.mpr ⟨h.idle f hf hr hq hc, rfl⟩

/-- A fan that neither runs nor waits nor is STOPPED keeps its record. -/
theorem fan?_kept (h : v.Allocated c w) (hv : v.InOrder) {f : Fan} (hf : f ∈ v.fans)
    (hs : f.state = .stopping ∨ f.state = .fault ∨ f.state = .lockedOut) : w.fan? f.number = some f := by
  refine h.fan?_idle hf ?_ ?_ fun hc => ?_
  · rw [hv.run f hf]
    rcases hs with hs | hs | hs <;> simp [hs]
  · rw [hv.queue f hf]
    rcases hs with hs | hs | hs <;> simp [hs]
  · have hstopped := (hv.mem_available hf).mp (List.mem_of_mem_take hc)
    rcases hs with hs | hs | hs <;> simp [hs] at hstopped

end Ventilation.Allocated

/-- The output of a fan follows the run list (R34, R36). -/
theorem Ventilation.InOrder.output_eq {v : Ventilation} (h : v.InOrder) {f : Fan} (hf : f ∈ v.fans) :
    v.output f = if f.number ∈ v.runList then v.speed else 0 := by
  rw [Ventilation.output]
  by_cases hin : f.number ∈ v.runList
  · rw [if_pos hin]
    rcases (h.run f hf).mp hin with hs | hs <;> rw [hs]
  · rw [if_neg hin]
    have hno := hin ∘ (h.run f hf).mpr
    cases hs : f.state <;> simp_all

/-- The output of a fan number; one not configured stands in no list (R23, R34). -/
theorem Ventilation.InOrder.outputOf_eq {v : Ventilation} (h : v.InOrder) (k : Nat) :
    v.outputOf k = if k ∈ v.runList then v.speed else 0 := by
  unfold Ventilation.outputOf
  split
  · rename_i f hf
    obtain ⟨hmem, rfl⟩ := h.fan?_iff.mp hf
    exact h.output_eq hmem
  · rename_i hnone
    rw [if_neg]
    intro hin
    obtain ⟨f, hf, rfl⟩ := List.mem_map.mp (h.runFans k hin)
    rw [h.fan?_iff.mpr ⟨hf, rfl⟩] at hnone
    cases hnone

theorem Fan.toStopping_eq (f : Fan) (c : Settings) : f.toStopping c =
    { number := f.number, state := .stopping, confirm := none, fallbackStart := none, loss := none
      coast := some (1000 * c.coastTime) } := by
  simp [Fan.toStopping, Fan.inState, seconds, Nat.mul_comm]

/-- Settles O23: the plan, then starts and confirmations, fan by fan. -/
theorem allocationMeetsThePlan : Obligations.AllocationMeetsThePlan := by
  rintro s n k chosen hordered rfl rfl
  have horder := s.vent.ordered_iff.mp hordered
  have h := State.allocate_allocated horder
  refine ⟨h.lists, h.run, fun f hf => ⟨fun hk => ?_, fun hk => ?_, fun hr hq hc => h.idle f hf hr hq hc,
    fun hs hk => h.running f hf hs hk⟩, h.numbers, h.duty, h.order.outputOf_eq k, h.sound, h.demand.commanded, h.healthy,
    h.short, h.waits, h.speed, fun f hf => h.order.output_eq hf, h.degraded, h.lost⟩
  · exact h.order.fan?_iff.mpr ⟨f.toStopping_eq s.settings ▸ h.stopping f hf hk, rfl⟩
  · exact h.order.fan?_iff.mpr ⟨h.stopped f hf hk, rfl⟩

/-! ### RUN_CONFIRM changes and the FALLBACK start (R35, R41, R42) -/

theorem takeAt_of_some {l : List FilteredInput} {n : Nat} {i : FilteredInput} (h : inputAt? l n = some i) (v : Bool) :
    takeAt l n v = l.set (n - 1) { line := v, filtered := v, steadyMs := 0 } := by
  simp [takeAt, h, FilteredInput.take]

/-- The state once a run-confirm change is kept. -/
def State.confirmTaken (s : State) (n : Nat) (v : Bool) : State :=
  s.setInputs { s.inputs with runConfirm := takeAt s.inputs.runConfirm n v }

theorem State.confirmTaken_inputs {s : State} {n : Nat} {i : FilteredInput} (h : inputAt? s.inputs.runConfirm n = some i)
    (v : Bool) : (s.confirmTaken n v).inputs = { s.inputs with
      runConfirm := s.inputs.runConfirm.set (n - 1) { line := v, filtered := v, steadyMs := 0 } } := by
  simp [State.confirmTaken, takeAt_of_some h]

theorem exec_runConfirmActive_kept {s : State} {n : Nat} {i : FilteredInput} (hst : s.station ≠ .heldInReset)
    (hi : inputAt? s.inputs.runConfirm n = some i) (hf : i.filtered = false)
    (hkept : s.working = false ∨
      (s.vent.fan? n).all (fun x => decide (x.state ≠ .starting ∧ x.state ≠ .running)) = true) :
    exec (.runConfirmActive n) s = .next (s.confirmTaken n true) := by
  change execRunConfirmActive n s = _
  simp only [execRunConfirmActive, hst, decide_false, hi, hf, Bool.false_eq_true, if_false]
  split
  · rename_i f hw hfan
    simp only [hw, Bool.true_eq_false, hfan, Option.all_some, decide_eq_true_eq, false_or] at hkept
    simp only [hkept.1, hkept.2, if_false]
    rfl
  · rfl

theorem exec_runConfirmLost_kept {s : State} {n : Nat} {i : FilteredInput} (hst : s.station ≠ .heldInReset)
    (hi : inputAt? s.inputs.runConfirm n = some i) (hf : i.filtered = true)
    (hkept : s.working = false ∨ (s.vent.fan? n).all (fun x => decide (x.state ≠ .running)) = true) :
    exec (.runConfirmLost n) s = .next (s.confirmTaken n false) := by
  change execRunConfirmLost n s = _
  simp only [execRunConfirmLost, hst, decide_false, hi, hf, if_true]
  split
  · rename_i f hw hfan
    simp only [hw, Bool.true_eq_false, hfan, Option.all_some, decide_eq_true_eq, false_or] at hkept
    simp only [hkept, if_false]
    rfl
  · rfl

theorem State.working_not_held {s : State} (h : s.working = true) : s.station ≠ .heldInReset := by
  intro hst
  simp [State.working, hst] at h

theorem exec_runConfirmActive_starting {s : State} {n : Nat} {f : Fan} {i : FilteredInput} (hf : s.vent.fan? n = some f)
    (hw : s.working = true) (hi : inputAt? s.inputs.runConfirm n = some i) (hoff : i.filtered = false)
    (hs : f.state = .starting) : exec (.runConfirmActive n) s =
      .next ((s.confirmTaken n true).setVent (s.vent.mapFan n (fun x => x.inState .running))).allocate := by
  change execRunConfirmActive n s = _
  simp [execRunConfirmActive, State.working_not_held hw, hi, hoff, hw, hf, hs, State.confirmTaken]

theorem exec_runConfirmActive_running {s : State} {n : Nat} {f : Fan} {i : FilteredInput} (hf : s.vent.fan? n = some f)
    (hw : s.working = true) (hi : inputAt? s.inputs.runConfirm n = some i) (hoff : i.filtered = false)
    (hs : f.state = .running) : exec (.runConfirmActive n) s =
      .next ((s.confirmTaken n true).setVent (s.vent.mapFan n (fun x => { x with loss := none }))) := by
  change execRunConfirmActive n s = _
  simp [execRunConfirmActive, State.working_not_held hw, hi, hoff, hw, hf, hs, State.confirmTaken]

theorem exec_runConfirmLost_running {s : State} {n : Nat} {f : Fan} {i : FilteredInput} (hf : s.vent.fan? n = some f)
    (hw : s.working = true) (hi : inputAt? s.inputs.runConfirm n = some i) (hon : i.filtered = true)
    (hs : f.state = .running) : exec (.runConfirmLost n) s =
      .next ((s.confirmTaken n false).setVent (s.vent.mapFan n (fun x => { x with loss := some 2000 }))) := by
  change execRunConfirmLost n s = _
  simp [execRunConfirmLost, State.working_not_held hw, hi, hon, hw, hf, hs, State.confirmTaken, seconds]

/-- A STARTING fan made RUNNING keeps its place in the run list through the pass that follows: as many run and wait as
before, and the plan is the same (R41). -/
theorem State.started_allocate {s u : State} (h : s.vent.Sound) {n : Nat} {f : Fan} (hf : s.vent.fan? n = some f)
    (hs : f.state = .starting) (hu : u.vent = s.vent.mapFan n (fun x => x.inState .running)) :
    (u.allocate.vent.fan? n).map Fan.state = some .running ∧ n ∈ u.allocate.vent.runList ∧ u.allocate.vent.Sound := by
  obtain ⟨horder, hplan⟩ := (Ventilation.sound_iff _).mp h
  obtain ⟨hmem, rfl⟩ := horder.fan?_iff.mp hf
  have hconfirm := (horder.confirm hmem hs).1
  have hu' : u.vent.InOrder := hu ▸ hconfirm.order
  have halloc := State.allocate_allocated hu'
  have hfan : f.inState .running ∈ u.vent.fans := by
    rw [hu]
    exact List.mem_map.mpr ⟨f, hmem, if_pos rfl⟩
  have hlength : u.vent.runList.length ≤ u.vent.plan := by
    have hlists := hconfirm.length_eq
    rw [hu, hconfirm.plan_eq]
    omega
  have hin : f.number ∈ u.vent.runList.take u.vent.plan := by
    rw [List.take_of_length_le hlength]
    exact (hu'.run _ hfan).mpr (.inr rfl)
  have hrunning := halloc.running _ hfan rfl hin
  refine ⟨?_, halloc.run.subset hin, halloc.sound⟩
  exact congrArg (Option.map Fan.state) (halloc.order.fan?_iff.mpr ⟨hrunning, rfl⟩)

/-- Settles O21: in which fan and station states a change acts, and that a fan made RUNNING stays in the run list. -/
theorem confirmedFanRuns : Obligations.ConfirmedFanRuns := by
  intro s n f i
  refine ⟨fun hst hi => ⟨fun hkept hoff => ?_, fun hkept hon => ?_⟩, fun hf hw hi hoff hs hsound => ?_,
    fun hf hw hi hoff hs => ?_, fun hf hw hi hon hs => ?_, fun hf hst hs hstart hsound => ?_⟩
  · refine ⟨_, exec_runConfirmActive_kept hst hi hoff hkept, State.confirmTaken_inputs hi _, ?_⟩
    simp [onlyChanges_iff, State.confirmTaken]
  · refine ⟨_, exec_runConfirmLost_kept hst hi hon hkept, State.confirmTaken_inputs hi _, ?_⟩
    simp [onlyChanges_iff, State.confirmTaken]
  · obtain ⟨hrunning, hin, hafter⟩ := State.started_allocate
      (u := (s.confirmTaken n true).setVent (s.vent.mapFan n (fun x => x.inState .running))) hsound hf hs rfl
    refine ⟨_, exec_runConfirmActive_starting hf hw hi hoff hs, ?_, hrunning, hin, hafter, ?_⟩
    · rw [State.allocate_inputs]
      exact State.confirmTaken_inputs hi _
    · simp [onlyChanges_iff, State.confirmTaken]
  · refine ⟨_, exec_runConfirmActive_running hf hw hi hoff hs, State.confirmTaken_inputs hi _, rfl, ?_⟩
    simp [onlyChanges_iff, State.confirmTaken]
  · refine ⟨_, exec_runConfirmLost_running hf hw hi hon hs, State.confirmTaken_inputs hi _, rfl, ?_⟩
    simp [onlyChanges_iff, State.confirmTaken]
  · obtain ⟨hrunning, hin, hafter⟩ := State.started_allocate
      (u := s.setVent (s.vent.mapFan n (fun x => x.inState .running))) hsound hf hs rfl
    have hexec : exec (.fallbackStartTimerExpiry n) s =
        .next (s.setVent (s.vent.mapFan n (fun x => x.inState .running))).allocate := by
      change execFallbackStartTimerExpiry n s = _
      simp [execFallbackStartTimerExpiry, hst, hf, hs, hstart]
    refine ⟨_, hexec, hrunning, hin, hafter, ?_⟩
    simp [onlyChanges_iff]

/-! ### Fans in FAULT, fans locked out, fans at rest (R41..R46) -/

/-- A healthy fan that leaves the lists and is no longer healthy is one healthy fan fewer. -/
theorem Ventilation.InOrder.healthyCount_lost {v : Ventilation} (h : v.InOrder) {f : Fan} (hf : f ∈ v.fans)
    (hs : f.healthy = true) {g : Fan → Fan} (hg : (g f).healthy = false) :
    (v.mapFan f.number g).healthyCount = v.healthyCount - 1 := by
  have hothers : ∀ x ∈ v.fans, x.number = f.number → x = f := fun x hx => eq_of_key h.nodup hx hf
  have hcount : ∀ l : List Fan, (∀ x ∈ l, x.number = f.number → x = f) → (l.map Fan.number).Nodup →
      ((l.map (fun x => if x.number = f.number then g x else x)).filter Fan.healthy).length =
        (l.filter Fan.healthy).length - if f ∈ l then 1 else 0 := by
    intro l
    induction l with
    | nil => intros; rfl
    | cons x xs ih =>
      intro hone hnodup
      rw [List.map_cons, List.nodup_cons] at hnodup
      have hrest := ih (fun y hy => hone y (List.mem_cons_of_mem _ hy)) hnodup.2
      by_cases hx : x.number = f.number
      · obtain rfl := hone x (by simp) hx
        have hout : x ∉ xs := fun hin => hnodup.1 (List.mem_map_of_mem hin)
        simp only [hout, if_false, Nat.sub_zero] at hrest
        simp [hg, hs, hrest]
      · have hne : f ≠ x := fun heq => hx (heq ▸ rfl)
        simp only [List.map_cons, hx, if_false, List.mem_cons, hne, false_or]
        cases hxh : x.healthy
        · simpa [hxh] using hrest
        · simp only [hxh, List.filter_cons_of_pos, List.length_cons, hrest]
          split
          · have hpos : 0 < (xs.filter Fan.healthy).length :=
              List.length_pos_of_mem (List.mem_filter.mpr ⟨‹f ∈ xs›, hs⟩)
            omega
          · rfl
  have hall := hcount v.fans hothers h.nodup
  rw [if_pos hf] at hall
  exact hall

theorem Ventilation.dropFan_dutyPointer {v w : Ventilation} (h : v.InOrder) {n : Nat}
    (hr : w.runList = v.runList) (hnum : w.fans.map Fan.number = v.fans.map Fan.number)
    (hd : w.dutyPointer = v.dutyPointer) :
    (w.dropFan n).dutyPointer = if v.runList = [n] then v.nextDuty else v.dutyPointer := by
  have hnext : Ventilation.nextDuty { w with startQueue := w.startQueue.filter (fun k => k ≠ n) } = v.nextDuty :=
    Ventilation.nextDuty_congr hnum hd
  rw [Ventilation.dropFan, Ventilation.setRunList_dutyPointer, hnext, hr, hd]
  refine if_congr ?_ rfl rfl
  constructor
  · rintro ⟨hne, hnil⟩
    have hall : ∀ k ∈ v.runList, k = n := by simpa [List.filter_eq_nil_iff] using hnil
    match hl : v.runList with
    | [] => exact absurd hl hne
    | [k] => rw [hall k (by simp [hl])]
    | a :: b :: rest =>
      have hnodup := h.runNodup
      rw [hl, List.nodup_cons] at hnodup
      exact absurd ((hall a (by simp [hl])).trans (hall b (by simp [hl])).symm) fun hab => hnodup.1 (by simp [hab])
  · intro hl
    simp [hl]

/-- A pass plans for a fan as long as there is a demand and a healthy fan (R36). -/
theorem plannedCount_pos {commanded healthy : Nat} (hc : commanded ≠ 0) (hh : healthy ≠ 0) :
    plannedCount commanded healthy ≠ 0 := by
  have hprod : 0 < commanded * healthy := Nat.mul_pos (by omega) (by omega)
  simp only [plannedCount, hc, hh, or_self, if_false, ceilDiv]
  omega

/-- A fan taken out of the lists, and the pass that follows: it stays out, its record stays, and the duty pointer moves
once at most (R39, R41, R42, R44). -/
theorem State.takenOut_allocate {s u : State} (h : s.vent.Sound) {n : Nat} {f : Fan} (hf : s.vent.fan? n = some f)
    {st : FanState} (hst : st = .fault ∨ st = .lockedOut)
    (hu : u.vent = (s.vent.mapFan n (fun x => x.inState st)).dropFan n) :
    u.allocate.vent.fan? n = some (f.inState st) ∧ n ∉ u.allocate.vent.runList ∧ n ∉ u.allocate.vent.startQueue ∧
      u.allocate.vent.Sound ∧ u.allocate.vent.dutyPointer = (if s.vent.runList = [n] then s.vent.nextDuty
        else s.vent.dutyPointer) ∧ u.allocate.vent.healthyCount = u.vent.healthyCount ∧
      u.allocate.vent.ventDegraded = decide (u.vent.healthyCount < s.vent.fans.length) := by
  obtain ⟨horder, hplan⟩ := (Ventilation.sound_iff _).mp h
  obtain ⟨hmem, rfl⟩ := horder.fan?_iff.mp hf
  have hu' : u.vent.InOrder := hu ▸ horder.takeOut hmem hst
  have halloc := State.allocate_allocated hu'
  have hfan : f.inState st ∈ u.vent.fans := by
    rw [hu, Ventilation.dropFan_fans]
    exact List.mem_map.mpr ⟨f, hmem, if_pos rfl⟩
  have hout : u.allocate.vent.fan? f.number = some (f.inState st) := by
    refine halloc.fan?_kept hu' hfan ?_
    rcases hst with rfl | rfl <;> simp [Fan.inState]
  obtain ⟨hin, -⟩ := halloc.order.fan?_iff.mp hout
  have hno : f.number ∉ u.allocate.vent.runList := by
    rw [show f.number = (f.inState st).number from rfl, halloc.order.run _ hin]
    rcases hst with rfl | rfl <;> simp [Fan.inState]
  have hnoq : f.number ∉ u.allocate.vent.startQueue := by
    rw [show f.number = (f.inState st).number from rfl, halloc.order.queue _ hin]
    rcases hst with rfl | rfl <;> simp [Fan.inState]
  have hdropped : u.vent.dutyPointer = if s.vent.runList = [f.number] then s.vent.nextDuty else s.vent.dutyPointer := by
    rw [hu]
    exact Ventilation.dropFan_dutyPointer (w := s.vent.mapFan f.number (fun x => x.inState st)) horder
      rfl (map_number_map (fun x => by split <;> rfl) s.vent.fans) rfl
  have hlength : u.vent.fans.length = s.vent.fans.length := by simp [hu, Ventilation.mapFan]
  refine ⟨hout, hno, hnoq, halloc.sound, ?_, halloc.healthy, hlength ▸ halloc.degraded⟩
  rw [halloc.duty, ← hdropped, if_neg]
  rintro ⟨hne, hzero⟩
  -- a fan still runs, so it is healthy and there is a demand: the plan is not empty
  obtain ⟨k, hk⟩ := List.exists_mem_of_ne_nil _ hne
  obtain ⟨x, hx, rfl⟩ := List.mem_map.mp (hu'.runFans k hk)
  have hhealthy : u.vent.healthyCount ≠ 0 := by
    have hxh : x.healthy = true := by
      rcases (hu'.run x hx).mp hk with hs | hs <;> simp [Fan.healthy, hs]
    exact (List.length_pos_of_mem (List.mem_filter.mpr ⟨hx, hxh⟩)).ne'
  have hold : x.number ∈ s.vent.runList := by
    rw [hu, Ventilation.dropFan_runList] at hk
    exact List.mem_of_mem_filter hk
  have hcommanded : u.vent.commanded ≠ 0 := by
    have hsame : u.vent.commanded = s.vent.commanded := by
      rw [hu, Ventilation.dropFan, (Ventilation.setRunList_sameDemand _ _).commanded]
      rfl
    rw [hsame]
    intro hc
    have hpos := List.length_pos_of_mem hold
    simp only [Ventilation.plan, plannedCount, hc, true_or, if_true] at hplan
    omega
  exact plannedCount_pos hcommanded hhealthy hzero

theorem exec_fails {s : State} {n : Nat} {f : Fan} {c : Instr} (hf : s.vent.fan? n = some f) (hw : s.working = true)
    (hc : c = .confirmTimerExpiry n ∧ f.state = .starting ∧ f.confirm ≠ none ∨
      c = .lossTimerExpiry n ∧ f.state = .running ∧ f.loss ≠ none) :
    exec c s = .next (s.setVent (s.vent.failFan n)).allocate := by
  rcases hc with ⟨rfl, hs, ht⟩ | ⟨rfl, hs, ht⟩
  · change execConfirmTimerExpiry n s = _
    simp [execConfirmTimerExpiry, hw, hf, hs, ht]
  · change execLossTimerExpiry n s = _
    simp [execLossTimerExpiry, hw, hf, hs, ht]

/-- A fan come to rest stays there unless fans are short (R38, R43). -/
theorem State.coasted_allocate {s u : State} (h : s.vent.Sound) {n : Nat} {f : Fan} (hf : s.vent.fan? n = some f)
    (hs : f.state = .stopping) (hu : u.vent = s.vent.mapFan n (fun x => x.inState .stopped)) :
    (u.allocate.vent.fan? n).map Fan.state ∈ [some .stopped, some .queued, some .starting, some .running] ∧
      (plannedCount s.vent.commanded s.vent.healthyCount ≤ s.vent.runList.length + s.vent.startQueue.length →
        (u.allocate.vent.fan? n).map Fan.state = some .stopped) ∧ u.allocate.vent.Sound := by
  obtain ⟨horder, -⟩ := (Ventilation.sound_iff _).mp h
  obtain ⟨hmem, rfl⟩ := horder.fan?_iff.mp hf
  have hu' : u.vent.InOrder := by
    rw [hu]
    exact horder.mapFan hmem (fun _ => rfl) (f.inState_legal (by decide)) (by simp [hs, Fan.inState])
      (by simp [hs, Fan.inState]) (by simp [Fan.inState])
  have halloc := State.allocate_allocated hu'
  have hfan : f.inState .stopped ∈ u.vent.fans := by
    rw [hu]
    exact List.mem_map.mpr ⟨f, hmem, if_pos rfl⟩
  have hr : f.number ∉ u.vent.runList := by
    rw [show f.number = (f.inState .stopped).number from rfl, hu'.run _ hfan]
    simp [Fan.inState]
  have hq : f.number ∉ u.vent.startQueue := by
    rw [show f.number = (f.inState .stopped).number from rfl, hu'.queue _ hfan]
    simp [Fan.inState]
  have hrests : f.number ∉ u.vent.available.take (u.vent.plan - (u.vent.runList.length + u.vent.startQueue.length)) →
      (u.allocate.vent.fan? f.number).map Fan.state = some .stopped := fun hc =>
    congrArg (Option.map Fan.state) (halloc.fan?_idle hfan hr hq hc)
  refine ⟨?_, fun hle => hrests ?_, halloc.sound⟩
  · by_cases hc : f.number ∈ u.vent.available.take (u.vent.plan - (u.vent.runList.length + u.vent.startQueue.length))
    · have hlisted : f.number ∈ u.allocate.vent.runList ++ u.allocate.vent.startQueue := by
        rw [halloc.lists]
        exact List.mem_append_right _ hc
      have hnumber : f.number ∈ u.allocate.vent.fans.map Fan.number := by
        rw [halloc.numbers, show f.number = (f.inState .stopped).number from rfl]
        exact List.mem_map_of_mem hfan
      obtain ⟨g, hg, hgn⟩ := List.mem_map.mp hnumber
      rw [halloc.order.fan?_iff.mpr ⟨hg, hgn⟩]
      rw [List.mem_append, ← hgn, halloc.order.run g hg, halloc.order.queue g hg] at hlisted
      rcases hlisted with (hgs | hgs) | hgs <;> simp [hgs]
    · simp [hrests hc]
  · have hplan : u.vent.plan ≤ u.vent.runList.length + u.vent.startQueue.length := by
      rw [Ventilation.plan, hu, horder.healthyCount_mapFan hmem (by simp [Fan.healthy, hs, Fan.inState])]
      exact hle
    simp [Nat.sub_eq_zero_of_le hplan]

/-- Settles O22: the fan out of both lists before the pass, or at rest before it. -/
theorem failedOrRestingFan : Obligations.FailedOrRestingFan := by
  intro s n f c hf hsound
  refine ⟨fun hw hc => ?_, fun hr hc hs ht => ?_⟩
  · obtain ⟨hfan, hrun, hqueue, hafter, hduty, hhealthy, hdegraded⟩ :=
      State.takenOut_allocate (u := s.setVent (s.vent.failFan n)) hsound hf (.inl rfl) rfl
    have horder := ((Ventilation.sound_iff _).mp hsound).1
    obtain ⟨hmem, rfl⟩ := horder.fan?_iff.mp hf
    have hwas : f.healthy = true := by
      rcases hc with ⟨-, hs, -⟩ | ⟨-, hs, -⟩ <;> simp [Fan.healthy, hs]
    have hcount : (s.vent.failFan f.number).healthyCount = s.vent.healthyCount - 1 := by
      rw [← horder.healthyCount_lost hmem hwas (g := fun x => x.inState .fault) (by simp [Fan.healthy, Fan.inState])]
      simp [Ventilation.healthyCount, Ventilation.failFan]
    have hpos : 0 < s.vent.healthyCount := List.length_pos_of_mem (List.mem_filter.mpr ⟨hmem, hwas⟩)
    have hle : s.vent.healthyCount ≤ s.vent.fans.length := List.length_filter_le _ _
    refine ⟨_, exec_fails hf hw hc, by rw [hfan]; rfl, hrun, hqueue, by rw [hhealthy]; exact hcount, ?_, hduty, hafter, ?_⟩
    · rw [hdegraded]
      refine decide_eq_true ?_
      change (s.vent.failFan f.number).healthyCount < _
      omega
    · simp [onlyChanges_iff]
  · subst hc
    obtain ⟨hstates, hrests, hafter⟩ :=
      State.coasted_allocate (u := s.setVent (s.vent.mapFan n (fun x => x.inState .stopped))) hsound hf hs rfl
    have hexec : exec (.coastTimerExpiry n) s =
        .next (s.setVent (s.vent.mapFan n (fun x => x.inState .stopped))).allocate := by
      change execCoastTimerExpiry n s = _
      simp [execCoastTimerExpiry, hr, hf, hs, ht]
    refine ⟨_, hexec, hstates, hrests, hafter, ?_⟩
    simp [onlyChanges_iff]

end Sys2Proof.Machine
end

section
/-! PROOFS. A granted COMMAND: taken, executed, answered by a REPORT (R136, R148, R160..R163); and the service commands of
the Ventilation Controller (R29, R30, R44..R46). -/

namespace Sys2Proof.Machine

/-! ### A granted command -/

/-- What it takes for a command to be granted. -/
structure State.Granted (s : State) (source destination : Byte) : Prop where
  working : s.working = true
  takes : s.takesFrames = true
  own : destination.toNat = s.settings.ownAddress
  panel : 1 ≤ source.toNat ∧ source.toNat ≤ 62
  single : destination ≠ 63#8
  noRestart : s.bus.restartPending = false
  room : s.bus.queues.report.length < 4

theorem State.grants_iff {s : State} {source destination : Byte} :
    s.grants source destination = true ↔ s.Granted source destination := by
  simp only [State.grants, State.answers, Bool.and_eq_true, decide_eq_true_eq, Bool.not_eq_true']
  constructor
  · rintro ⟨⟨⟨⟨⟨hw, ht⟩, ⟨ho, hlow⟩, hhigh⟩, hd⟩, hr⟩, hroom⟩
    exact ⟨hw, ht, ho, ⟨hlow, hhigh⟩, hd, hr, hroom⟩
  · rintro ⟨hw, ht, ho, ⟨hlow, hhigh⟩, hd, hr, hroom⟩
    exact ⟨⟨⟨⟨⟨hw, ht⟩, ⟨ho, hlow⟩, hhigh⟩, hd⟩, hr⟩, hroom⟩

theorem State.onLine_restartPending (s : State) (r : Receiver) (a : Assembler) :
    (s.onLine r a).bus.restartPending = s.bus.restartPending := by
  cases h : s.bus.transmitter <;> simp [State.onLine, State.lineBusy, h]

@[simp] theorem State.frameAccepted_working (s : State) : s.frameAccepted.working = s.working := rfl
@[simp] theorem State.frameAccepted_queues (s : State) : s.frameAccepted.bus.queues = s.bus.queues := rfl
@[simp] theorem State.frameAccepted_restartPending (s : State) :
    s.frameAccepted.bus.restartPending = s.bus.restartPending := State.onLine_restartPending s _ _
@[simp] theorem State.frameAccepted_countersAccepted (s : State) : s.frameAccepted.counters = s.countersAccepted := rfl

/-- In LISTENING and NORMAL a COMMAND to the own address passes the filter (R135). -/
theorem State.filterRejects_own {s : State} (hw : s.working = true) {destination : Byte}
    (h : destination.toNat = s.settings.ownAddress) : s.filterRejects 4#8 destination = false := by
  have hst : s.station ≠ .fallback := by
    intro hst
    simp [State.working, hst] at hw
  simp [State.filterRejects, h, hst]

/-- A granted command leaves what it does, with its REPORT queued; an answered RESTART waits for its REPORT (R148, R161,
R163, R165). -/
def State.answeredWith (e : Executed) (source code : Byte) : State :=
  let queued := e.state.join .report (.report source (e.payload code) (e.restarts code))
  if e.restarts code then queued.setBus { queued.bus with restartPending := true } else queued

theorem State.Granted.commandFrame {s : State} {source destination : Byte} (h : s.Granted source destination) (code : Byte)
    {args : List Byte} (hargs : args.length ≤ 47) : s.commandFrame source destination code args =
      State.answeredWith (executeCommand code args s.frameAccepted) source code := by
  have hanswers : s.frameAccepted.answers source destination = true := by
    simp [State.answers, h.own, h.panel]
  rw [State.commandFrame, State.onFrame_taken _ _ h.takes, State.filterRejects_own h.working h.own]
  simp only [Bool.false_eq_true, if_false, if_neg (Nat.not_lt.mpr hargs), State.serviceCommand,
    State.frameAccepted_working, h.working, if_true, State.frameAccepted_restartPending, h.noRestart, false_and, hanswers,
    State.frameAccepted_queues, if_neg (Nat.not_le.mpr h.room)]
  rfl

/-- A REPORT queued behind the others. -/
theorem State.join_report (t : State) (content : FrameContent) :
    (t.join .report content).bus.queues.report = t.bus.queues.report ++ [{ content, attempts := 0 }] := by
  simp [Queues.put, Queues.get]

/-- The state with a REPORT of code and result queued. -/
def State.reporting (t : State) (source code result : Byte) (body : List Byte) : State :=
  t.join .report (.report source (code :: result :: body) false)

theorem State.reporting_report {s t : State} (h : t.bus.queues.report = s.bus.queues.report)
    (source code result : Byte) (body : List Byte) :
    (t.reporting source code result body).bus.queues.report = s.reportsWith source code result body := by
  rw [State.reporting, State.join_report, h]
  rfl

@[simp] theorem State.reporting_station (t : State) (source code result : Byte) (body : List Byte) :
    (t.reporting source code result body).station = t.station := by simp [State.reporting]
@[simp] theorem State.reporting_settings (t : State) (source code result : Byte) (body : List Byte) :
    (t.reporting source code result body).settings = t.settings := by simp [State.reporting]
@[simp] theorem State.reporting_startup (t : State) (source code result : Byte) (body : List Byte) :
    (t.reporting source code result body).startup = t.startup := by simp [State.reporting]
@[simp] theorem State.reporting_inputs (t : State) (source code result : Byte) (body : List Byte) :
    (t.reporting source code result body).inputs = t.inputs := by simp [State.reporting]
@[simp] theorem State.reporting_air (t : State) (source code result : Byte) (body : List Byte) :
    (t.reporting source code result body).air = t.air := by simp [State.reporting]
@[simp] theorem State.reporting_vent (t : State) (source code result : Byte) (body : List Byte) :
    (t.reporting source code result body).vent = t.vent := by simp [State.reporting]
@[simp] theorem State.reporting_bays (t : State) (source code result : Byte) (body : List Byte) :
    (t.reporting source code result body).bays = t.bays := by simp [State.reporting]
@[simp] theorem State.reporting_peers (t : State) (source code result : Byte) (body : List Byte) :
    (t.reporting source code result body).peers = t.peers := by simp [State.reporting]
@[simp] theorem State.reporting_guide (t : State) (source code result : Byte) (body : List Byte) :
    (t.reporting source code result body).guide = t.guide := by simp [State.reporting]
@[simp] theorem State.reporting_light (t : State) (source code result : Byte) (body : List Byte) :
    (t.reporting source code result body).light = t.light := by simp [State.reporting]
@[simp] theorem State.reporting_counters (t : State) (source code result : Byte) (body : List Byte) :
    (t.reporting source code result body).counters = t.counters := by simp [State.reporting]
@[simp] theorem State.reporting_pending (t : State) (source code result : Byte) (body : List Byte) :
    (t.reporting source code result body).pending = t.pending := by simp [State.reporting]

/-- A granted command that is DONE, and no RESTART, leaves what it does with a REPORT of DONE. -/
theorem State.Granted.did {s t : State} {source destination code : Byte} {args : List Byte}
    (h : s.Granted source destination) (hargs : args.length ≤ 47) (hcode : code ≠ restartCode)
    (he : executeCommand code args s.frameAccepted = .did t) :
    s.commandFrame source destination code args = t.reporting source code 0#8 [] := by
  rw [h.commandFrame code hargs, he]
  simp [State.answeredWith, Executed.restarts, hcode, Executed.did, Executed.payload, CommandResult.byte, State.reporting]

/-- A granted command that is refused leaves the frame taken, with a REPORT of the result. -/
theorem State.Granted.refused {s : State} {source destination code : Byte} {args : List Byte} {r : CommandResult}
    (h : s.Granted source destination) (hargs : args.length ≤ 47) (hr : r ≠ .done)
    (he : executeCommand code args s.frameAccepted = .refuse s.frameAccepted r) :
    s.commandFrame source destination code args = s.frameAccepted.reporting source code r.byte [] := by
  rw [h.commandFrame code hargs, he]
  simp [State.answeredWith, Executed.restarts, hr, Executed.refuse, Executed.payload, State.reporting]

/-- A granted command refused changes no block. -/
theorem State.refused_only (s : State) (source code result : Byte) (body : List Byte) :
    OnlyChanges [.bus, .counters] s (s.frameAccepted.reporting source code result body) := by
  simp [onlyChanges_iff]

/-! ### Service commands for fans (R44..R46) -/

theorem State.fanLocked_granted {s : State} {source destination fan : Byte} {f : Fan}
    (h : s.Granted source destination) (hf : s.vent.fan? fan.toNat = some f) (hsound : s.vent.Sound) :
    Answers (exec (.lockOutFan source destination [fan]) s) (fun t =>
      t.vent.fan? fan.toNat = some (f.inState .lockedOut) ∧
      fan.toNat ∉ t.vent.runList ∧ fan.toNat ∉ t.vent.startQueue ∧ t.vent.Sound ∧
      t.vent.dutyPointer = (if s.vent.runList = [fan.toNat] then s.vent.nextDuty else s.vent.dutyPointer) ∧
      t.bus.queues.report = s.reportsWith source 0x12#8 0#8 [] ∧ t.counters = s.countersAccepted ∧
      OnlyChanges [.vent, .guide, .bus, .counters] s t) := by
  set u := s.frameAccepted.setVent ((s.vent.mapFan fan.toNat (fun x => x.inState .lockedOut)).dropFan fan.toNat) with hu
  obtain ⟨hfan, hrun, hqueue, hafter, hduty, -, -⟩ := State.takenOut_allocate (u := u) hsound hf (.inr rfl) rfl
  have hexec : executeCommand 0x12#8 [fan] s.frameAccepted = .did u.allocate := by
    change lockOutFan [fan] s.frameAccepted = _
    simp [lockOutFan, hf, hu]
  refine ⟨_, congrArg Host.Outcome.next (h.did (by simp) (by decide) hexec), ?_⟩
  refine ⟨by simpa using hfan, by simpa using hrun,
    by simpa using hqueue, by simpa using hafter,
    by simpa using hduty, State.reporting_report ?_ .., by simp [hu], ?_⟩
  · exact (reportQueue_tellKeeps s.bus.queues.report).allocate u rfl
  · simp [onlyChanges_iff, hu]

/-- A fan returned to STOPPING keeps out of the lists through the pass that follows (R45, R46). -/
theorem State.returned_allocate {s u : State} (h : s.vent.Sound) {n : Nat} {f : Fan} (hf : s.vent.fan? n = some f)
    (hs : f.state = .lockedOut ∨ f.state = .fault)
    (hu : u.vent = s.vent.mapFan n (fun x => x.toStopping s.settings)) :
    u.allocate.vent.fan? n = some (f.toStopping s.settings) ∧ u.allocate.vent.Sound := by
  obtain ⟨horder, -⟩ := (Ventilation.sound_iff _).mp h
  obtain ⟨hmem, rfl⟩ := horder.fan?_iff.mp hf
  have hu' : u.vent.InOrder := by
    rw [hu]
    refine horder.mapFan hmem (fun _ => rfl) (f.toStopping_legal _) ?_ ?_ ?_ <;>
      rcases hs with hs | hs <;> simp [hs, Fan.toStopping, Fan.inState]
  have hfan : f.toStopping s.settings ∈ u.vent.fans := by
    rw [hu]
    exact List.mem_map.mpr ⟨f, hmem, if_pos rfl⟩
  have halloc := State.allocate_allocated hu'
  exact ⟨halloc.fan?_kept hu' hfan (.inl rfl), halloc.sound⟩

theorem State.Granted.returnFan {s : State} {source destination fan code : Byte} {f : Fan} {from_ : FanState}
    (h : s.Granted source destination) (hf : s.vent.fan? fan.toNat = some f) (hcode : code ≠ restartCode)
    (hfrom : from_ = .lockedOut ∨ from_ = .fault)
    (hexec : executeCommand code [fan] s.frameAccepted = returnFan from_ [fan] s.frameAccepted) :
    (f.state = from_ → s.vent.Sound → ∃ t, s.commandFrame source destination code [fan] = t ∧
      t.vent.fan? fan.toNat = some (f.toStopping s.settings) ∧ t.vent.Sound ∧
      t.bus.queues.report = s.reportsWith source code 0#8 [] ∧
      t.counters = s.countersAccepted ∧ OnlyChanges [.vent, .guide, .bus, .counters] s t) ∧
    (f.state ≠ from_ → ∃ t, s.commandFrame source destination code [fan] = t ∧
      t.bus.queues.report = s.reportsWith source code 1#8 [] ∧ OnlyChanges [.bus, .counters] s t) := by
  constructor
  · intro hs hsound
    set u := s.frameAccepted.setVent (s.vent.mapFan fan.toNat (fun x => x.toStopping s.settings)) with hu
    obtain ⟨hfan, hafter⟩ := State.returned_allocate (u := u) hsound hf (hs ▸ hfrom) rfl
    have hdid : executeCommand code [fan] s.frameAccepted = .did u.allocate := by
      rw [hexec]
      simp [Machine.returnFan, hf, hs, hu]
    refine ⟨_, h.did (by simp) hcode hdid, ?_⟩
    refine ⟨by simpa using hfan, by simpa using hafter,
      State.reporting_report ?_ .., by simp [hu], by simp [onlyChanges_iff, hu]⟩
    exact (reportQueue_tellKeeps s.bus.queues.report).allocate u rfl
  · intro hs
    have hrefused : executeCommand code [fan] s.frameAccepted = .refuse s.frameAccepted .refusedState := by
      rw [hexec]
      simp [Machine.returnFan, hf, hs]
    exact ⟨_, h.refused (by simp) (by decide) hrefused, State.reporting_report rfl .., s.refused_only _ _ _ _⟩

/-- Settles O25: each command from the fan state it takes. -/
theorem fanServiceCommandsSetTheFanState : Obligations.FanServiceCommandsSetTheFanState := by
  intro s source destination fan f hgrants hf hsound
  have h := State.grants_iff.mp hgrants
  refine ⟨State.fanLocked_granted h hf hsound, ?_⟩
  have hunlock := h.returnFan (code := 0x13#8) hf (by decide) (.inl rfl) rfl
  have hclear := h.returnFan (code := 0x14#8) hf (by decide) (.inr rfl) rfl
  simp only [List.forall_mem_cons, List.not_mem_nil, false_implies, implies_true, and_true]
  refine ⟨⟨fun hs => ?_, fun hs => ?_⟩, fun hs => ?_, fun hs => ?_⟩
  · obtain ⟨t, ht, hprop⟩ := hunlock.1 hs hsound
    exact ⟨t, congrArg Host.Outcome.next ht, f.toStopping_eq s.settings ▸ hprop⟩
  · obtain ⟨t, ht, hprop⟩ := hunlock.2 hs
    exact ⟨t, congrArg Host.Outcome.next ht, hprop⟩
  · obtain ⟨t, ht, hprop⟩ := hclear.1 hs hsound
    exact ⟨t, congrArg Host.Outcome.next ht, f.toStopping_eq s.settings ▸ hprop⟩
  · obtain ⟨t, ht, hprop⟩ := hclear.2 hs
    exact ⟨t, congrArg Host.Outcome.next ht, hprop⟩

/-! ### The fan override (R29..R31) -/

/-- The floor reads settings, air, sympathy and purge alone (R27). -/
theorem State.floorNow_congr {s t : State} (hc : t.settings = s.settings) (ha : t.air = s.air) (hp : t.peers = s.peers)
    (hi : t.inputs = s.inputs) : t.floorNow = s.floorNow := by
  simp only [State.floorNow, hc, ha, hp, hi]

/-- D reads the override, the index offered, the traffic and the floor alone (R31). -/
theorem State.demandNow_congr {s t : State} (hc : t.settings = s.settings) (ha : t.air = s.air) (hp : t.peers = s.peers)
    (hi : t.inputs = s.inputs) (hb : t.bays = s.bays) (ho : t.vent.override = s.vent.override) :
    t.demandNow = s.demandNow := by
  simp only [State.demandNow, State.effectiveIndex, State.trafficTerm, State.floorNow_congr hc ha hp hi, hc, ha, hp, hb, ho]

/-- An override set or ended, and demand at once (R29, R30). -/
def State.withOverride (s : State) (o : Option FanOverride) : State :=
  (s.setVent { s.vent with override := o }).recompute false

/-- Demand is recomputed with no rate step (R29..R32). -/
theorem State.withOverride_demand {s : State} (hw : s.working = true) (o : Option FanOverride) :
    (s.withOverride o).vent.override = o ∧ (s.withOverride o).vent.floor = (s.withOverride o).floorNow ∧
      (s.withOverride o).vent.demand = (s.withOverride o).demandNow ∧
      (s.withOverride o).vent.commanded = max s.vent.commanded (s.withOverride o).vent.floor := by
  obtain ⟨hfloor, hdemand, hcommanded, hoverride⟩ :=
    (s.setVent { s.vent with override := o }).recompute_demand (by exact hw) false
  have hsame : (s.withOverride o).floorNow = (s.setVent { s.vent with override := o }).floorNow :=
    State.floorNow_congr (by simp [State.withOverride]) (by simp [State.withOverride]) (by simp [State.withOverride])
      (by simp [State.withOverride])
  refine ⟨hoverride, hfloor.trans hsame.symm, hdemand.trans (Eq.symm ?_), hcommanded.trans ?_⟩
  · exact State.demandNow_congr (by simp [State.withOverride]) (by simp [State.withOverride]) (by simp [State.withOverride])
      (by simp [State.withOverride]) (by simp [State.withOverride]) hoverride
  · rw [State.withOverride, hfloor]
    rfl

theorem State.withOverride_report (s : State) (o : Option FanOverride) :
    (s.withOverride o).bus.queues.report = s.bus.queues.report :=
  (reportQueue_tellKeeps s.bus.queues.report).recompute _ _ rfl

theorem State.withOverride_only (s : State) (o : Option FanOverride) :
    OnlyChanges [.vent, .guide, .bus] s (s.withOverride o) := by
  simp [onlyChanges_iff, State.withOverride]

@[simp] theorem State.withOverride_counters (s : State) (o : Option FanOverride) :
    (s.withOverride o).counters = s.counters := by simp [State.withOverride]

/-- The frame taken, one of the Ventilation Controller's commands done, its REPORT queued: no other block has changed. -/
theorem State.withOverride_reporting (s : State) (o : Option FanOverride) (source code : Byte) :
    OnlyChanges [.vent, .guide, .bus, .counters] s ((s.frameAccepted.withOverride o).reporting source code 0#8 []) := by
  simp [onlyChanges_iff, State.withOverride]

/-- What demand is formed of does not change when a REPORT is queued. -/
@[simp] theorem State.reporting_floorNow (t : State) (source code result : Byte) (body : List Byte) :
    (t.reporting source code result body).floorNow = t.floorNow :=
  State.floorNow_congr (by simp) (by simp) (by simp) (by simp)

@[simp] theorem State.reporting_demandNow (t : State) (source code result : Byte) (body : List Byte) :
    (t.reporting source code result body).demandNow = t.demandNow :=
  State.demandNow_congr (by simp) (by simp) (by simp) (by simp) (by simp) (by simp)

theorem State.demandNow_override {s : State} {o : FanOverride} (h : s.vent.override = some o) :
    s.demandNow = max o.value s.floorNow := by
  simp [State.demandNow, h]

theorem State.Granted.setFanOverride {s : State} {source destination : Byte} (h : s.Granted source destination) {v m : Byte}
    (hv : v.toNat ≤ 100) (hm : m.toNat ≤ 240) : s.commandFrame source destination 0x10#8 [v, m] =
      (s.frameAccepted.withOverride (some { value := v.toNat, limit := limitOfMinutes m.toNat })).reporting source
        0x10#8 0#8 [] := by
  refine h.did (by simp) (by decide) ?_
  change Machine.setFanOverride [v, m] s.frameAccepted = _
  simp only [Machine.setFanOverride, hv, hm, and_self, if_true]
  rfl

theorem State.Granted.clearFanOverride {s : State} {source destination : Byte} (h : s.Granted source destination) :
    s.commandFrame source destination 0x11#8 [] =
      State.reporting (if s.vent.override = none then s.frameAccepted else s.frameAccepted.withOverride none)
        source 0x11#8 0#8 [] := by
  refine h.did (by simp) (by decide) ?_
  change Machine.clearFanOverride [] s.frameAccepted = _
  simp only [Machine.clearFanOverride, State.frameAccepted_vent]
  split <;> rfl

theorem limitOfMinutes_byte (m : Byte) :
    limitOfMinutes m.toNat = if m = 0#8 then .untilEnded else .remaining (60000 * m.toNat) := by
  rw [limitOfMinutes, Nat.mul_comm]
  exact if_congr (by rw [← BitVec.toNat_inj]; rfl) rfl rfl

/-- Settles O24: each way the override changes, and the recomputation that follows. -/
theorem fanOverrideReplacesTheTerms : Obligations.FanOverrideReplacesTheTerms := by
  intro s source destination v m
  refine ⟨fun hgrants hv hm => ?_, fun hgrants hout => ?_, fun hgrants => ?_, fun hw ho => ?_⟩
  · have h := State.grants_iff.mp hgrants
    refine ⟨_, congrArg Host.Outcome.next (h.setFanOverride hv hm), ?_⟩
    rw [limitOfMinutes_byte]
    set o : FanOverride := { value := v.toNat, limit := if m = 0#8 then .untilEnded else .remaining (60000 * m.toNat) }
    obtain ⟨hover, hfloor, hdemand, hcommanded⟩ := State.withOverride_demand (s := s.frameAccepted) h.working (some o)
    rw [State.demandNow_override hover, ← hfloor] at hdemand
    exact ⟨by simpa using hover, by simpa using hfloor, by simpa using hdemand, by simpa using hcommanded,
      State.reporting_report (State.withOverride_report _ _) .., by simp, s.withOverride_reporting _ _ _⟩
  · have h := State.grants_iff.mp hgrants
    have hrefused : executeCommand 0x10#8 [v, m] s.frameAccepted = .refuse s.frameAccepted .badArgument := by
      change setFanOverride [v, m] s.frameAccepted = _
      simp only [setFanOverride]
      rw [if_neg (by omega)]
    refine ⟨_, congrArg Host.Outcome.next (h.refused (by simp) (by decide) hrefused), State.reporting_report rfl ..,
      s.refused_only _ _ _ _⟩
  · have h := State.grants_iff.mp hgrants
    refine ⟨_, congrArg Host.Outcome.next h.clearFanOverride, ?_⟩
    by_cases hnone : s.vent.override = none
    · rw [if_pos hnone]
      exact ⟨by simp [hnone], fun _ => by simp, fun hsome => absurd hnone hsome, State.reporting_report rfl ..,
        by simp, by simp [onlyChanges_iff]⟩
    · rw [if_neg hnone]
      obtain ⟨hover, hfloor, hdemand, hcommanded⟩ := State.withOverride_demand (s := s.frameAccepted) h.working none
      exact ⟨by simpa using hover, fun habsent => absurd habsent hnone,
        fun _ => ⟨by simpa using hfloor, by simpa using hdemand, by simpa using hcommanded⟩,
        State.reporting_report (State.withOverride_report _ _) .., by simp, s.withOverride_reporting _ _ _⟩
  · have hexec : exec .fanOverrideExpiry s = .next s.endFanOverride := by
      change execFanOverrideExpiry s = _
      cases hov : s.vent.override with
      | none => simp [hov] at ho
      | some o =>
        rw [hov, Option.any_some] at ho
        simp [execFanOverrideExpiry, hw, hov, ho]
    obtain ⟨hover, hfloor, hdemand, hcommanded⟩ := State.withOverride_demand hw none
    exact ⟨_, hexec, hover, hfloor, hdemand, hcommanded, s.withOverride_only none⟩

end Sys2Proof.Machine
end

section
/-! PROOFS. The air sample: alarm step, demand, ALERT (R12..R20, R31, R32). -/

namespace Sys2Proof.Machine

/-! ### The alarm step (R14..R19) -/

theorem AlarmLevel.lower_code (l : AlarmLevel) : l.code ≤ l.lower.code + 1 ∧ l.lower.code ≤ l.code := by
  cases l <;> decide

/-- The level an index meets is above another exactly when some level above the other has its threshold met (R15). -/
theorem Settings.levelMet_le_iff (c : Settings) (i : Nat) (l : AlarmLevel) :
    (c.levelMet i).code ≤ l.code ↔ ∀ m ∈ AlarmLevel.withThreshold, l.code < m.code → i < c.threshold m := by
  unfold Settings.levelMet
  simp only [AlarmLevel.withThreshold, List.forall_mem_cons, List.not_mem_nil, false_implies, implies_true, and_true,
    Settings.threshold]
  cases l <;> (repeat' split) <;> simp [AlarmLevel.code] <;> omega

/-- The alarm step lowers the level by one at most, and without an index leaves it (R15, R17, R19). -/
theorem Settings.alarmStep_level (c : Settings) (index : Option Nat) (l : AlarmLevel) (hold : Option Nat) :
    l.code ≤ (c.alarmStep index l hold).1.code + 1 ∧ (index = none → (c.alarmStep index l hold).1 = l) := by
  have hlower := l.lower_code.1
  refine ⟨?_, fun h => by simp [h, Settings.alarmStep]⟩
  unfold Settings.alarmStep
  split
  · exact Nat.le_succ _
  · split
    · simp only
      omega
    · (repeat' split) <;> simp_all [Settings.fallOne, AlarmLevel.code]

/-- Where the hold timer may run: above CLEAR, with an index, short of the clear hold (R16, R17). -/
def HoldSound (c : Settings) (index : Option Nat) (l : AlarmLevel) (hold : Option Nat) : Prop :=
  hold ≠ none → l ≠ .clear ∧ index ≠ none ∧ hold.getD 0 < clearHold c.holdCode

theorem Settings.releasePoint_clear (c : Settings) (i : Nat) : ¬ i < c.releasePoint .clear := Nat.not_lt_zero i

/-- The alarm step leaves the hold timer where it may run. -/
theorem Settings.alarmStep_holdSound (c : Settings) (index : Option Nat) (l : AlarmLevel) (hold : Option Nat) :
    HoldSound c index (c.alarmStep index l hold).1 (c.alarmStep index l hold).2 := by
  unfold Settings.alarmStep
  intro hne
  split at hne
  · exact absurd rfl hne
  · rename_i i
    split at hne
    · exact absurd rfl hne
    · split at hne
      · exact absurd rfl hne
      · split at hne
        · exact absurd rfl hne
        · split at hne
          · exact absurd rfl hne
          · rename_i hlow hclear hrel hhold
            simp only [hlow, hclear, hrel, hhold, if_false]
            split at hne
            · exact ⟨hclear, by simp, Nat.pos_of_ne_zero hhold⟩
            · split at hne
              · rename_i hlt
                simp only [hlt, if_true]
                exact ⟨hclear, by simp, hlt⟩
              · rename_i hge
                simp only [hge, if_false, Settings.fallOne] at hne ⊢
                split at hne
                · rename_i hbelow
                  refine ⟨fun hl => ?_, by simp, by simpa [hbelow] using Nat.pos_of_ne_zero hhold⟩
                  exact c.releasePoint_clear i (hl ▸ hbelow)
                · exact absurd rfl hne

/-- The model's own test of the expiry is the statements' (R15, R16, R17). -/
theorem State.sampleExpiresHold_iff_holdExpires (s : State) :
    s.sampleExpiresHold = true ↔ s.settings.HoldExpires s.air.level s.air.holdTimer s.air.heads := by
  rw [State.sampleExpiresHold_iff]
  simp only [Settings.HoldExpires, Option.mem_toList, Settings.levelMet_le_iff]
  constructor
  · rintro ⟨e, i, he, hi, hmet, hbelow, hpos, hle⟩
    exact ⟨e, he, i, hi, hpos, hle, hbelow, hmet⟩
  · rintro ⟨e, he, i, hi, hpos, hle, hbelow, hmet⟩
    exact ⟨e, i, he, hi, hmet, hbelow, hpos, hle⟩

/-! ### Demand at an air sample and at any other event (R31, R32) -/

/-- A recomputation forms demand of what stands after it (R27, R31, R32). -/
theorem State.recompute_formed {s : State} (hw : s.working = true) (b : Bool) :
    (s.recompute b).vent.floor = (s.recompute b).floorNow ∧ (s.recompute b).vent.demand = (s.recompute b).demandNow ∧
      (s.recompute b).vent.commanded = max (if b = true then
        stepCommanded s.settings (s.recompute b).vent.demand s.vent.commanded else s.vent.commanded)
        (s.recompute b).vent.floor := by
  obtain ⟨hfloor, hdemand, hcommanded, hoverride⟩ := s.recompute_demand hw b
  have hfloorNow : (s.recompute b).floorNow = s.floorNow := State.floorNow_congr (by simp) (by simp) (by simp) (by simp)
  have hdemandNow : (s.recompute b).demandNow = s.demandNow :=
    State.demandNow_congr (by simp) (by simp) (by simp) (by simp) (by simp) hoverride
  exact ⟨hfloor.trans hfloorNow.symm, hdemand.trans hdemandNow.symm, by rw [hcommanded, hfloor, hdemand]⟩

/-- One rate step never goes above C and the up rate (R32). -/
theorem stepCommanded_le (c : Settings) (d x : Nat) : stepCommanded c d x ≤ x + c.upRate := by
  unfold stepCommanded
  (repeat' split) <;> omega

/-- Whatever a new Air Monitor brings, demand is formed of what stands after it, C by one rate step (R31, R32). -/
theorem State.airSettled_demand {s : State} (hw : s.working = true) (air : AirMonitor) :
    (s.airSettled air).vent.floor = (s.airSettled air).floorNow ∧
      (s.airSettled air).vent.demand = (s.airSettled air).demandNow ∧
      (s.airSettled air).vent.commanded = max (stepCommanded s.settings (s.airSettled air).vent.demand s.vent.commanded)
        (s.airSettled air).vent.floor := by
  unfold State.airSettled
  dsimp only
  split
  · exact State.recompute_formed (s := s.setAir air) hw true
  · have halert : (s.setAir air).queueAlert.working = true := (State.working_eq (by simp)).trans hw
    obtain ⟨hfloor, hdemand, hcommanded⟩ := State.recompute_formed halert true
    have hfloorNow : (((s.setAir air).queueAlert.recompute true).guidanceTold true false).formForcing.floorNow =
        ((s.setAir air).queueAlert.recompute true).floorNow :=
      State.floorNow_congr (by simp) (by simp) (by simp) (by simp)
    have hdemandNow : (((s.setAir air).queueAlert.recompute true).guidanceTold true false).formForcing.demandNow =
        ((s.setAir air).queueAlert.recompute true).demandNow :=
      State.demandNow_congr (by simp) (by simp) (by simp) (by simp) (by simp) (by simp)
    rw [hfloorNow, hdemandNow, State.formForcing_vent, State.guidanceTold_vent]
    exact ⟨hfloor, hdemand, by simpa using hcommanded⟩

/-- Demand stepped at an air sample, in the words of the statements (R27, R31, R32). -/
theorem State.demandStepped_of {s t : State} (hfloor : t.vent.floor = t.floorNow) (hdemand : t.vent.demand = t.demandNow)
    (hcommanded : t.vent.commanded = max (stepCommanded s.settings t.vent.demand s.vent.commanded) t.vent.floor) :
    s.DemandStepped t := by
  have hle : t.vent.floor ≤ t.vent.demand := by
    rw [hfloor, hdemand]
    exact t.floorNow_le_demandNow
  refine ⟨hfloor, hdemand, fun hlt => ?_, fun hlt hramp => ?_, fun hlt hcoast => ?_, fun heq => ?_⟩ <;>
    rw [hcommanded, stepCommanded]
  · rw [if_pos hlt, max_comm]
  · rw [if_neg (by omega), if_pos hlt, hramp]
    simp only
    omega
  · rw [if_neg (by omega), if_pos hlt, hcoast]
    simp only
    omega
  · rw [if_neg (by omega), if_neg (by omega)]
    omega

/-! ### The ALERT of a change of level (R20, R145, R146) -/

theorem State.queueAlert_alertQueued {s : State} (hw : s.working = true) : s.AlertQueued s.queueAlert := by
  have hpending : s.bus.hasPending .alert = decide (s.alertsOnTheLine < s.bus.queues.alert.length) := by
    unfold BusInterface.hasPending State.alertsOnTheLine
    cases htx : s.bus.transmitter with
    | sending c bytes => cases c <;> simp [Queues.get]
    | _ => rfl
  rw [State.AlertQueued, State.queueAlert_queues, hw, hpending]
  by_cases h : s.alertsOnTheLine < s.bus.queues.alert.length <;> simp [h]

/-- A significant change told leaves the ALERTs (R150). -/
theorem alertQueue_tellKeeps (l : List QueuedFrame) : TellKeeps (fun s => s.bus.queues.alert = l) where
  of_bus h heq := by rwa [heq]
  tell s h := by
    rw [s.tellSignificant_queues]
    split <;> exact h

/-! ### The air sample -/

/-- From `s` to `u` only head records, polls and counters have changed since the last sample. -/
structure State.Polled (s u : State) : Prop where
  only : OnlyChanges [.air, .counters] s u
  sampled : u.air.sampled = s.air.sampled
  ownIndex : u.air.ownIndex = s.air.ownIndex
  level : u.air.level = s.air.level
  hold : u.air.holdTimer = s.air.holdTimer

namespace State.Polled

variable {s u : State}

theorem settings (h : s.Polled u) : u.settings = s.settings := (onlyChanges_iff.mp h.only).2.1 (by decide)

theorem station (h : s.Polled u) : u.station = s.station := (onlyChanges_iff.mp h.only).1 (by decide)

theorem bus (h : s.Polled u) : u.bus = s.bus := by
  obtain ⟨-, -, -, -, -, -, -, -, -, -, hbus, -⟩ := onlyChanges_iff.mp h.only
  exact hbus (by decide)

theorem vent (h : s.Polled u) : u.vent = s.vent := by
  obtain ⟨-, -, -, -, -, hvent, -⟩ := onlyChanges_iff.mp h.only
  exact hvent (by decide)

theorem pending (h : s.Polled u) : u.pending = s.pending := by
  obtain ⟨-, -, -, -, -, -, -, -, -, -, -, -, hpending⟩ := onlyChanges_iff.mp h.only
  exact hpending (by decide)

theorem working (h : s.Polled u) : u.working = s.working := State.working_eq h.station

end State.Polled

theorem State.airSettled_alert {s : State} (hw : s.working = true) (air : AirMonitor) :
    (air.level ≠ s.air.level → s.AlertQueued (s.airSettled air)) ∧
      (air.level = s.air.level → (s.airSettled air).bus.queues.alert = s.bus.queues.alert) := by
  unfold State.airSettled
  dsimp only
  constructor
  · intro hne
    have hqueued : (s.setAir air).AlertQueued (s.setAir air).queueAlert := State.queueAlert_alertQueued hw
    have htold := (alertQueue_tellKeeps (s.setAir air).queueAlert.bus.queues.alert).guidanceTold _ true false
      ((alertQueue_tellKeeps _).recompute (s.setAir air).queueAlert true rfl)
    rw [if_neg hne, State.AlertQueued, State.formForcing_bus, htold]
    exact hqueued
  · intro heq
    rw [if_pos heq]
    exact (alertQueue_tellKeeps s.bus.queues.alert).recompute (s.setAir air) true rfl

/-- The air sample of a round, told of the state before its polls (R12, R13, R15, R20, R32). -/
theorem State.Polled.airSample_sampled {s u : State} (h : s.Polled u) (hw : u.working = true) : s.Sampled u.airSample := by
  have hair := u.airSample_air
  have hdemand := State.airSettled_demand hw u.airSample.air
  have halert := State.airSettled_alert hw u.airSample.air
  have hsettled : u.airSettled u.airSample.air = u.airSample := by
    rw [hair]
    rfl
  rw [hsettled, h.level, h.bus] at halert
  rw [hsettled, h.settings, h.vent] at hdemand
  refine ⟨?_, ?_, ?_, fun hne => ?_, halert.2, State.demandStepped_of hdemand.1 hdemand.2.1 hdemand.2.2⟩
  · rw [hair]
    rfl
  · rw [hair]
    rfl
  · rw [hair, h.settings, h.level, h.hold]
  · have hqueued := halert.1 hne
    simp only [State.AlertQueued, State.alertsOnTheLine, h.bus] at hqueued ⊢
    exact hqueued

/-- The end of a round, told of the state before its polls (R2, R13, R17). -/
theorem State.Polled.roundEnds {s u : State} (h : s.Polled u) (hw : u.working = true) :
    s.RoundEnds u.roundEnds := by
  have hheads : u.roundEnds.air.heads = u.air.heads := by
    rcases u.roundEnds_cases with ⟨-, -, heq⟩ | ⟨-, heq⟩ <;> simp [heq, State.airSample_air]
  have hexpires := u.sampleExpiresHold_iff_holdExpires
  rw [h.settings, h.level, h.hold] at hexpires
  have hpending := h.pending
  rw [← hheads] at hexpires
  rcases u.roundEnds_cases with ⟨hyes, hnext, heq⟩ | ⟨hno, heq⟩
  · rw [State.RoundEnds, if_pos ⟨hexpires.mp hyes, hpending ▸ hnext⟩, heq]
    refine ⟨rfl, h.sampled, h.ownIndex, h.level, h.hold, ?_⟩
    have honly := onlyChanges_iff.mp h.only
    rw [onlyChanges_iff]
    simpa using honly
  · rw [State.RoundEnds, if_neg, heq]
    · exact ⟨by rw [State.airSample_air], h.airSample_sampled hw⟩
    · rintro ⟨hyes, hnext⟩
      rcases hno with hno | hno
      · rw [hexpires.mpr hyes] at hno
        cases hno
      · exact hno (hpending.symm ▸ hnext)

/-! ### After a poll -/

/-- The head polled after head `n`, by its number (R2). -/
theorem AirMonitor.headAfter_number (a : AirMonitor) (n : Nat) : (a.headAfter n).map (fun h => h.settings.number) =
    (a.heads.map (fun h => h.settings.number)).find? (fun k => decide (n < k)) := by
  rw [AirMonitor.headAfter, List.find?_map]
  rfl

theorem State.roundEnds_poll (s : State) : s.roundEnds.air.poll = s.air.poll ∧
    s.roundEnds.air.heads = s.air.heads ∧ s.roundEnds.air.roundTimer = s.air.roundTimer := by
  rcases s.roundEnds_cases with ⟨-, -, heq⟩ | ⟨-, heq⟩ <;> simp [heq, State.airSample_air]

/-- After a poll the next head is polled, and nothing else changes, or the round ends (R2). -/
theorem State.Polled.afterPoll {s u : State} (h : s.Polled u) (hw : u.working = true) (n : Nat) :
    (u.afterPoll n).air.heads = u.air.heads ∧ (u.afterPoll n).air.roundTimer = u.air.roundTimer ∧
      (u.afterPoll n).air.poll = ((u.air.heads.map (fun h => h.settings.number)).find? (fun k => decide (n < k))).map
        (fun k => { head := k, window := 100 }) ∧
      ((u.afterPoll n).air.poll ≠ none → u.afterPoll n = u.setAir { u.air with poll := (u.afterPoll n).air.poll }) ∧
      ((u.afterPoll n).air.poll = none → s.RoundEnds (u.afterPoll n)) := by
  rw [← AirMonitor.headAfter_number]
  unfold State.afterPoll
  cases hnext : u.air.headAfter n with
  | some x =>
    refine ⟨rfl, rfl, rfl, fun _ => rfl, fun hnone => ?_⟩
    simp [State.pollHead] at hnone
  | none =>
    obtain ⟨hpoll, hheads, htimer⟩ := (u.setAir { u.air with poll := none }).roundEnds_poll
    have hpolled : s.Polled (u.setAir { u.air with poll := none }) :=
      ⟨by simpa [onlyChanges_iff] using onlyChanges_iff.mp h.only, h.sampled, h.ownIndex, h.level, h.hold⟩
    exact ⟨hheads, htimer, hpoll, fun hne => absurd hpoll hne, fun _ => hpolled.roundEnds hw⟩

end Sys2Proof.Machine
end

section
/-! PROOFS. The Air Monitor's commands (R2..R20), and how the alarm level and the commanded demand may move. -/

namespace Sys2Proof.Machine

/-! ### Commands of the Air Monitor -/

theorem exec_headAnswer {s : State} {p : Poll} (hw : s.working = true) (hp : s.air.poll = some p) (status : HeadStatus)
    {raw : Nat} (hraw : raw ≤ 4095) : exec (.headAnswer p.head status raw) s =
      .next ((s.setAir (s.air.mapHead p.head (fun h => h.answer status raw))).afterPoll p.head) := by
  change execHeadAnswer p.head status raw s = _
  simp [execHeadAnswer, hw, hp, hraw]

theorem exec_headAnswer_other {s : State} {p : Poll} (hw : s.working = true) (hp : s.air.poll = some p) {head : Nat}
    (hne : head ≠ p.head) (status : HeadStatus) (raw : Nat) : exec (.headAnswer head status raw) s = .next s := by
  change execHeadAnswer head status raw s = _
  simp [execHeadAnswer, hw, hp, Ne.symm hne]

theorem exec_headAnswerWindowExpiry {s : State} {p : Poll} (hw : s.working = true) (hp : s.air.poll = some p) :
    exec .headAnswerWindowExpiry s =
      .next (((s.setAir (s.air.mapHead p.head Head.miss)).count .headMiss).afterPoll p.head) := by
  change execHeadAnswerWindowExpiry s = _
  simp [execHeadAnswerWindowExpiry, hw, hp]

theorem exec_pollRoundStart {s : State} (hw : s.working = true) : exec .pollRoundStart s = .next s.startRound := by
  change execPollRoundStart s = _
  simp [execPollRoundStart, hw]

theorem exec_alarmHoldTimerExpiry (s : State) :
    exec .alarmHoldTimerExpiry s = .next (if s.working && s.air.expiring then s.airSample else s) :=
  execAlarmHoldTimerExpiry_eq s

/-- An answer taken: the heads changed, and the poll done. -/
theorem State.mapHead_polled (s : State) (n : Nat) (f : Head → Head) : s.Polled (s.setAir (s.air.mapHead n f)) :=
  ⟨by simp [onlyChanges_iff], rfl, rfl, rfl, rfl⟩

/-- Settles O12: the poll's own meaning, then the record by status. -/
theorem headAnswerSetsTheHeadRecord : Obligations.HeadAnswerSetsTheHeadRecord := by
  intro s p head raw status hw hp hraw
  refine ⟨fun hne => ⟨_, exec_headAnswer_other hw hp hne status raw, rfl⟩, ⟨_, exec_headAnswer hw hp status hraw, ?_⟩,
    fun h _ => ⟨?_, ?_, ?_⟩⟩
  · have hpolled := s.mapHead_polled p.head (fun h => h.answer status raw)
    obtain ⟨hheads, htimer, hpoll, hstays, hends⟩ := hpolled.afterPoll hw p.head
    have hnumbers : (s.air.mapHead p.head (fun h => h.answer status raw)).heads.map (fun h => h.settings.number) =
        s.air.heads.map (fun h => h.settings.number) := by
      refine map_key_mapIf (key := fun h : Head => h.settings.number) fun h => ?_
      cases status <;> rfl
    refine ⟨hheads, htimer, ?_, fun hne => ?_, hends, by simp [onlyChanges_iff]⟩
    · rw [hpoll, ← hnumbers]
      rfl
    · have heq := hstays hne
      exact ⟨by rw [heq]; rfl, by rw [heq]; simp [onlyChanges_iff]⟩
  · rintro rfl
    rfl
  · rintro rfl
    rfl
  · rintro rfl
    refine ⟨?_, rfl, fun hnone => ?_, rfl⟩
    · rw [Head.answer_ok_state]
      refine (if_congr ?_ rfl rfl).trans (ite_not ..)
      omega
    · rw [Head.answer_ok_accumulator, hnone]
      rfl

theorem Head.miss_eq (h : Head) : h.miss = if h.misses + 1 < 3 then { h with misses := h.misses + 1 }
    else { h with state := .fault, misses := 3, accumulator := none, subIndex := none } := by
  rw [Head.miss]
  refine (if_congr ?_ rfl rfl).trans (ite_not ..)
  omega

/-- A round started at rest: its first poll, or its end (R2). -/
theorem State.startRound_resting {s : State} (hw : s.working = true) (hexp : s.air.expiring = false) :
    s.startRound.air.heads = s.air.heads ∧ s.startRound.air.roundTimer = some 1000 ∧
      s.startRound.air.poll = ((s.air.heads.map (fun h => h.settings.number)).find? (fun k => decide (0 < k))).map
        (fun k => { head := k, window := 100 }) ∧
      (s.startRound.air.poll ≠ none →
        s.startRound = s.setAir { s.air with roundTimer := some 1000, poll := s.startRound.air.poll }) ∧
      (s.startRound.air.poll = none → s.RoundEnds s.startRound) := by
  have heq : s.startRound = (s.setAir { s.air with roundTimer := some 1000, poll := none }).afterPoll 0 := by
    simp [State.startRound, hexp, seconds]
  have hpolled : s.Polled (s.setAir { s.air with roundTimer := some 1000, poll := none }) :=
    ⟨by simp [onlyChanges_iff], rfl, rfl, rfl, rfl⟩
  rw [heq]
  exact hpolled.afterPoll hw 0

/-- A round started while the sample of the one before is due takes it first (R2; log 13). -/
theorem State.startRound_expiring {s : State} (hw : s.working = true) (hexp : s.air.expiring = true) :
    s.startRound.air.heads = s.air.heads ∧ s.startRound.air.roundTimer = some 1000 ∧
      s.startRound.air.poll = ((s.air.heads.map (fun h => h.settings.number)).find? (fun k => decide (0 < k))).map
        (fun k => { head := k, window := 100 }) ∧
      s.startRound.air.expiring = false ∧ s.Sampled s.startRound := by
  set u := s.setAir { s.air with roundTimer := some 1000, poll := none } with hu
  have hpolled : s.Polled u := ⟨by simp [onlyChanges_iff, hu], rfl, rfl, rfl, rfl⟩
  have hsampled := hpolled.airSample_sampled hw
  rw [← AirMonitor.headAfter_number]
  have heq : s.startRound = match s.air.headAfter 0 with
      | some h => u.airSample.pollHead h.settings.number
      | none => u.airSample := by
    simp only [State.startRound, hexp, if_true]
    rfl
  rw [heq]
  cases s.air.headAfter 0 with
  | none => exact ⟨by simp [State.airSample_air, hu], by simp [State.airSample_air, hu],
      by simp [State.airSample_air, hu], by simp [State.airSample_air], hsampled⟩
  | some h =>
    obtain ⟨h1, h2, h3, h4, h5, hfloor, hdemand, hcommanded⟩ := hsampled
    refine ⟨by simp [State.pollHead, State.airSample_air, hu], by simp [State.pollHead, State.airSample_air, hu],
      by simp [State.pollHead, pollWindow], by simp [State.pollHead, State.airSample_air], h1, h2, h3, h4, h5, ?_, ?_,
      hcommanded⟩
    · exact hfloor
    · exact hdemand

/-- Settles O13: a round that starts, and a poll that is missed. -/
theorem pollRoundsAndMissedPolls : Obligations.PollRoundsAndMissedPolls := by
  intro s p hw
  refine ⟨⟨_, exec_pollRoundStart hw, ?_⟩, fun hp => ⟨_, exec_headAnswerWindowExpiry hw hp, ?_⟩⟩
  · have honly : OnlyChanges [.air, .vent, .guide, .light, .bus] s s.startRound := by simp [onlyChanges_iff]
    cases hexp : s.air.expiring with
    | false =>
      obtain ⟨hheads, htimer, hpoll, hstays, hends⟩ := State.startRound_resting hw hexp
      refine ⟨htimer, hheads, hpoll, fun _ hne => ?_, fun _ hnone => hends hnone, by simp, honly⟩
      have heq := hstays hne
      exact ⟨by rw [heq]; rfl, by rw [heq]; simp [onlyChanges_iff]⟩
    | true =>
      obtain ⟨hheads, htimer, hpoll, hoff, hsampled⟩ := State.startRound_expiring hw hexp
      exact ⟨htimer, hheads, hpoll, by simp, by simp, fun _ => ⟨hoff, hsampled⟩, honly⟩
  · have hpolled : s.Polled ((s.setAir (s.air.mapHead p.head Head.miss)).count .headMiss) :=
      ⟨by simp [onlyChanges_iff], rfl, rfl, rfl, rfl⟩
    obtain ⟨hheads, htimer, hpoll, hstays, hends⟩ := hpolled.afterPoll hw p.head
    have hnumbers : (s.air.mapHead p.head Head.miss).heads.map (fun h => h.settings.number) =
        s.air.heads.map (fun h => h.settings.number) := by
      refine map_key_mapIf (key := fun h : Head => h.settings.number) fun h => ?_
      rw [Head.miss_eq]
      split <;> rfl
    refine ⟨?_, by simp [State.count], ?_, fun hne => ?_, hends, by simp [onlyChanges_iff]⟩
    · rw [hheads]
      simp only [State.count_air, State.setAir_air, AirMonitor.mapHead, Head.miss_eq]
    · rw [hpoll, ← hnumbers]
      rfl
    · have heq := hstays hne
      exact ⟨by rw [heq]; rfl, by rw [heq]; simp [onlyChanges_iff]⟩

end Sys2Proof.Machine
end

section
/-! PROOFS. The alarm step by its table, the expiry of the hold timer, and the purge line (R14..R20, R24, R28). -/

namespace Sys2Proof.Machine

/-! ### The rows of the alarm step -/

theorem Settings.releasePoint_of_ne {c : Settings} {l : AlarmLevel} (h : l ≠ .clear) :
    c.releasePoint l = max 1 (c.threshold l - c.hysteresis) := by
  cases l with
  | clear => exact absurd rfl h
  | _ => rfl

/-- The threshold of the level met is met (R15). -/
theorem Settings.threshold_levelMet_le (c : Settings) (i : Nat) : c.threshold (c.levelMet i) ≤ i := by
  unfold Settings.levelMet
  (repeat' split) <;> simp_all [Settings.threshold]

theorem Settings.alarmStep_rises {c : Settings} {i : Nat} {l : AlarmLevel} (h : l.code < (c.levelMet i).code)
    (hold : Option Nat) : c.alarmStep (some i) l hold = (c.levelMet i, none) := if_pos h

/-- With no rise, CLEAR stays, and a level at or above its release point stays (R16, R17). -/
theorem Settings.alarmStep_stays {c : Settings} {i : Nat} {l : AlarmLevel} (h : (c.levelMet i).code ≤ l.code)
    (hstay : l = .clear ∨ c.releasePoint l ≤ i) (hold : Option Nat) : c.alarmStep (some i) l hold = (l, none) := by
  simp only [Settings.alarmStep, Nat.not_lt.mpr h, if_false]
  by_cases hl : l = .clear
  · rw [if_pos hl, hl]
  · rw [if_neg hl, if_pos (hstay.resolve_left hl)]

/-- With no rise, a level below its release point steps by hold code and hold count (R17). -/
theorem Settings.alarmStep_below {c : Settings} {i : Nat} {l : AlarmLevel} (h : (c.levelMet i).code ≤ l.code)
    (hl : l ≠ .clear) (hbelow : i < c.releasePoint l) (hold : Option Nat) : c.alarmStep (some i) l hold =
      if clearHold c.holdCode = 0 then (l.lower, none)
      else match hold with
        | none => (l, some 0)
        | some e => if e + 1 < clearHold c.holdCode then (l, some (e + 1)) else c.fallOne i l := by
  simp [Settings.alarmStep, Nat.not_lt.mpr h, hl, Nat.not_le.mpr hbelow] <;> rfl

theorem clearHold_zero : clearHold 0 = 0 := rfl

/-- Settles O14: the rise by the level met, then the rows without a rise. -/
theorem alarmStepFollowsTheTable : Obligations.AlarmStepFollowsTheTable := by
  intro c i e l hold _ _ _
  refine ⟨rfl, fun ⟨m, hm, hlt, hmet⟩ => ?_, fun hnone => ?_⟩
  · have hrise : l.code < (c.levelMet i).code := by
      refine Nat.lt_of_not_le fun hle => ?_
      exact absurd ((c.levelMet_le_iff i l).mp hle m hm hlt) (Nat.not_lt.mpr hmet)
    rw [Settings.alarmStep_rises hrise]
    exact ⟨rfl, hrise, c.threshold_levelMet_le i, (c.levelMet_le_iff i _).mp (Nat.le_refl _)⟩
  · have hle := (c.levelMet_le_iff i l).mpr hnone
    refine ⟨?_, fun hl hstay => ?_, fun hl hbelow => ?_⟩
    · rintro rfl
      exact Settings.alarmStep_stays hle (.inl rfl) hold
    · exact Settings.alarmStep_stays hle (.inr (Settings.releasePoint_of_ne hl ▸ hstay)) hold
    · have hbelow' : i < c.releasePoint l := Settings.releasePoint_of_ne hl ▸ hbelow
      refine ⟨fun hcode => ?_, fun hpos => ⟨?_, fun hlt => ?_, fun heq => ?_⟩⟩ <;>
        rw [Settings.alarmStep_below hle hl hbelow']
      · rw [hcode, clearHold_zero, if_pos rfl]
      · rw [if_neg (by omega)]
      · rw [if_neg (by omega)]
        exact if_pos hlt
      · rw [if_neg (by omega)]
        refine (if_neg (by omega)).trans (Prod.ext rfl ?_)
        refine if_congr ?_ rfl rfl
        by_cases hlower : l.lower = .clear
        · simp [hlower, Settings.releasePoint]
        · simp [hlower, Settings.releasePoint_of_ne hlower]

@[simp] theorem State.setPending_working (s : State) (q : List Instr) : (s.setPending q).working = s.working := rfl

/-! ### ALARM_HOLD_TIMER_EXPIRY (R17; log 13) -/

/-- Whether the sample was awaited plays no part in what it does. -/
theorem State.airSample_setExpiring (s : State) (b : Bool) :
    (s.setAir { s.air with expiring := b }).airSample = s.airSample := rfl

/-- A round whose sample is left to the expiry of the hold timer ends as one whose sample is taken at once. -/
theorem State.roundEnds_left {u : State} (hw : u.working = true) {rest : List Instr}
    (hrest : rest.head? ≠ some .alarmHoldTimerExpiry) :
    (u.setPending rest).roundEnds.air.expiring = false ∧
      exec .alarmHoldTimerExpiry ((u.setPending (.alarmHoldTimerExpiry :: rest)).roundEnds.setPending rest) =
        .next (u.setPending rest).roundEnds := by
  have htaken : (u.setPending rest).roundEnds = u.airSample.setPending rest := by
    rw [← State.airSample_setPending]
    rcases (u.setPending rest).roundEnds_cases with ⟨-, hnext, -⟩ | ⟨-, heq⟩
    · exact absurd hnext hrest
    · exact heq
  rw [htaken]
  refine ⟨by simp [State.airSample_air], ?_⟩
  rw [exec_alarmHoldTimerExpiry]
  rcases (u.setPending (.alarmHoldTimerExpiry :: rest)).roundEnds_cases with ⟨-, -, heq⟩ | ⟨-, heq⟩ <;> rw [heq]
  · have hdue : (((u.setPending (.alarmHoldTimerExpiry :: rest)).setAir { u.air with expiring := true }).setPending
        rest).working = true := hw
    simp only [State.setPending_air, hdue, State.setAir_air, Bool.and_self, if_true]
    exact congrArg Host.Outcome.next
      (((u.setPending rest).airSample_setExpiring true).trans (State.airSample_setPending u rest))
  · simp [State.airSample_air, State.airSample_setPending]

/-- The same of what follows a poll: where the next head is polled, no sample is due. -/
theorem State.afterPoll_left {u : State} (hw : u.working = true) (hexp : u.air.expiring = false) (n : Nat)
    {rest : List Instr} (hrest : rest.head? ≠ some .alarmHoldTimerExpiry) :
    ((u.setPending rest).afterPoll n).air.expiring = false ∧
      exec .alarmHoldTimerExpiry (((u.setPending (.alarmHoldTimerExpiry :: rest)).afterPoll n).setPending rest) =
        .next ((u.setPending rest).afterPoll n) := by
  unfold State.afterPoll
  simp only [State.setPending_air]
  cases u.air.headAfter n with
  | some h =>
    refine ⟨hexp, ?_⟩
    rw [exec_alarmHoldTimerExpiry, if_neg]
    · rfl
    · simp [State.pollHead, hexp]
  | none => exact State.roundEnds_left (u := u.setAir { u.air with poll := none }) hw hrest

/-- A command that does nothing with either queue leaves nothing to the expiry. -/
theorem nothing_left {c : Instr} {s : State} (hexp : s.air.expiring = false) {rest : List Instr}
    (h : ∀ q, exec c (s.setPending q) = .next (s.setPending q)) :
    Answers (exec c (s.setPending rest)) (fun t => t.air.expiring = false ∧
      Answers (exec c (s.setPending (.alarmHoldTimerExpiry :: rest))) (fun u =>
        exec .alarmHoldTimerExpiry (u.setPending rest) = .next t)) := by
  refine ⟨_, h rest, hexp, _, h _, ?_⟩
  beta_reduce
  rw [exec_alarmHoldTimerExpiry, if_neg (by simp [hexp])]
  rfl

/-- A command that ends a poll leaves the same state by either way. -/
theorem poll_left {c : Instr} {s u : State} {n : Nat}
    (h : ∀ q, exec c (s.setPending q) = .next ((u.setPending q).afterPoll n)) (hw : u.working = true)
    (hexp : u.air.expiring = false) {rest : List Instr} (hrest : rest.head? ≠ some .alarmHoldTimerExpiry) :
    Answers (exec c (s.setPending rest)) (fun t => t.air.expiring = false ∧
      Answers (exec c (s.setPending (.alarmHoldTimerExpiry :: rest))) (fun u =>
        exec .alarmHoldTimerExpiry (u.setPending rest) = .next t)) := by
  obtain ⟨hoff, hleft⟩ := State.afterPoll_left hw hexp n hrest
  exact ⟨_, h rest, hoff, _, h _, hleft⟩

theorem exec_headAnswer_taken_or_not (s : State) (head : Nat) (status : HeadStatus) (raw : Nat) :
    (s.working = true ∧ ∀ q, exec (.headAnswer head status raw) (s.setPending q) = .next
        (((s.setAir (s.air.mapHead head (fun h => h.answer status raw))).setPending q).afterPoll head)) ∨
      ∀ q, exec (.headAnswer head status raw) (s.setPending q) = .next (s.setPending q) := by
  cases hw : s.working with
  | false =>
    refine .inr fun q => ?_
    change execHeadAnswer head status raw _ = _
    simp [execHeadAnswer, hw]
  | true =>
    cases hp : s.air.poll with
    | none =>
      refine .inr fun q => ?_
      change execHeadAnswer head status raw _ = _
      simp [execHeadAnswer, hw, hp]
    | some p =>
      by_cases htaken : p.head = head ∧ raw ≤ 4095
      · obtain ⟨rfl, hraw⟩ := htaken
        exact .inl ⟨rfl, fun q => exec_headAnswer (s := s.setPending q) hw hp status hraw⟩
      · refine .inr fun q => ?_
        change execHeadAnswer head status raw _ = _
        simp [execHeadAnswer, hw, hp, htaken]

theorem exec_headAnswerWindowExpiry_taken_or_not (s : State) :
    (s.working = true ∧ ∃ p : Poll, ∀ q, exec .headAnswerWindowExpiry (s.setPending q) = .next
        (((((s.setAir (s.air.mapHead p.head Head.miss)).count .headMiss)).setPending q).afterPoll p.head)) ∨
      ∀ q, exec .headAnswerWindowExpiry (s.setPending q) = .next (s.setPending q) := by
  cases hw : s.working with
  | false =>
    refine .inr fun q => ?_
    change execHeadAnswerWindowExpiry _ = _
    simp [execHeadAnswerWindowExpiry, hw]
  | true =>
    cases hp : s.air.poll with
    | none =>
      refine .inr fun q => ?_
      change execHeadAnswerWindowExpiry _ = _
      simp [execHeadAnswerWindowExpiry, hw, hp]
    | some p => exact .inl ⟨rfl, p, fun q => exec_headAnswerWindowExpiry (s := s.setPending q) hw hp⟩

/-- A change of level at an air sample has closure formed. -/
theorem State.airSample_closed {s : State} (h : s.airSample.air.level ≠ s.air.level) :
    s.airSample.guide.closed = s.airSample.closureHolds := by
  have hair := s.airSample_air
  have hsettled : s.airSample = s.airSettled s.airSample.air := by
    rw [hair]
    rfl
  rw [hsettled, State.airSettled, if_neg h]
  simp [State.closureHolds]

/-- A working station with sound channels has FORCED exactly while the forcing condition holds. -/
theorem State.LightingSound.forced_iff {s : State} (h : s.LightingSound) (hw : s.working = true) :
    ∀ c ∈ s.light.channels, (c.state = .forced ↔ s.forcingHolds = true) := by
  obtain ⟨-, -, hforcing, hfollows⟩ := (State.lightingSound_working hw).mp h
  exact hforcing ▸ hfollows

/-- Settles O15: the sample row by row at the expiry, then that a round left to it ends as any other. -/
theorem holdExpiryLowersTheLevelByOne : Obligations.HoldExpiryLowersTheLevelByOne := by
  intro s e i head raw status c rest
  refine ⟨fun hw _ hwarning halarm hexp hhold hindex hpos hle hbelow => ?_, fun hrest => ⟨_, exec_alarmHoldTimerExpiry s, ?_⟩,
    fun hexp hc hnext => ?_⟩
  · have hl : s.air.level ≠ .clear := fun h => (s.settings.releasePoint_clear i) (h ▸ hbelow)
    have hmet : (s.settings.levelMet i).code ≤ s.air.level.code := by
      rw [Settings.levelMet_le_iff]
      rw [Settings.releasePoint_of_ne hl] at hbelow
      cases hlevel : s.air.level <;> simp_all [AlarmLevel.withThreshold, AlarmLevel.code, Settings.threshold] <;> omega
    have hstep : s.settings.alarmStep (some i) s.air.level (some e) = s.settings.fallOne i s.air.level := by
      rw [Settings.alarmStep_below hmet hl hbelow, if_neg (by omega)]
      exact if_neg (by omega)
    have hair := s.airSample_air
    rw [show s.air.indexNow = some i from hindex, hhold, hstep] at hair
    refine ⟨_, (exec_alarmHoldTimerExpiry s).trans (by rw [hw, hexp]; rfl), hair, ?_, ?_⟩
    · have hpolled : s.Polled s := ⟨by simp [onlyChanges_iff], rfl, rfl, rfl, rfl⟩
      exact hpolled.airSample_sampled hw
    · have hne : s.airSample.air.level ≠ s.air.level := by
        rw [hair]
        cases h : s.air.level <;> simp_all [Settings.fallOne, AlarmLevel.lower]
      have hsettled : s.airSettled s.airSample.air = s.airSample := by
        rw [State.airSample_air]
        rfl
      have halert := (State.airSettled_alert hw s.airSample.air).1 hne
      exact ⟨hsettled ▸ halert, State.airSample_closed hne, fun hlight =>
        (hlight.airSample hw).forced_iff ((State.working_eq (by simp)).trans hw), by simp [onlyChanges_iff]⟩
  · rw [if_neg]
    rcases hrest with h | h <;> simp [h]
  · simp only [List.mem_cons, List.not_mem_nil, or_false] at hc
    rcases hc with rfl | rfl | rfl
    · rcases exec_headAnswer_taken_or_not s head status raw with ⟨hw, h⟩ | h
      · exact poll_left h hw hexp hnext
      · exact nothing_left hexp h
    · rcases exec_headAnswerWindowExpiry_taken_or_not s with ⟨hw, p, h⟩ | h
      · exact poll_left h hw hexp hnext
      · exact nothing_left hexp h
    · cases hw : s.working with
      | false =>
        refine nothing_left hexp fun q => ?_
        change execPollRoundStart _ = _
        simp [execPollRoundStart, hw]
      | true =>
        refine poll_left (u := s.setAir { s.air with roundTimer := some (seconds 1), poll := none }) (n := 0)
          (fun q => ?_) hw hexp hnext
        rw [exec_pollRoundStart (s := s.setPending q) hw]
        simp [State.startRound, hexp]
        rfl

/-! ### The Guidance Unit outside NORMAL (R96) -/

theorem Rows.significant_self (r : Rows) : r.significant r = false := by
  simp [Rows.significant, Row.significant]

/-- Outside NORMAL no route is evaluated, and no change of one told (R96, R100). -/
theorem State.guidanceTold_bus_of_ne_normal {s : State} (h : s.station ≠ .normal) (cause atCapture : Bool) :
    (s.guidanceTold cause atCapture).bus = s.bus := by
  unfold State.guidanceTold
  dsimp only
  split
  · rw [if_neg]
    · simp [State.rowsEvaluated, h]
    · simp [State.rowsEvaluated, h, State.formImages, Rows.significant_self]
  · rfl

/-! ### The purge line (R28) -/

theorem exec_purgeFilterChange {s : State} {v : Bool} (hst : s.station ≠ .heldInReset)
    (hv : s.inputs.purge.filtered ≠ v) : exec (.purgeFilterChange v) s = .next (
      if s.working then (((s.setInputs { s.inputs with purge := s.inputs.purge.take v }).queueAlert.recompute
        false).guidanceTold false false).formForcing
      else (s.setInputs { s.inputs with purge := s.inputs.purge.take v }).guidanceTold false false) := by
  change execPurgeFilterChange v s = _
  simp only [execPurgeFilterChange, hst, hv, or_self, if_false]
  split <;> rfl

/-- Settles O17: the change kept, then closure, demand, the ALERT and forcing in their order. -/
theorem purgeChangeReachesEveryBlock : Obligations.PurgeChangeReachesEveryBlock := by
  intro s v hst hv
  refine ⟨_, exec_purgeFilterChange hst hv, ?_⟩
  set taken := s.setInputs { s.inputs with purge := s.inputs.purge.take v } with htaken
  cases hw : s.working with
  | false =>
    have hbus : (taken.guidanceTold false false).bus = s.bus :=
      taken.guidanceTold_bus_of_ne_normal (fun h => by simp [State.working, show s.station = .normal from h] at hw) _ _
    refine ⟨by simp [htaken, FilteredInput.take], ?_, by simp, fun _ => ?_⟩
    · simp [State.closureHolds]
    · rw [onlyChanges_iff]
      simp only [Bool.false_eq_true, if_false, hbus]
      simp [htaken]
  | true =>
    have hworking : taken.queueAlert.working = true := (State.working_eq (by simp [htaken])).trans hw
    refine ⟨by simp [htaken, FilteredInput.take], ?_, fun _ => ?_, by simp⟩
    · simp [State.closureHolds]
    · obtain ⟨hfloor, hdemand, hcommanded⟩ := State.recompute_formed hworking false
      set told := ((taken.queueAlert.recompute false).guidanceTold false false).formForcing with htold
      have hvent : told.vent = (taken.queueAlert.recompute false).vent := by simp [htold]
      have hfloorNow : told.floorNow = (taken.queueAlert.recompute false).floorNow :=
        State.floorNow_congr (by simp [htold]) (by simp [htold]) (by simp [htold]) (by simp [htold])
      have hdemandNow : told.demandNow = (taken.queueAlert.recompute false).demandNow :=
        State.demandNow_congr (by simp [htold]) (by simp [htold]) (by simp [htold]) (by simp [htold]) (by simp [htold])
          (by simp [htold])
      simp only [if_true]
      rw [hvent, hfloorNow, hdemandNow]
      refine ⟨hfloor, hdemand, by simpa [htaken] using hcommanded, fun hon => ?_, fun _ => ?_, fun hlight => ?_, ?_⟩
      · rw [hfloor]
        simp [State.floorNow, htaken, FilteredInput.take, hon]
      · have halert : taken.AlertQueued taken.queueAlert := State.queueAlert_alertQueued hw
        have hkept := (alertQueue_tellKeeps taken.queueAlert.bus.queues.alert).guidanceTold _ false false
          ((alertQueue_tellKeeps _).recompute taken.queueAlert false rfl)
        rw [State.AlertQueued, htold, State.formForcing_bus, hkept]
        exact halert
      · have heffect : Effect s (.purgeFilterChange v) told := .purgeWorking hw v hv taken htaken
        exact (heffect.lightingSound hlight).forced_iff ((State.working_eq (by simp [htold, htaken])).trans hw)
      · simp [onlyChanges_iff, htold, htaken]

/-! ### The effective index (R24) -/

theorem largest_eq_max? (l : List Nat) : largest l = l.max? := by
  cases l <;> rfl

theorem largest_eq_some_iff {l : List Nat} {m : Nat} : largest l = some m ↔ m ∈ l ∧ ∀ x ∈ l, x ≤ m := by
  rw [largest_eq_max?, List.max?_eq_some_iff]

theorem largest_eq_none_iff {l : List Nat} : largest l = none ↔ l = [] := by
  rw [largest_eq_max?, List.max?_eq_none_iff]

theorem Peer.upstreamIndex_eq_some_iff {p : Peer} {x : Nat} : p.upstreamIndex = some x ↔
    p.state = .fresh ∧ ∃ c ∈ p.static?.toList, 0 < c.weight ∧
      p.heard.airIndex.map (fun i => i * c.weight / 100) = some x := by
  unfold Peer.upstreamIndex Peer.static?
  cases p.origin <;> cases p.state <;> cases p.heard.airIndex <;> simp

/-- What enters the effective index is what is offered (R24). -/
theorem State.indexOffered_iff (s : State) (x : Nat) : s.IndexOffered x ↔
    x ∈ s.air.ownIndex.toList ++ s.peers.slots.filterMap (fun slot => slot.bind Peer.upstreamIndex) := by
  simp only [State.IndexOffered, List.mem_append, Option.mem_toList, List.mem_filterMap, id, exists_eq_right,
    Option.bind_eq_some_iff]
  refine or_congr Iff.rfl ⟨fun ⟨p, hp, hx⟩ => ⟨some p, hp, p, rfl, Peer.upstreamIndex_eq_some_iff.mpr ?_⟩,
    fun ⟨slot, hslot, p, hp, hx⟩ => ⟨p, hp ▸ hslot, ?_⟩⟩
  · simpa using hx
  · simpa using Peer.upstreamIndex_eq_some_iff.mp hx

/-- Settles O19: the effective index as the largest of what is offered, and the air sample's one step of demand. -/
theorem airSampleStepsDemand : Obligations.AirSampleStepsDemand := by
  intro s hw
  have hpolled : s.Polled s := ⟨by simp [onlyChanges_iff], rfl, rfl, rfl, rfl⟩
  obtain ⟨-, -, -, -, -, hdemand⟩ := hpolled.airSample_sampled hw
  refine ⟨fun e => ?_, ?_, hdemand⟩
  · simp only [s.indexOffered_iff, State.effectiveIndex, largest_eq_some_iff]
  · simp only [s.indexOffered_iff, State.effectiveIndex, largest_eq_none_iff, List.eq_nil_iff_forall_not_mem]

end Sys2Proof.Machine
end

section
/-! PROOFS. How the alarm level and the commanded demand may move, and the floor they keep (R15, R17, R19, R27, R31, R32). -/

namespace Sys2Proof.Machine

/-! ### Moves between station states (R172..R178) -/

theorem CommandEffect.station {s t : State} {code : Nat} (e : CommandEffect s code t) : t.station = s.station := by
  cases e <;> simp

theorem ServiceEffect.station {s t : State} {code : Nat} (e : ServiceEffect s code t) :
    t.station = s.station ∨ t.station = .starting := by
  cases e with
  | unanswered _ _ e => exact .inl e.station
  | answered _ _ _ e => exact .inl (by simpa using e.station)
  | restartAnswered _ _ _ _ _ _ ht => exact .inl (by simp [ht])
  | restarted => exact .inr rfl
  | _ => exact .inl (by simp)

theorem FrameEffect.station {s t : State} {codes : Nat → Prop} (e : FrameEffect s codes t) :
    t.station = s.station ∨ t.station = .starting := by
  cases e with
  | service _ _ _ e => simpa using e.station
  | _ => exact .inl (by simp)

/-- A command keeps the station state, leaves LISTENING and NORMAL, reads a record that passes, or ends LISTENING. -/
theorem Effect.station_cases {s t : State} {c : Instr} (e : Effect s c t) :
    t.station = s.station ∨ t.working = false ∨
      (s.station = .starting ∧ ∃ record : List Byte, recordPasses (record.take 260) = true ∧
        t = s.enterListening (record.take 260) (settingsOfRecord (record.take 260)).value
          (settingsOfRecord (record.take 260)).corrections) ∨
      s.station = .listening ∧ t.station = .normal := by
  cases e with
  | reset _ st _ _ hst => exact .inr (.inl (by rcases hst with rfl | rfl <;> simp [State.working]))
  | listens record hst hpass => exact .inr (.inr (.inl ⟨hst, record, hpass, rfl⟩))
  | fallsBack => exact .inr (.inl (by simp [State.working, State.enterFallback]))
  | entersNormal hst => exact .inr (.inr (.inr ⟨hst, by simp⟩))
  | purgeWorking _ _ _ _ h => exact .inl (by simp [h])
  | purgeResting _ _ _ _ _ h => exact .inl (by simp [h])
  | motionStarts _ _ _ h => exact .inl (by simp [h])
  | motionEnds _ _ _ h => exact .inl (by simp [h])
  | loopMoves _ _ _ _ _ _ _ _ _ next _ _ h => cases hp : next.2 <;> exact .inl (by simp [h])
  | droppedRestarts => exact .inr (.inl (by simp [State.working]))
  | sentRestarts => exact .inr (.inl (by simp [State.working]))
  | idles _ _ h _ ht => rcases ht with rfl | rfl <;> exact .inl (by simp [h])
  | idleSelects _ _ _ h _ ht => rcases ht with rfl | rfl <;> exact .inl (by simp [h])
  | frame _ _ _ e => exact e.station.imp_right fun h => .inl (by simp [State.working, h])
  | _ => exact .inl (by simp)

/-! ### What demand does at a command (R27, R31, R32) -/

/-- From `s` to `t` demand stands, and so do the terms of its floor (R27). -/
structure State.DemandKept (s t : State) : Prop where
  floor : t.vent.floor = s.vent.floor
  demand : t.vent.demand = s.vent.demand
  commanded : t.vent.commanded = s.vent.commanded
  settings : t.settings = s.settings
  level : t.air.level = s.air.level
  ownIndex : t.air.ownIndex = s.air.ownIndex
  sympathy : t.peers.sympathy = s.peers.sympathy
  purge : t.inputs.purge.filtered = s.inputs.purge.filtered

theorem State.DemandKept.floorNow {s t : State} (h : s.DemandKept t) : t.floorNow = s.floorNow := by
  simp only [State.floorNow, h.settings, h.level, h.ownIndex, h.sympathy, h.purge]

theorem State.demandKept_iff {s t : State} : s.DemandKept t ↔ t.vent.floor = s.vent.floor ∧
    t.vent.demand = s.vent.demand ∧ t.vent.commanded = s.vent.commanded ∧ t.settings = s.settings ∧
      t.air.level = s.air.level ∧ t.air.ownIndex = s.air.ownIndex ∧ t.peers.sympathy = s.peers.sympathy ∧
        t.inputs.purge.filtered = s.inputs.purge.filtered :=
  ⟨fun ⟨h1, h2, h3, h4, h5, h6, h7, h8⟩ => ⟨h1, h2, h3, h4, h5, h6, h7, h8⟩,
    fun ⟨h1, h2, h3, h4, h5, h6, h7, h8⟩ => ⟨h1, h2, h3, h4, h5, h6, h7, h8⟩⟩

/-- From `s` to `t` demand has been formed: the floor is the one that stands, D and C are not below it, C rises by the up
rate at most but to the floor, and without an air sample it does not fall (R31, R32). -/
structure State.DemandSet (sample : Bool) (s t : State) : Prop where
  floor : t.vent.floor = t.floorNow
  demand : t.vent.floor ≤ t.vent.demand
  commanded : t.vent.floor ≤ t.vent.commanded
  rises : t.vent.commanded ≤ max t.vent.floor (s.vent.commanded + s.settings.upRate)
  falls : sample = false → s.vent.commanded ≤ t.vent.commanded

/-- What a command does with demand: it stands, or it is formed. -/
abbrev State.DemandMoves (sample : Bool) (s t : State) : Prop := s.DemandKept t ∨ s.DemandSet sample t

theorem State.DemandKept.trans {s t u : State} (h : s.DemandKept t) (g : t.DemandKept u) : s.DemandKept u :=
  ⟨g.floor.trans h.floor, g.demand.trans h.demand, g.commanded.trans h.commanded, g.settings.trans h.settings,
    g.level.trans h.level, g.ownIndex.trans h.ownIndex, g.sympathy.trans h.sympathy, g.purge.trans h.purge⟩

theorem State.DemandSet.then {b : Bool} {s t u : State} (h : s.DemandSet b t) (g : t.DemandKept u) : s.DemandSet b u := by
  obtain ⟨h1, h2, h3, h4, h5⟩ := h
  constructor <;> simp only [g.floor, g.demand, g.commanded, g.floorNow] <;> assumption

theorem State.DemandMoves.then {b : Bool} {s t u : State} (h : s.DemandMoves b t) (g : t.DemandKept u) :
    s.DemandMoves b u := h.imp (·.trans g) (·.then g)

theorem State.recompute_demandSet {s : State} (hw : s.working = true) (b : Bool) : s.DemandSet b (s.recompute b) := by
  obtain ⟨hfloor, hdemand, hcommanded⟩ := State.recompute_formed hw b
  have hstep := stepCommanded_le s.settings (s.recompute b).vent.demand s.vent.commanded
  refine ⟨hfloor, ?_, ?_, ?_, ?_⟩
  · rw [hfloor, hdemand]
    exact (s.recompute b).floorNow_le_demandNow
  all_goals rw [hcommanded]
  · exact Nat.le_max_right _ _
  · split <;> omega
  · rintro rfl
    exact Nat.le_max_left _ _

/-- Demand is set by the commanded value and the settings it starts from alone. -/
theorem State.DemandSet.of_start {b : Bool} {s u t : State} (h : u.DemandSet b t)
    (hc : u.vent.commanded = s.vent.commanded) (hset : u.settings = s.settings) : s.DemandSet b t :=
  ⟨h.floor, h.demand, h.commanded, by simpa only [hc, hset] using h.rises, by simpa only [hc] using h.falls⟩

theorem State.DemandMoves.after {b : Bool} {s t u : State} (g : t.DemandMoves b u) (h : s.DemandKept t) :
    s.DemandMoves b u := g.imp h.trans (·.of_start h.commanded h.settings)

@[simp] theorem State.allocate_floor (s : State) : s.allocate.vent.floor = s.vent.floor := s.allocate_sameDemand.floor

@[simp] theorem State.allocate_demand (s : State) : s.allocate.vent.demand = s.vent.demand := s.allocate_sameDemand.demand

@[simp] theorem State.allocate_commanded (s : State) : s.allocate.vent.commanded = s.vent.commanded :=
  s.allocate_sameDemand.commanded

/-- Fans changed and some out of the run list: demand stands. -/
theorem Ventilation.SameDemand.allocate {s : State} {v : Ventilation} (h : v.SameDemand s.vent) :
    s.DemandKept (s.setVent v).allocate :=
  ⟨by simpa using h.floor, by simpa using h.demand, by simpa using h.commanded, by simp, by simp, by simp, by simp, by simp⟩

theorem Ventilation.dropFan_sameDemand (v : Ventilation) (n : Nat) : (v.dropFan n).SameDemand v :=
  (Ventilation.setRunList_sameDemand _ _).trans ⟨rfl, rfl, rfl, rfl⟩

/-! ### Air samples and rounds -/

theorem State.airSettled_demandSet {s : State} (hw : s.working = true) (air : AirMonitor) :
    s.DemandSet true (s.airSettled air) := by
  obtain ⟨hfloor, hdemand, hcommanded⟩ := State.airSettled_demand hw air
  have hstep := stepCommanded_le s.settings (s.airSettled air).vent.demand s.vent.commanded
  refine ⟨hfloor, ?_, ?_, ?_, fun h => Bool.noConfusion h⟩
  · rw [hfloor, hdemand]
    exact (s.airSettled air).floorNow_le_demandNow
  all_goals rw [hcommanded]
  · exact Nat.le_max_right _ _
  · omega

theorem State.airSample_demandSet {s : State} (hw : s.working = true) : s.DemandSet true s.airSample :=
  State.airSettled_demandSet hw _

theorem State.roundEnds_demandMoves {s : State} (hw : s.working = true) : s.DemandMoves true s.roundEnds := by
  rcases s.roundEnds_cases with ⟨-, -, heq⟩ | ⟨-, heq⟩ <;> rw [heq]
  · exact .inl (by simp [State.demandKept_iff])
  · exact .inr (State.airSample_demandSet hw)

theorem State.afterPoll_demandMoves {s : State} (hw : s.working = true) (n : Nat) : s.DemandMoves true (s.afterPoll n) := by
  unfold State.afterPoll
  split
  · exact .inl (by simp [State.demandKept_iff, State.pollHead])
  · have hmoves := State.roundEnds_demandMoves (s := s.setAir { s.air with poll := none }) hw
    exact State.DemandMoves.after hmoves (by simp [State.demandKept_iff])

theorem State.startRound_demandMoves {s : State} (hw : s.working = true) : s.DemandMoves true s.startRound := by
  rcases s.startRound_cases with ⟨-, heq⟩ | ⟨-, t, ht, heq⟩
  · rw [heq]
    have hmoves := State.afterPoll_demandMoves
      (s := s.setAir { s.air with roundTimer := some (seconds 1), poll := none }) hw 0
    exact State.DemandMoves.after hmoves (by simp [State.demandKept_iff])
  · have hset : s.DemandSet true t := by
      have hset := State.airSample_demandSet
        (s := s.setAir { s.air with roundTimer := some (seconds 1), poll := none }) hw
      exact ht ▸ hset.of_start rfl rfl
    rcases heq with heq | ⟨_, -, heq⟩ <;> rw [heq]
    · exact .inr hset
    · exact .inr (hset.then (by simp [State.demandKept_iff, State.pollHead]))

/-! ### Every command -/

theorem State.peersChanged_demandMoves {s : State} (hw : s.working = true) (slots : List (Option Peer)) (b : Bool) :
    s.DemandMoves false (s.peersChanged slots b) := by
  unfold State.peersChanged
  dsimp only
  have hventilated : s.DemandMoves false
      (if sympathyHolds s.settings.levelNumber slots != s.peers.sympathy || upstreamChanged s.peers.slots slots then
        (s.setPeers { s.peers with slots := slots, sympathy := sympathyHolds s.settings.levelNumber slots }).recompute false
      else s.setPeers { s.peers with slots := slots, sympathy := sympathyHolds s.settings.levelNumber slots }) := by
    split
    · have hset := State.recompute_demandSet (s := s.setPeers
        { s.peers with slots := slots, sympathy := sympathyHolds s.settings.levelNumber slots }) hw false
      exact .inr (hset.of_start rfl rfl)
    · rename_i hnone
      simp only [Bool.or_eq_true, not_or, bne_iff_ne, ne_eq, not_not] at hnone
      exact .inl ⟨rfl, rfl, rfl, rfl, rfl, rfl, hnone.1, rfl⟩
  split
  · exact State.DemandMoves.then hventilated (by simp [State.demandKept_iff])
  · exact hventilated

theorem State.takeBulletin_demandMoves {s : State} (hw : s.working = true) (source : Byte) (b : Bulletin) :
    s.DemandMoves false (s.takeBulletin source b) := by
  rcases s.takeBulletin_cases source b with ⟨n, heq⟩ | ⟨slots, -, -, -, -, heq⟩ <;> rw [heq]
  · exact .inl (by simp [State.demandKept_iff])
  · exact State.DemandMoves.then (State.peersChanged_demandMoves hw slots (s.statusOfDrive source.toNat b))
      (by simp [State.demandKept_iff])

theorem State.withOverride_demandMoves {s : State} (hw : s.working = true) (o : Option FanOverride) :
    s.DemandMoves false (s.withOverride o) :=
  State.DemandMoves.after (.inr (State.recompute_demandSet (s := s.setVent { s.vent with override := o }) hw false))
    (by simp [State.demandKept_iff])

theorem CommandEffect.demandMoves {s t : State} {code : Nat} (e : CommandEffect s code t) (hw : s.working = true) :
    s.DemandMoves false t := by
  cases e with
  | overrideSet o => exact State.withOverride_demandMoves hw (some o)
  | overrideCleared => exact State.withOverride_demandMoves hw none
  | lockedOut n =>
    exact .inl (((Ventilation.dropFan_sameDemand _ n).trans (Ventilation.mapFan_sameDemand _ _ _)).allocate)
  | returned => exact .inl (Ventilation.mapFan_sameDemand _ _ _).allocate
  | _ => exact .inl (by simp [State.demandKept_iff])

theorem ServiceEffect.demandMoves {s t : State} {code : Nat} (e : ServiceEffect s code t) (hw : s.working = true)
    (ht : t.working = true) : s.DemandMoves false t := by
  cases e with
  | unanswered _ _ e => exact e.demandMoves hw
  | answered _ _ _ e => exact State.DemandMoves.then (e.demandMoves hw) (by simp [State.demandKept_iff])
  | restartAnswered _ _ _ _ _ _ hjoined => exact .inl (by simp [State.demandKept_iff, hjoined])
  | restarted => exact absurd ht (by simp [State.working])
  | _ => exact .inl (by simp [State.demandKept_iff])

theorem State.frameAccepted_demandKept (s : State) : s.DemandKept s.frameAccepted := (by simp [State.demandKept_iff])

theorem FrameEffect.demandMoves {s t : State} {codes : Nat → Prop} (e : FrameEffect s codes t) (hw : s.working = true)
    (ht : t.working = true) : s.DemandMoves false t := by
  cases e with
  | bulletin _ source b =>
    exact State.DemandMoves.after (State.takeBulletin_demandMoves (s := s.frameAccepted) hw source b)
      s.frameAccepted_demandKept
  | service _ _ _ e => exact State.DemandMoves.after (e.demandMoves hw ht) s.frameAccepted_demandKept
  | _ => exact .inl (by simp [State.demandKept_iff])

theorem State.DemandMoves.weaken {b : Bool} {s t : State} (h : s.DemandMoves false t) : s.DemandMoves b t :=
  h.imp_right fun g => ⟨g.floor, g.demand, g.commanded, g.rises, fun _ => g.falls rfl⟩

theorem Effect.demandMoves {s t : State} {c : Instr} (e : Effect s c t) (hw : s.working = true) (ht : t.working = true) :
    s.DemandMoves (maySample c) t := by
  cases e with
  | reset _ st _ _ hst => rcases hst with rfl | rfl <;> exact absurd ht (by simp [State.working])
  | listens _ hst => simp [State.working, hst] at hw
  | fallsBack _ hst => simp [State.working, hst] at hw
  | roundStarts => exact State.startRound_demandMoves hw
  | headAnswers _ p _ status raw =>
    have hmoves := State.afterPoll_demandMoves (s := s.setAir (s.air.mapHead p.head (fun h => h.answer status raw))) hw p.head
    exact State.DemandMoves.after hmoves (by simp [State.demandKept_iff, AirMonitor.mapHead])
  | headMisses _ p _ =>
    have hmoves := State.afterPoll_demandMoves (s := (s.setAir (s.air.mapHead p.head Head.miss)).count .headMiss) hw p.head
    exact State.DemandMoves.after hmoves (by simp [State.demandKept_iff, AirMonitor.mapHead])
  | sampled => exact .inr (State.airSample_demandSet hw)
  | purgeWorking _ v _ taken htaken =>
    have hworking : taken.queueAlert.working = true := (State.working_eq (by simp [htaken])).trans hw
    have hset := (State.recompute_demandSet hworking false).of_start (s := s) (by simp [htaken]) (by simp [htaken])
    exact .inr (hset.then (by simp [State.demandKept_iff]))
  | purgeResting h => exact absurd hw (by simp [h])
  | confirmStarts _ n =>
    have hkept := Ventilation.SameDemand.allocate
      (s := s.setInputs { s.inputs with runConfirm := takeAt s.inputs.runConfirm n true })
      (s.vent.mapFan_sameDemand n (fun x => x.inState .running))
    exact .inl (State.DemandKept.trans (by simp [State.demandKept_iff]) hkept)
  | lossSet => exact .inl (by simp [State.demandKept_iff, Ventilation.mapFan])
  | fanFails _ _ n =>
    exact .inl (((Ventilation.dropFan_sameDemand _ n).trans (Ventilation.mapFan_sameDemand _ _ _)).allocate)
  | fallbackStarts => exact .inl (Ventilation.mapFan_sameDemand _ _ _).allocate
  | coasted => exact .inl (Ventilation.mapFan_sameDemand _ _ _).allocate
  | overrideExpires => exact State.withOverride_demandMoves hw none
  | loopMoves _ n loop _ g _ _ inputs hin next _ moved hmoved =>
    have hkept : s.DemandKept moved := by
      cases loop <;> exact ⟨by simp [hmoved], by simp [hmoved], by simp [hmoved], by simp [hmoved], by simp [hmoved],
        by simp [hmoved], by simp [hmoved], by simp [hmoved, hin, Inputs.takeLoop]⟩
    cases next.2 with
    | none => exact .inl hkept
    | some p =>
      exact .inl (hkept.trans (by simp [State.demandKept_iff]))
  | swept =>
    have hmoves := State.peersChanged_demandMoves
      (s := s.setPeers { s.peers with sweepTimer := some (seconds s.settings.sweepInterval) }) hw
      (s.peers.slots.map (fun slot => slot.bind Peer.sweep)) false
    exact State.DemandMoves.after hmoves (by simp [State.demandKept_iff])
  | motionStarts _ _ _ h =>
    exact .inl (by simp [State.demandKept_iff, h])
  | motionEnds _ _ _ h =>
    exact .inl (by simp [State.demandKept_iff, h])
  | droppedRestarts => exact absurd ht (by simp [State.working])
  | sentRestarts => exact absurd ht (by simp [State.working])
  | idles _ _ h _ hidle =>
    rcases hidle with rfl | rfl <;> exact .inl (by simp [State.demandKept_iff, h])
  | idleSelects _ _ _ h _ hidle =>
    rcases hidle with rfl | rfl <;> exact .inl (by simp [State.demandKept_iff, h])
  | frame _ _ _ e => exact State.DemandMoves.weaken (e.demandMoves hw ht)
  | _ => exact .inl (by simp [State.demandKept_iff])

/-- Settles O20: by what each command does with demand. -/
theorem commandedDemandFallsOnlyAtAnAirSample : Obligations.CommandedDemandFallsOnlyAtAnAirSample := by
  intro c s hw
  refine answers_of_effect fun t e ht => ?_
  rcases e.demandMoves hw ht with hkept | hset
  · rw [hkept.commanded]
    exact ⟨fun h => absurd h (Nat.lt_irrefl _), by omega⟩
  · refine ⟨fun hlt => ?_, hset.rises⟩
    by_contra hno
    exact absurd (hset.falls (Bool.eq_false_of_not_eq_true hno)) (Nat.not_le.mpr hlt)

end Sys2Proof.Machine
end

section
/-! PROOFS. Every step keeps the Air Monitor and the demand sound (R1, R12..R19, R22, R27, R31). -/

namespace Sys2Proof.Machine

/-! ### One head (R1) -/

/-- What an answer or a missed poll keeps of a legal head record: its legality and its settings. -/
def Head.Keeps (f : Head → Head) : Prop := ∀ h : Head, (f h).settings = h.settings ∧ (h.Legal → (f h).Legal)

theorem subIndexOf_le (a limit : Nat) : subIndexOf a limit ≤ 999 := Nat.min_le_left _ _

theorem Head.answer_keeps {raw : Nat} (hraw : raw ≤ 4095) (status : HeadStatus) :
    Head.Keeps (fun h => h.answer status raw) := by
  intro h
  refine ⟨by cases status <;> rfl, fun ⟨hnumber, hscale, _, _, _, hacc, _⟩ => ?_⟩
  cases status with
  | ok =>
    have hc : concentration raw h.settings.fullScale ≤ 1000 := (concentration_le_fullScale hraw _).trans hscale
    have hnext : nextAccumulator h.settings.shift (concentration raw h.settings.fullScale) h.accumulator ≤ 16000 := by
      cases ha : h.accumulator with
      | none =>
        simp only [nextAccumulator]
        omega
      | some a => exact nextAccumulator_le_16000 (by simpa [ha] using hacc) hc _
    refine ⟨hnumber, hscale, Nat.zero_le 3, by simp [Head.answer, Head.answerOk], ?_, hnext, subIndexOf_le _ _⟩
    by_cases hvalid : raw ≤ 4094 <;> simp [Head.answer, Head.answerOk, hvalid]
  | warmup =>
    exact ⟨hnumber, hscale, Nat.zero_le 3, by simp [Head.answer, Head.answerWarmup],
      by simp [Head.answer, Head.answerWarmup], Nat.zero_le _, Nat.zero_le _⟩
  | fault =>
    exact ⟨hnumber, hscale, Nat.zero_le 3, by simp [Head.answer, Head.answerFault],
      by simp [Head.answer, Head.answerFault], Nat.zero_le _, Nat.zero_le _⟩

theorem Head.miss_keeps : Head.Keeps Head.miss := by
  intro h
  unfold Head.miss
  split
  · exact ⟨rfl, fun ⟨hnumber, hscale, _⟩ => ⟨hnumber, hscale, Nat.le_refl 3, by simp, by simp, Nat.zero_le _, Nat.zero_le _⟩⟩
  · refine ⟨rfl, fun ⟨hnumber, hscale, _, hrest⟩ => ⟨hnumber, hscale, ?_, hrest⟩⟩
    simp only
    omega

theorem Head.fresh_legal {c : HeadSettings} (hnumber : 1 ≤ c.number) (hscale : c.fullScale ≤ 1000) :
    (Head.fresh c).Legal :=
  ⟨hnumber, hscale, Nat.zero_le 3, by simp [Head.fresh], by simp [Head.fresh], Nat.zero_le _, Nat.zero_le _⟩

/-- What a head offers is what its record at the last sample offers (R12). -/
theorem Head.sampled_offers (h : Head) : h.sampled.offers = h.offers := by
  unfold SampledHead.offers Head.offers Head.sampled
  cases h.state <;> simp

theorem largest_getD_le {l : List Nat} {n : Nat} (h : ∀ x ∈ l, x ≤ n) : (largest l).getD 0 ≤ n := by
  cases hl : largest l with
  | none => exact Nat.zero_le n
  | some m => exact h m (largest_eq_some_iff.mp hl).1

theorem Head.Legal.offers_le {h : Head} (hlegal : h.Legal) {x : Nat} (hx : h.offers = some x) : x ≤ 999 := by
  obtain ⟨-, -, -, -, -, -, hsub⟩ := hlegal
  unfold Head.offers at hx
  cases hs : h.state <;> simp_all

/-! ### The Air Monitor (R1, R12, R16, R17) -/

/-- The head records, and the heads others read by number (R1, R13). -/
structure AirMonitor.RecordsSound (a : AirMonitor) : Prop where
  legal : ∀ h ∈ a.heads, h.Legal
  ascending : Ascending (a.heads.map (fun h => h.settings.number))
  sampled : a.sampled.map SampledHead.number = a.heads.map (fun h => h.settings.number)

/-- The own index and the hold timer as the last sample left them (R12, R14, R16). -/
structure AirMonitor.ResultsSound (a : AirMonitor) (c : Settings) : Prop where
  index : a.ownIndex = largest (a.sampled.filterMap SampledHead.offers)
  range : a.ownIndex.getD 0 ≤ 999
  hold : HoldSound c a.ownIndex a.level a.holdTimer

theorem State.airSound_iff (s : State) : s.AirSound ↔ s.air.RecordsSound ∧ s.air.ResultsSound s.settings ∧
    (s.air.poll = none → s.air.expiring = false → s.air.sampled = s.air.heads.map Head.sampled) ∧
    (s.working = false → s.air = .afterReset) ∧
    (s.air.expiring = true → s.air.poll = none ∧ s.pending.head? = some .alarmHoldTimerExpiry ∧
      s.settings.HoldExpires s.air.level s.air.holdTimer s.air.heads) := by
  constructor
  · rintro ⟨h1, h2, h3, h4, h5, h6, h7, h8, h9⟩
    exact ⟨⟨h1, h2, h3⟩, ⟨h5, h6, h8⟩, h4, h7, h9⟩
  · rintro ⟨⟨h1, h2, h3⟩, ⟨h5, h6, h8⟩, h4, h7, h9⟩
    exact ⟨h1, h2, h3, h4, h5, h6, h7, h8, h9⟩

theorem State.airSound_afterReset {s : State} (h : s.air = .afterReset) : s.AirSound := by
  rw [State.airSound_iff, h]
  refine ⟨⟨by simp [AirMonitor.afterReset], by simp [AirMonitor.afterReset], rfl⟩, ⟨rfl, Nat.zero_le _, ?_⟩, fun _ _ => rfl,
    fun _ => rfl, fun hexp => by simp [AirMonitor.afterReset] at hexp⟩
  simp [HoldSound, AirMonitor.afterReset]

theorem AirMonitor.RecordsSound.mapHead {a : AirMonitor} (h : a.RecordsSound) (n : Nat) {f : Head → Head}
    (hf : Head.Keeps f) : (a.mapHead n f).RecordsSound := by
  have hnumbers : (a.mapHead n f).heads.map (fun h => h.settings.number) = a.heads.map (fun h => h.settings.number) :=
    map_key_mapIf (key := fun h : Head => h.settings.number) fun x => by rw [(hf x).1]
  refine ⟨fun x hx => ?_, hnumbers ▸ h.ascending, h.sampled.trans hnumbers.symm⟩
  obtain ⟨y, hy, rfl⟩ := List.mem_map.mp hx
  split
  · exact (hf y).2 (h.legal y hy)
  · exact h.legal y hy

/-! ### Air samples and rounds -/

theorem State.airSample_airSound {s : State} (hw : s.working = true) (h : s.air.RecordsSound) : s.airSample.AirSound := by
  have hworking : s.airSample.working = true := (State.working_eq (by simp)).trans hw
  rw [State.airSound_iff, State.airSample_air, hworking]
  refine ⟨⟨h.legal, h.ascending, ?_⟩, ⟨?_, ?_, ?_⟩, fun _ _ => rfl, fun hno => Bool.noConfusion hno,
    fun hexp => Bool.noConfusion hexp⟩
  · simp [Head.sampled, Function.comp_def]
  · simp only [AirMonitor.indexNow, List.filterMap_map, Function.comp_def, Head.sampled_offers]
  · refine largest_getD_le fun x hx => ?_
    obtain ⟨y, hy, hoffers⟩ := List.mem_filterMap.mp hx
    exact (h.legal y hy).offers_le hoffers
  · rw [State.airSample_settings]
    exact s.settings.alarmStep_holdSound _ _ _

theorem State.pollHead_airSound {s : State} (h : s.AirSound) (hw : s.working = true) (hexp : s.air.expiring = false)
    (n : Nat) : (s.pollHead n).AirSound := by
  obtain ⟨hrecords, hresults, -, -, -⟩ := (State.airSound_iff s).mp h
  rw [State.airSound_iff]
  refine ⟨⟨hrecords.1, hrecords.2, hrecords.3⟩, ⟨hresults.1, hresults.2, hresults.3⟩, fun hpoll => ?_,
    fun hno => ?_, fun hyes => ?_⟩
  · cases hpoll
  · exact absurd (hw.symm.trans hno) (by decide)
  · exact absurd (hexp.symm.trans hyes) (by decide)

theorem State.roundEnds_airSound {s : State} (hw : s.working = true) (hrecords : s.air.RecordsSound)
    (hresults : s.air.ResultsSound s.settings) (hpoll : s.air.poll = none) : s.roundEnds.AirSound := by
  rcases s.roundEnds_cases with ⟨hyes, hnext, heq⟩ | ⟨-, heq⟩ <;> rw [heq]
  · rw [State.airSound_iff]
    refine ⟨⟨hrecords.1, hrecords.2, hrecords.3⟩, ⟨hresults.1, hresults.2, hresults.3⟩, fun _ hno => ?_, fun hno => ?_,
      fun _ => ⟨hpoll, hnext, s.sampleExpiresHold_iff_holdExpires.mp hyes⟩⟩
    · cases hno
    · exact absurd (hw.symm.trans hno) (by decide)
  · exact State.airSample_airSound hw hrecords

theorem State.afterPoll_airSound {s : State} (hw : s.working = true) (hrecords : s.air.RecordsSound)
    (hresults : s.air.ResultsSound s.settings) (hexp : s.air.expiring = false) (n : Nat) : (s.afterPoll n).AirSound := by
  unfold State.afterPoll
  split
  · rw [State.airSound_iff]
    refine ⟨⟨hrecords.1, hrecords.2, hrecords.3⟩, ⟨hresults.1, hresults.2, hresults.3⟩, fun hpoll => ?_, fun hno => ?_,
      fun hyes => ?_⟩
    · cases hpoll
    · exact absurd (hw.symm.trans hno) (by decide)
    · exact absurd (hexp.symm.trans hyes) (by decide)
  · exact State.roundEnds_airSound (s := s.setAir { s.air with poll := none }) hw ⟨hrecords.1, hrecords.2, hrecords.3⟩
      ⟨hresults.1, hresults.2, hresults.3⟩ rfl

theorem State.startRound_airSound {s : State} (hw : s.working = true) (hrecords : s.air.RecordsSound)
    (hresults : s.air.ResultsSound s.settings) : s.startRound.AirSound := by
  rcases s.startRound_cases with ⟨hexp, heq⟩ | ⟨-, t, ht, heq⟩
  · rw [heq]
    exact State.afterPoll_airSound (s := s.setAir { s.air with roundTimer := some (seconds 1), poll := none }) hw
      ⟨hrecords.1, hrecords.2, hrecords.3⟩ ⟨hresults.1, hresults.2, hresults.3⟩ hexp 0
  · have hsound : t.AirSound := ht ▸ State.airSample_airSound
      (s := s.setAir { s.air with roundTimer := some (seconds 1), poll := none }) hw
      ⟨hrecords.1, hrecords.2, hrecords.3⟩
    rcases heq with heq | ⟨x, -, heq⟩ <;> rw [heq]
    · exact hsound
    · exact State.pollHead_airSound hsound ((State.working_eq (by simp [ht])).trans hw)
        (by simp [ht, State.airSample_air]) _

/-! ### What a command does with the Air Monitor -/

/-- Every way in which a command may leave the Air Monitor. -/
inductive AirMove (s : State) : State → Prop
  | kept {t : State} (ha : t.air = s.air) (hc : t.settings = s.settings) (hw : t.working = s.working) : AirMove s t
  | reset {t : State} (ha : t.air = .afterReset) (hw : t.working = false) : AirMove s t
  | fallsBack {t : State} (hs : s.working = false) (ha : t.air = s.air) (hw : t.working = false) : AirMove s t
  | listens (hst : s.station = .starting) (image record : List Byte) (hpass : recordPasses record = true) (k : Nat) :
      AirMove s (s.enterListening image (settingsOfRecord record).value k)
  | starts (hw : s.working = true) : AirMove s s.startRound
  | polled {u : State} (hw : s.working = true) (p : Poll) (hp : s.air.poll = some p) (f : Head → Head)
      (hf : Head.Keeps f) (ha : u.air = s.air.mapHead p.head f) (honly : OnlyChanges [.air, .counters] s u) :
      AirMove s (u.afterPoll p.head)
  | sampled (hw : s.working = true) (hexp : s.air.expiring = true) : AirMove s s.airSample

theorem CommandEffect.keepsAir {s t : State} {code : Nat} (e : CommandEffect s code t) :
    t.air = s.air ∧ t.settings = s.settings ∧ t.station = s.station := by
  cases e <;> simp

theorem ServiceEffect.keepsAir {s t : State} {code : Nat} (e : ServiceEffect s code t) :
    (t.air = s.air ∧ t.settings = s.settings ∧ t.station = s.station) ∨ t.air = .afterReset ∧ t.working = false := by
  cases e with
  | unanswered _ _ e => exact .inl e.keepsAir
  | answered _ _ _ e => exact .inl (by simpa using e.keepsAir)
  | restartAnswered _ _ _ _ _ _ ht => exact .inl (by simp [ht])
  | restarted => exact .inr ⟨rfl, by simp [State.working]⟩
  | _ => exact .inl (by simp)

theorem FrameEffect.airMove {s t : State} {codes : Nat → Prop} (e : FrameEffect s codes t) : AirMove s t := by
  cases e with
  | bulletin _ source b =>
    exact .kept (s.frameAccepted.takeBulletin_air source b) (s.frameAccepted.takeBulletin_settings source b)
      (State.working_eq (s.frameAccepted.takeBulletin_station source b))
  | service _ _ _ e =>
    rcases e.keepsAir with ⟨ha, hc, hst⟩ | ⟨ha, hw⟩
    · exact .kept ha hc (State.working_eq hst)
    · exact .reset ha hw
  | _ => exact .kept (by simp) (by simp) (State.working_eq (by simp))

theorem Effect.airMove {s t : State} {c : Instr} (e : Effect s c t) : AirMove s t := by
  cases e with
  | reset _ st _ _ hst => exact .reset rfl (by rcases hst with rfl | rfl <;> simp [State.working])
  | listens record hst hpass => exact .listens hst _ _ hpass _
  | fallsBack _ hst =>
    exact .fallsBack (by simp [State.working, hst]) (by simp [State.enterFallback])
      (by simp [State.working, State.enterFallback])
  | entersNormal hst => exact .kept (by simp) (by simp) (by simp [State.working, hst])
  | roundStarts hw => exact .starts hw
  | headAnswers hw p hp status raw hraw =>
    exact .polled hw p hp _ (Head.answer_keeps hraw status) rfl (by simp [onlyChanges_iff])
  | headMisses hw p hp => exact .polled hw p hp _ Head.miss_keeps rfl (by simp [onlyChanges_iff])
  | sampled hw hexp => exact .sampled hw hexp
  | purgeWorking _ _ _ _ h => exact .kept (by simp [h]) (by simp [h]) (State.working_eq (by simp [h]))
  | purgeResting _ _ _ _ _ h => exact .kept (by simp [h]) (by simp [h]) (State.working_eq (by simp [h]))
  | motionStarts _ _ _ h => exact .kept (by simp [h]) (by simp [h]) (State.working_eq (by simp [h]))
  | motionEnds _ _ _ h => exact .kept (by simp [h]) (by simp [h]) (State.working_eq (by simp [h]))
  | loopMoves _ _ _ _ _ _ _ _ _ next _ _ h =>
    cases hp : next.2 <;> exact .kept (by simp [h]) (by simp [h]) (State.working_eq (by simp [h]))
  | droppedRestarts => exact .reset rfl (by simp [State.working])
  | sentRestarts => exact .reset rfl (by simp [State.working])
  | idles _ _ h _ ht =>
    rcases ht with rfl | rfl <;> exact .kept (by simp [h]) (by simp [h]) (State.working_eq (by simp [h]))
  | idleSelects _ _ _ h _ ht =>
    rcases ht with rfl | rfl <;> exact .kept (by simp [h]) (by simp [h]) (State.working_eq (by simp [h]))
  | frame _ _ _ e => exact e.airMove
  | _ => exact .kept (by simp) (by simp) (State.working_eq (by simp))

/-! ### The alarm level falls by one at most (R15, R17, R19) -/

/-- From `s` to `t` the alarm level is as it was, or the step of an air sample (R15..R19). -/
def State.LevelSteps (s t : State) : Prop :=
  t.air.level = s.air.level ∨ t.air.level = (s.settings.alarmStep t.air.ownIndex s.air.level s.air.holdTimer).1

theorem State.Polled.airSample_levelSteps {s u : State} (h : s.Polled u) : s.LevelSteps u.airSample := by
  refine .inr ?_
  rw [State.airSample_air, h.settings, h.level, h.hold]

theorem State.Polled.roundEnds_levelSteps {s u : State} (h : s.Polled u) : s.LevelSteps u.roundEnds := by
  rcases u.roundEnds_cases with ⟨-, -, heq⟩ | ⟨-, heq⟩ <;> rw [heq]
  · exact .inl h.level
  · exact h.airSample_levelSteps

theorem State.Polled.afterPoll_levelSteps {s u : State} (h : s.Polled u) (n : Nat) : s.LevelSteps (u.afterPoll n) := by
  unfold State.afterPoll
  split
  · exact .inl h.level
  · have hpolled : s.Polled (u.setAir { u.air with poll := none }) :=
      ⟨by simpa [onlyChanges_iff] using onlyChanges_iff.mp h.only, h.sampled, h.ownIndex, h.level, h.hold⟩
    exact hpolled.roundEnds_levelSteps

theorem State.startRound_levelSteps (s : State) : s.LevelSteps s.startRound := by
  have hpolled : s.Polled (s.setAir { s.air with roundTimer := some (seconds 1), poll := none }) :=
    ⟨by simp [onlyChanges_iff], rfl, rfl, rfl, rfl⟩
  rcases s.startRound_cases with ⟨-, heq⟩ | ⟨-, t, ht, heq⟩
  · exact heq ▸ hpolled.afterPoll_levelSteps 0
  · have hsteps : s.LevelSteps t := ht ▸ hpolled.airSample_levelSteps
    rcases heq with heq | ⟨_, -, heq⟩ <;> rw [heq] <;> exact hsteps

/-- Settles O16: only an air sample steps the level, and the alarm step lowers it by one at most. -/
theorem alarmLevelFallsByAtMostOne : Obligations.AlarmLevelFallsByAtMostOne := by
  intro c s hw
  refine answers_of_effect fun t e ht => ?_
  have hsteps : s.LevelSteps t := by
    cases e.airMove with
    | kept ha => exact .inl (by rw [ha])
    | reset _ hrest => exact absurd ht (by simp [hrest])
    | fallsBack _ ha => exact .inl (by rw [ha])
    | listens hst => simp [State.working, hst] at hw
    | starts => exact s.startRound_levelSteps
    | polled _ p _ f _ ha honly =>
      have hpolled : s.Polled _ := ⟨honly, by rw [ha]; rfl, by rw [ha]; rfl, by rw [ha]; rfl, by rw [ha]; rfl⟩
      exact hpolled.afterPoll_levelSteps p.head
    | sampled =>
      have hpolled : s.Polled s := ⟨by simp [onlyChanges_iff], rfl, rfl, rfl, rfl⟩
      exact hpolled.airSample_levelSteps
  rcases hsteps with heq | heq
  · rw [heq]
    exact ⟨Nat.le_succ _, fun _ => rfl⟩
  · obtain ⟨hfalls, hnone⟩ := s.settings.alarmStep_level t.air.ownIndex s.air.level s.air.holdTimer
    rw [heq]
    exact ⟨hfalls, hnone⟩

/-! ### Every step -/

theorem State.enterListening_airSound {s : State} (image record : List Byte) (hpass : recordPasses record = true) (k : Nat) :
    (s.enterListening image (settingsOfRecord record).value k).AirSound := by
  obtain ⟨-, -, -, -, -, -, -, -, -, -, -, -, -, hheads, hasc⟩ := settingsOfRecord_airLegal hpass
  rw [State.enterListening_eq]
  set c := (settingsOfRecord record).value with hc
  have hair : ((s.listeningBegins image c k).listeningBlocks c).queueStatus.air = .fresh c := by
    simp [State.listeningBegins, State.listeningBlocks]
  refine State.startRound_airSound (by simp [State.listeningBegins, State.listeningBlocks, State.working]) ?_ ?_
  · rw [hair]
    refine ⟨fun h hh => ?_, ?_, ?_⟩
    · obtain ⟨x, hx, rfl⟩ := List.mem_map.mp hh
      obtain ⟨hlow, -, -, hscale, -⟩ := hheads x hx
      exact Head.fresh_legal hlow hscale
    · simpa [AirMonitor.fresh, Head.fresh, Function.comp_def] using hasc
    · simp [AirMonitor.fresh, Head.fresh, Head.sampled, Function.comp_def]
  · rw [hair]
    refine ⟨?_, Nat.zero_le _, fun hno => absurd rfl hno⟩
    have hnone : (AirMonitor.fresh c).sampled.filterMap SampledHead.offers = [] := by
      simp [AirMonitor.fresh, SampledHead.offers, Head.sampled, Head.fresh]
    rw [hnone]
    rfl

/-- What keeps the Air Monitor, the settings and the queue keeps it sound. -/
theorem State.AirSound.of_same {s t : State} (h : s.AirSound) (ha : t.air = s.air) (hc : t.settings = s.settings)
    (hw : t.working = s.working) (hexp : s.air.expiring = false) : t.AirSound := by
  rw [State.airSound_iff] at h ⊢
  rw [ha, hc, hw]
  obtain ⟨h1, h2, h3, h4, -⟩ := h
  exact ⟨h1, h2, h3, h4, fun hyes => absurd (hexp.symm.trans hyes) (by decide)⟩

theorem AirMove.airSound {s t : State} (e : AirMove s t) (h : s.AirSound) (hexp : s.air.expiring = false) : t.AirSound := by
  obtain ⟨hrecords, hresults, -, hrest, -⟩ := s.airSound_iff.mp h
  cases e with
  | kept ha hc hw => exact h.of_same ha hc hw hexp
  | reset ha => exact State.airSound_afterReset ha
  | fallsBack hs ha => exact State.airSound_afterReset (ha.trans (hrest hs))
  | listens _ image record hpass k => exact State.enterListening_airSound image record hpass k
  | starts hw => exact State.startRound_airSound hw hrecords hresults
  | polled hw p _ f hf ha honly =>
    have hpolled : s.Polled _ := ⟨honly, by rw [ha]; rfl, by rw [ha]; rfl, by rw [ha]; rfl, by rw [ha]; rfl⟩
    refine State.afterPoll_airSound (hpolled.working.trans hw) (ha ▸ hrecords.mapHead p.head hf) ?_ (ha ▸ hexp) _
    rw [hpolled.settings, ha]
    exact ⟨hresults.1, hresults.2, hresults.3⟩
  | sampled hw => exact State.airSample_airSound hw hrecords

theorem AirMonitor.tick_poll (a : AirMonitor) : a.tick.poll = none ↔ a.poll = none := by
  simp [AirMonitor.tick]

theorem State.AirSound.tick {s : State} (h : s.AirSound) (hexp : s.air.expiring = false) : s.tick.AirSound := by
  unfold State.tick
  split
  · exact h.of_same rfl rfl rfl hexp
  · rw [State.airSound_iff] at h ⊢
    obtain ⟨hrecords, hresults, hsampled, hrest, -⟩ := h
    refine ⟨⟨hrecords.1, hrecords.2, hrecords.3⟩, ⟨hresults.1, hresults.2, hresults.3⟩, fun hpoll hno => ?_,
      fun hw => ?_, fun hyes => absurd (hexp.symm.trans hyes) (by decide)⟩
    · exact hsampled (s.air.tick_poll.mp hpoll) hno
    · exact congrArg AirMonitor.tick (hrest hw)

/-- Every step keeps the Air Monitor sound: where a sample is due, the next command is the sample (log 13). -/
theorem step_keeps_airSound {s t : State} (hstep : step s = .next t) (h : s.AirSound) : t.AirSound := by
  obtain ⟨hrecords, -, -, hrest, hdue⟩ := s.airSound_iff.mp h
  unfold step at hstep
  split at hstep
  · rename_i c rest hpending
    cases hexp : s.air.expiring with
    | false => exact (exec_effect hstep).airMove.airSound (State.AirSound.of_same (t := s.setPending rest) h rfl rfl rfl hexp) hexp
    | true =>
      obtain ⟨-, hnext, -⟩ := hdue hexp
      have hc : c = .alarmHoldTimerExpiry := by simpa [hpending] using hnext
      have hw : s.working = true := by
        by_contra hno
        rw [hrest (Bool.eq_false_of_not_eq_true hno)] at hexp
        cases hexp
      rw [hc, exec_alarmHoldTimerExpiry, if_pos (by simp [hw, hexp])] at hstep
      cases hstep
      exact State.airSample_airSound (s := s.setPending rest) hw hrecords
  · rename_i hpending
    have hexp : s.air.expiring = false := by
      by_contra hno
      obtain ⟨-, hnext, -⟩ := hdue (Bool.eq_true_of_not_eq_false hno)
      simp [hpending] at hnext
    unfold State.idleStep at hstep
    split at hstep
    · exact (exec_effect hstep).airMove.airSound h hexp
    · cases hstep
      exact h.tick hexp

/-! ### Demand (R27, R31) -/

theorem State.DemandMoves.demandSound {b : Bool} {s t : State} (h : s.DemandMoves b t) (hw : s.working = true)
    (hs : s.DemandSound) : t.DemandSound := by
  intro _
  rcases h with hkept | hset
  · rw [hkept.floorNow, hkept.floor, hkept.commanded, hkept.demand]
    exact hs hw
  · exact ⟨hset.floor, hset.commanded, hset.demand⟩

theorem State.ventilationListens_demand (s : State) : s.ventilationListens.vent.floor = s.floorNow ∧
    s.ventilationListens.vent.commanded = s.floorNow ∧ s.ventilationListens.vent.demand = s.floorNow := by
  simp only [State.ventilationListens, State.allocate_floor, State.allocate_commanded, State.allocate_demand]
  exact ⟨rfl, rfl, rfl⟩

theorem State.enterListening_demandSound (s : State) (image : List Byte) (c : Settings) (k : Nat) :
    (s.enterListening image c k).DemandSound := by
  rw [State.enterListening_eq]
  have hw : ((s.listeningBegins image c k).listeningBlocks c).queueStatus.working = true := by
    simp [State.listeningBegins, State.listeningBlocks, State.working]
  refine State.DemandMoves.demandSound (State.startRound_demandMoves hw) hw fun _ => ?_
  obtain ⟨hfloor, hcommanded, hdemand⟩ := (s.listeningBegins image c k).ventilationListens_demand
  have hnow : ((s.listeningBegins image c k).listeningBlocks c).queueStatus.floorNow = (s.listeningBegins image c k).floorNow :=
    State.floorNow_congr (by simp [State.listeningBlocks]) (by simp [State.listeningBlocks])
      (by simp [State.listeningBlocks]) (by simp [State.listeningBlocks])
  rw [State.queueStatus_vent, State.listeningBlocks_vent, hnow, hfloor, hcommanded, hdemand]
  exact ⟨rfl, Nat.le_refl _, Nat.le_refl _⟩

theorem Effect.demandSound {s t : State} {c : Instr} (e : Effect s c t) (h : s.DemandSound) : t.DemandSound := by
  intro ht
  cases hw : s.working with
  | true => exact State.DemandMoves.demandSound (e.demandMoves hw ht) hw h ht
  | false =>
    rcases e.station_cases with hst | hrest | ⟨-, record, -, rfl⟩ | ⟨hst, -⟩
    · exact absurd ((State.working_eq hst).trans hw) (by simp [ht])
    · exact absurd ht (by simp [hrest])
    · exact s.enterListening_demandSound _ _ _ ht
    · simp [State.working, hst] at hw

theorem State.DemandSound.tick {s : State} (h : s.DemandSound) : s.tick.DemandSound := by
  unfold State.tick
  split
  · exact h
  · intro hw
    have hpurge : (s.inputs.tick s.working).purge.filtered = s.inputs.purge.filtered := by
      unfold Inputs.tick FilteredInput.tick
      (repeat' split) <;> rfl
    obtain ⟨hfloor, hcommanded, hdemand⟩ := h hw
    refine ⟨hfloor.trans ?_, hcommanded, hdemand⟩
    simp only [State.floorNow, hpurge]
    rfl

/-- Settles O59: the Air Monitor by what each command does with it, demand by what each command does with it. -/
theorem stepKeepsAirAndDemandSound : Obligations.StepKeepsAirAndDemandSound := fun _ _ hstep =>
  ⟨step_keeps_airSound hstep, step_keeps (I := State.DemandSound) (fun _ _ h => h) (fun _ h => h.tick)
    (fun _ _ _ e h => e.demandSound h) hstep⟩

end Sys2Proof.Machine
end

section
/-! PROOFS. Every step keeps what each station state holds (R49, R71, R90, R112, R128, R159, R173, R176, R178, R179). -/

namespace Sys2Proof.Machine

/-! ### Healthy fans stay healthy in an allocation pass (R36..R41) -/

/-- From `v` to `w` the fans keep their numbers, and fans that are all healthy stay so. -/
structure Ventilation.HealthKept (v w : Ventilation) : Prop where
  numbers : w.fans.map Fan.number = v.fans.map Fan.number
  healthy : (∀ f ∈ v.fans, f.healthy = true) → ∀ f ∈ w.fans, f.healthy = true

namespace Ventilation.HealthKept

variable {u v w : Ventilation}

theorem trans (h : u.HealthKept v) (g : v.HealthKept w) : u.HealthKept w :=
  ⟨g.numbers.trans h.numbers, fun hu => g.healthy (h.healthy hu)⟩

theorem of_fans (h : w.fans = v.fans) : v.HealthKept w := ⟨by rw [h], fun hv => h ▸ hv⟩

/-- Fans changed one by one, none of them to a state that is not healthy. -/
theorem of_map {g : Fan → Fan} (h : w.fans = v.fans.map g)
    (hg : ∀ f, (g f).number = f.number ∧ (f.healthy = true → (g f).healthy = true)) : v.HealthKept w := by
  refine ⟨by simp [h, Function.comp_def, hg], fun hv f hf => ?_⟩
  rw [h] at hf
  obtain ⟨x, hx, rfl⟩ := List.mem_map.mp hf
  exact (hg x).2 (hv x hx)

theorem of_mapIf {p : Fan → Prop} [DecidablePred p] {g : Fan → Fan}
    (h : w.fans = v.fans.map (fun f => if p f then g f else f))
    (hg : ∀ f, (g f).number = f.number ∧ (g f).healthy = true) : v.HealthKept w := by
  refine of_map h fun f => ?_
  split
  · exact ⟨(hg f).1, fun _ => (hg f).2⟩
  · exact ⟨rfl, id⟩

end Ventilation.HealthKept

theorem Ventilation.removeExcess_healthKept (v : Ventilation) (c : Settings) (n : Nat) :
    v.HealthKept (v.removeExcess c n) := by
  have hfans : (v.removeExcess c n).fans = ((v.mapFans (v.startQueue.drop (n - v.runList.length)) (fun f =>
      f.inState .stopped)).mapFans (v.runList.drop n) (fun f => f.toStopping c)).fans := Ventilation.setRunList_fans _ _
  have hstopped : v.HealthKept (v.mapFans (v.startQueue.drop (n - v.runList.length)) (fun f => f.inState .stopped)) :=
    .of_mapIf rfl fun _ => ⟨rfl, rfl⟩
  have hstopping (u : Ventilation) (l : List Nat) : u.HealthKept (u.mapFans l (fun f => f.toStopping c)) :=
    .of_mapIf rfl fun _ => ⟨rfl, rfl⟩
  exact hstopped.trans ((hstopping _ _).trans (.of_fans hfans))

theorem Ventilation.addShort_healthKept (v : Ventilation) (n : Nat) : v.HealthKept (v.addShort n) :=
  .of_mapIf rfl fun _ => ⟨rfl, rfl⟩

theorem Ventilation.startNext_healthKept (v : Ventilation) (c : Settings) (b : Bool) : v.HealthKept (v.startNext c b) := by
  unfold Ventilation.startNext
  split
  · exact .of_fans rfl
  · split
    · exact .of_fans rfl
    · exact .of_mapIf rfl fun f => by cases b <;> exact ⟨rfl, rfl⟩

theorem Ventilation.mapFan_healthKept (v : Ventilation) (n : Nat) {st : FanState} (h : st ≠ .fault) (h' : st ≠ .lockedOut) :
    v.HealthKept (v.mapFan n (fun f => f.inState st)) :=
  .of_mapIf rfl fun _ => ⟨rfl, Fan.healthy_of h h'⟩

theorem Ventilation.finishPass_healthKept (v : Ventilation) (c : Settings) : v.HealthKept (v.finishPass c) := .of_fans rfl

theorem Ventilation.healthyCount_of_all {v : Ventilation} (h : ∀ f ∈ v.fans, f.healthy = true) :
    v.healthyCount = v.fans.length := by
  rw [Ventilation.healthyCount, List.filter_eq_self.mpr h]

/-- With every fan healthy a pass ends with both flags clear (R47). -/
theorem Ventilation.finishPass_flags {v : Ventilation} (h : ∀ f ∈ v.fans, f.healthy = true) (c : Settings) :
    (v.finishPass c).ventLost = false ∧ (v.finishPass c).ventDegraded = false := by
  simp only [Ventilation.finishPass, Ventilation.healthyCount_of_all h]
  simp

theorem Ventilation.passes_healthKept (c : Settings) (i : Inputs) (b : Bool) (k : Nat) (v : Ventilation) :
    v.HealthKept (v.passes c i b k) ∧ ((∀ f ∈ v.fans, f.healthy = true) →
      (v.passes c i b k).ventLost = false ∧ (v.passes c i b k).ventDegraded = false) := by
  induction k generalizing v with
  | zero => exact ⟨v.finishPass_healthKept c, fun h => Ventilation.finishPass_flags h c⟩
  | succ k ih =>
    have hstarted := ((v.removeExcess_healthKept c (plannedCount v.commanded v.healthyCount)).trans
      (Ventilation.addShort_healthKept _ (plannedCount v.commanded v.healthyCount))).trans
        (Ventilation.startNext_healthKept _ c b)
    simp only [Ventilation.passes]
    split
    · rename_i n _
      have hconfirmed := hstarted.trans (Ventilation.mapFan_healthKept _ n (st := .running) (by decide) (by decide))
      obtain ⟨hkept, hflags⟩ := ih (Ventilation.mapFan _ n (fun f => f.inState .running))
      exact ⟨hconfirmed.trans hkept, fun h => hflags (hconfirmed.healthy h)⟩
    · exact ⟨hstarted.trans (Ventilation.finishPass_healthKept _ c), fun h =>
        Ventilation.finishPass_flags (hstarted.healthy h) c⟩

/-! ### The fans of FALLBACK (R49) -/

/-- Six healthy fans at a commanded demand of 70, no override, both flags clear (R49, R178). -/
structure Ventilation.FallsBack (v : Ventilation) : Prop where
  commanded : v.commanded = 70
  override : v.override = none
  numbers : v.fans.map Fan.number = [1, 2, 3, 4, 5, 6]
  healthy : ∀ f ∈ v.fans, f.healthy = true
  lost : v.ventLost = false
  degraded : v.ventDegraded = false

/-- An allocation pass keeps the fans of FALLBACK, and tells the Guidance Unit nothing. -/
theorem Ventilation.FallsBack.allocate {s : State} (h : s.vent.FallsBack) :
    s.allocate = s.setVent s.allocate.vent ∧ s.allocate.vent.FallsBack := by
  obtain ⟨hkept, hflags⟩ := Ventilation.passes_healthKept s.settings s.inputs (decide (s.station = .fallback))
    (s.vent.fans.length + 1) s.vent
  obtain ⟨hlost, hdegraded⟩ := hflags h.healthy
  have hsame := s.allocate_sameDemand
  rw [← State.allocate_vent] at hkept hlost hdegraded
  refine ⟨?_, hsame.commanded.trans h.commanded, hsame.override.trans h.override, hkept.numbers.trans h.numbers,
    hkept.healthy h.healthy, hlost, hdegraded⟩
  rw [State.allocate_vent] at hlost ⊢
  exact if_pos (hlost.trans h.lost.symm)

theorem Ventilation.FallsBack.mapFan {v : Ventilation} (h : v.FallsBack) (n : Nat) {st : FanState} (hst : st ≠ .fault)
    (hst' : st ≠ .lockedOut) : (v.mapFan n (fun f => f.inState st)).FallsBack := by
  have hkept := v.mapFan_healthKept n hst hst'
  exact ⟨h.commanded, h.override, hkept.numbers.trans h.numbers, hkept.healthy h.healthy, h.lost, h.degraded⟩

/-! ### What each station state holds -/

theorem State.restsInFallback_iff (s : State) : s.RestsInFallback ↔ (s.station = .fallback →
    (s.settings = .fallback ∧ s.startup.clampedCount = 0 ∧ s.air = .afterReset ∧ s.bays = .afterReset ∧
      s.peers = .afterReset ∧ s.light = .afterReset ∧ s.bus.queues = .empty) ∧
    (s.guide.serviceClose = false ∧ s.guide.closed = s.inputs.purge.filtered ∧ s.guide.rows = .afterReset ∧
      s.guide.signs = [] ∧ s.bus.transmitter = .atRest ∧ s.bus.restartPending = false) ∧ s.vent.FallsBack) := by
  refine imp_congr_right fun _ => and_congr_right fun _ => and_congr_right fun _ => ?_
  constructor
  · rintro ⟨h1, h2, h3, h4, h5, h6⟩
    exact ⟨h1, h2, h3, h4, h5, h6⟩
  · rintro ⟨h1, h2, h3, h4, h5, h6⟩
    exact ⟨h1, h2, h3, h4, h5, h6⟩

theorem State.working_iff (s : State) : s.working = true ↔ s.station = .listening ∨ s.station = .normal := by
  simp [State.working]

/-- Sound where it worked, a station still works with the record it read. -/
theorem State.StationSound.of_working {s t : State} (h : s.StationSound) (hw : s.working = true)
    (hst : t.station = s.station) (hc : t.settings = s.settings) (hu : t.startup = s.startup) : t.StationSound := by
  obtain ⟨hrecord, -, -⟩ := h
  refine ⟨fun _ => ?_, fun hrest => ?_, fun hrest => ?_⟩
  · rw [hc, hu]
    exact hrecord hw
  · rcases s.working_iff.mp hw with h | h <;> rw [hst, h] at hrest <;> simp at hrest
  · rcases s.working_iff.mp hw with h | h <;> rw [hst, h] at hrest <;> simp at hrest

/-- What neither the settings read nor the rest in any station state reads may change. -/
theorem State.StationSound.of_same {s t : State} (h : s.StationSound) (hst : t.station = s.station)
    (hc : t.settings = s.settings) (hu : t.startup = s.startup) (ha : t.air = s.air) (hv : t.vent = s.vent)
    (hb : t.bays = s.bays) (hp : t.peers = s.peers) (hg : t.guide = s.guide) (hl : t.light = s.light)
    (hbus : t.bus = s.bus) (hi : t.inputs.purge.filtered = s.inputs.purge.filtered) : t.StationSound := by
  unfold State.StationSound at h ⊢
  simpa only [State.SettingsFromRecord, State.RestsBeforeSettings, State.RestsInFallback, State.working, hst, hc, hu, ha,
    hv, hb, hp, hg, hl, hbus, hi] using h

/-- A station that sends or waits to send works. -/
theorem State.StationSound.works_of_transmitter {s : State} (h : s.StationSound) (ht : s.bus.transmitter ≠ .atRest) :
    s.working = true := by
  obtain ⟨-, hbefore, hfallback⟩ := h
  rw [State.working_iff]
  cases hst : s.station with
  | heldInReset =>
    obtain ⟨-, -, -, -, hbus⟩ := hbefore (.inl hst)
    exact absurd (by rw [hbus]; rfl) ht
  | starting =>
    obtain ⟨-, -, -, -, hbus⟩ := hbefore (.inr hst)
    exact absurd (by rw [hbus]; rfl) ht
  | fallback =>
    obtain ⟨-, ⟨-, -, -, -, hrest, -⟩, -⟩ := hfallback hst
    exact absurd hrest ht
  | listening => exact .inl rfl
  | normal => exact .inr rfl

/-- While the station receives, its sending side changed but for what rests in FALLBACK. -/
theorem State.StationSound.of_bus {s t : State} (h : s.StationSound) (hr : s.receiving = true)
    (honly : OnlyChanges [.bus, .counters] s t)
    (hbus : s.station = .fallback → s.bus.transmitter = .atRest → t.bus.queues = s.bus.queues ∧ t.bus.transmitter = .atRest ∧
      t.bus.restartPending = s.bus.restartPending) : t.StationSound := by
  obtain ⟨hst, hc, hu, hi, ha, hv, hb, hp, hg, hl, -, -, -⟩ := onlyChanges_iff.mp honly
  simp only [List.mem_cons, reduceCtorEq, List.not_mem_nil, or_self, not_false_eq_true, forall_const] at hst hc hu hi ha hv hb hp hg hl
  cases hw : s.working with
  | true => exact h.of_working hw hst hc hu
  | false =>
    have hfb : s.station = .fallback := by simpa [State.receiving, hw] using hr
    obtain ⟨-, -, hfallback⟩ := h
    refine ⟨fun hno => ?_, fun hrest => ?_, fun _ => ?_⟩
    · rw [State.working_eq hst, hw] at hno
      cases hno
    · rw [hst, hfb] at hrest
      simp at hrest
    · obtain ⟨⟨h1, h2, h3, h4, h5, h6, h7⟩, ⟨g1, g2, g3, g4, g5, g6⟩, hvent⟩ := hfallback hfb
      obtain ⟨hq, htx, hpending⟩ := hbus hfb g5
      rw [hc, hu, ha, hb, hp, hl, hg, hi, hv, hq, htx, hpending]
      exact ⟨⟨h1, h2, h3, h4, h5, h6, h7⟩, ⟨g1, g2, g3, g4, rfl, g6⟩, hvent⟩

/-- While the station receives, its Guidance Unit changed but for what rests in FALLBACK. -/
theorem State.StationSound.of_guide {s t : State} (h : s.StationSound) (hr : s.receiving = true)
    (honly : OnlyChanges [.guide, .counters] s t) (hclose : t.guide.serviceClose = s.guide.serviceClose)
    (hclosed : t.guide.closed = s.guide.closed) (hrows : t.guide.rows = s.guide.rows)
    (hsigns : s.guide.signs = [] → t.guide.signs = []) : t.StationSound := by
  obtain ⟨hst, hc, hu, hi, ha, hv, hb, hp, -, hl, hbus, -, -⟩ := onlyChanges_iff.mp honly
  simp only [List.mem_cons, reduceCtorEq, List.not_mem_nil, or_self, not_false_eq_true, forall_const] at hst hc hu hi ha hv hb hp hl hbus
  cases hw : s.working with
  | true => exact h.of_working hw hst hc hu
  | false =>
    have hfb : s.station = .fallback := by simpa [State.receiving, hw] using hr
    obtain ⟨-, -, hfallback⟩ := h
    refine ⟨fun hno => ?_, fun hrest => ?_, fun _ => ?_⟩
    · rw [State.working_eq hst, hw] at hno
      cases hno
    · rw [hst, hfb] at hrest
      simp at hrest
    · obtain ⟨hsame, ⟨g1, g2, g3, g4, g5, g6⟩, hvent⟩ := hfallback hfb
      rw [hc, hu, ha, hb, hp, hl, hbus, hi, hv, hclose, hclosed, hrows]
      exact ⟨hsame, ⟨g1, g2, g3, hsigns g4, g5, g6⟩, hvent⟩

/-- A reset leaves nothing read and everything at rest. -/
theorem State.stationSound_afterReset (s : State) {st : Station} (hst : st = .heldInReset ∨ st = .starting) {u : StartUp}
    (hu : u.clampedCount = 0) (k : Counters) : (s.afterReset st u k).StationSound := by
  refine ⟨fun hw => ?_, fun _ => ⟨⟨rfl, hu, rfl, rfl, rfl⟩, rfl, rfl, rfl, rfl⟩, fun hfb => ?_⟩
  · rcases hst with rfl | rfl <;> simp [State.working] at hw
  · rcases hst with rfl | rfl <;> simp at hfb

/-! ### Every effect -/

theorem State.StationSound.count {s : State} (h : s.StationSound) (n : CounterName) : (s.count n).StationSound :=
  h.of_same rfl rfl rfl rfl rfl rfl rfl rfl rfl rfl rfl

theorem State.onLine_only (s : State) (r : Receiver) (a : Assembler) : OnlyChanges [.bus, .counters] s (s.onLine r a) := by
  simp [onlyChanges_iff]

theorem State.StationSound.onLine {s : State} (h : s.StationSound) (hr : s.receiving = true) (r : Receiver) (a : Assembler) :
    (s.onLine r a).StationSound :=
  h.of_bus hr (s.onLine_only r a) fun _ ht => ⟨rfl, by simp [State.onLine, State.lineBusy, ht], rfl⟩

theorem State.StationSound.frameAccepted {s : State} (h : s.StationSound) (hr : s.receiving = true) :
    s.frameAccepted.StationSound := (h.onLine hr _ _).count _

theorem CommandEffect.stationSound {s t : State} {code : Nat} (e : CommandEffect s code t) (hw : s.working = true)
    (h : s.StationSound) : t.StationSound := by
  cases e <;> exact h.of_working hw (by simp) (by simp) (by simp)

theorem ServiceEffect.stationSound {s t : State} {code : Nat} (e : ServiceEffect s code t) (h : s.StationSound) :
    t.StationSound := by
  cases e with
  | nothing => exact h
  | overrun => exact h.count _
  | unanswered hw _ e => exact e.stationSound hw h
  | answered hw _ t e =>
    have hkept := e.keepsAir
    exact (e.stationSound hw h).of_working ((State.working_eq hkept.2.2).trans hw) (by simp) (by simp) (by simp)
  | restartAnswered hw _ _ _ _ _ ht => exact h.of_working hw (by simp [ht]) (by simp [ht]) (by simp [ht])
  | restarted => exact s.stationSound_afterReset (.inr rfl) rfl _

theorem FrameEffect.stationSound {s t : State} {codes : Nat → Prop} (e : FrameEffect s codes t) (hr : s.receiving = true)
    (h : s.StationSound) : t.StationSound := by
  cases e with
  | passed => exact h
  | rejected n => exact (h.onLine hr _ _).count n
  | bulletin hw source b => exact (h.frameAccepted hr).of_working hw (by simp) (by simp) (by simp)
  | service _ _ _ e => exact e.stationSound (h.frameAccepted hr)

theorem State.enterListening_startup (s : State) (image : List Byte) (c : Settings) (k : Nat) :
    (s.enterListening image c k).startup.image = image ∧ (s.enterListening image c k).startup.clampedCount = min 255 k ∧
      (s.enterListening image c k).settings = c := by
  simp [State.enterListening]

theorem Ventilation.fresh_fallsBack : Ventilation.FallsBack { Ventilation.fresh .fallback with commanded := 70 } :=
  ⟨rfl, rfl, rfl, by decide, rfl, rfl⟩

/-- FALLBACK is entered with six healthy fans at 70, and nothing else changed but the settings and the sign timer. -/
theorem State.StationSound.enterFallback {s : State} (h : s.StationSound) (hst : s.station = .starting) :
    s.enterFallback.StationSound := by
  obtain ⟨-, hbefore, -⟩ := h
  obtain ⟨⟨-, hu, ha, -, hb⟩, hp, hg, hl, hbus⟩ := hbefore (.inr hst)
  set u := ((((s.setStation .fallback).setSettings .fallback).setStartup { s.startup with readTimer := none }).setGuide
    { s.guide with fallbackTimer := some 5000 }).setVent { Ventilation.fresh .fallback with commanded := 70 } with hdef
  have heq : s.enterFallback = u.allocate := rfl
  obtain ⟨halloc, hvent⟩ := Ventilation.FallsBack.allocate (s := u) Ventilation.fresh_fallsBack
  rw [heq, halloc]
  refine ⟨fun hw => by simp [State.working, hdef] at hw, fun hrest => by simp [hdef] at hrest, ?_⟩
  rw [State.restsInFallback_iff]
  refine fun _ => ⟨⟨rfl, hu, ha, hb, hp, hl, ?_⟩, ⟨?_, ?_, ?_, ?_, ?_, ?_⟩, hvent⟩ <;>
    simp [hdef, hg, hbus, Guidance.afterReset, BusInterface.afterReset]

/-- Outside NORMAL and with no sign, being told forms closure and does nothing else (R91, R96, R100, R101). -/
theorem State.guidanceTold_resting {s : State} (hst : s.station ≠ .normal) (hsigns : s.guide.signs = [])
    (cause atCapture : Bool) :
    s.guidanceTold cause atCapture = s.setGuide { s.guide with closed := s.closureHolds } := by
  have hshown (u : State) (hu : u.station ≠ .normal) (hnone : u.guide.signs = []) : u.rowsEvaluated.formImages = u := by
    rw [State.rowsEvaluated, if_neg hu, State.formImages, hnone]
    exact congrArg (fun l => u.setGuide { u.guide with signs := l }) hnone.symm
  unfold State.guidanceTold
  dsimp only
  rw [hshown _ (by exact hst) (by exact hsigns)]
  split
  · rw [if_neg]
    simp [Rows.significant_self]
  · rfl

/-- Closure follows the purge line alone while the alarm level is CLEAR and no service closes the zone (R91). -/
theorem State.closureHolds_of_purge {s : State} (hlevel : s.air.level = .clear) (hclose : s.guide.serviceClose = false) :
    s.closureHolds = s.inputs.purge.filtered := by
  simp [State.closureHolds, hlevel, hclose]

theorem State.StationSound.purge {s : State} (h : s.StationSound) (hw : s.working = false) (v : Bool) :
    ((s.setInputs { s.inputs with purge := s.inputs.purge.take v }).guidanceTold false false).StationSound := by
  set taken := s.setInputs { s.inputs with purge := s.inputs.purge.take v } with htaken
  have hnormal : taken.station ≠ .normal := fun hst => by
    rw [State.working_eq rfl, s.working_iff.mpr (.inr hst)] at hw
    cases hw
  obtain ⟨-, hbefore, hfallback⟩ := h
  refine ⟨fun hworks => ?_, fun hrest => ?_, fun hrest => ?_⟩
  · rw [State.working_eq (s := s) (by simp [htaken]), hw] at hworks
    cases hworks
  · obtain ⟨⟨hc, hu, ha, hv, hb⟩, hp, hg, hl, hbus⟩ := hbefore (by simpa [htaken] using hrest)
    rw [taken.guidanceTold_resting hnormal (by rw [htaken, State.setInputs_guide, hg]; rfl),
      State.closureHolds_of_purge (by rw [htaken, State.setInputs_air, ha]; rfl)
        (by rw [htaken, State.setInputs_guide, hg]; rfl)]
    refine ⟨⟨hc, hu, ha, hv, hb⟩, hp, ?_, hl, hbus⟩
    rw [State.setGuide_guide, htaken, State.setInputs_guide, hg]
    rfl
  · obtain ⟨⟨hc, hu, ha, hb, hp, hl, hq⟩, ⟨hclose, -, hrows, hsigns, htx, hpending⟩, hvent⟩ :=
      hfallback (by simpa [htaken] using hrest)
    rw [taken.guidanceTold_resting hnormal hsigns,
      State.closureHolds_of_purge (s := taken) (by rw [htaken, State.setInputs_air, ha]; rfl) hclose]
    exact ⟨⟨hc, hu, ha, hb, hp, hl, hq⟩, ⟨hclose, rfl, hrows, hsigns, htx, hpending⟩, hvent⟩

/-- In FALLBACK a fan enters another healthy state, and a pass follows. -/
theorem State.StationSound.allocates {s : State} (h : s.StationSound) (hfb : s.station = .fallback) (n : Nat)
    {st : FanState} (hst : st ≠ .fault) (hst' : st ≠ .lockedOut) :
    (s.setVent (s.vent.mapFan n (fun x => x.inState st))).allocate.StationSound := by
  obtain ⟨hsame, hguide, hvent⟩ := (s.restsInFallback_iff.mp h.2.2) hfb
  obtain ⟨halloc, hfalls⟩ := Ventilation.FallsBack.allocate
    (s := s.setVent (s.vent.mapFan n (fun x => x.inState st))) (hvent.mapFan n hst hst')
  rw [halloc]
  refine ⟨fun hw => ?_, fun hrest => ?_, ?_⟩
  · have hno : s.working = true := hw
    simp [State.working, hfb] at hno
  · have hno : s.station = .heldInReset ∨ s.station = .starting := hrest
    simp [hfb] at hno
  · rw [State.restsInFallback_iff]
    exact fun _ => ⟨hsame, hguide, hfalls⟩

/-- Before the settings are read no exchange with a sign is under way. -/
theorem State.StationSound.receives_of_exchange {s : State} (h : s.StationSound) (he : s.guide.exchange ≠ none) :
    s.receiving = true := by
  by_contra hno
  have hrest : s.station = .heldInReset ∨ s.station = .starting := by
    cases hst : s.station <;> simp_all [State.receiving, State.working]
  obtain ⟨-, -, hg, -, -⟩ := h.2.1 hrest
  rw [hg] at he
  exact he rfl

/-- A sign marked and the exchange ended, in any station state but FALLBACK: before the settings are read there is
neither (R112). -/
theorem State.StationSound.of_exchange {s t : State} (h : s.StationSound) (hfb : s.station ≠ .fallback)
    (honly : OnlyChanges [.guide, .counters] s t) (n : Nat) (f : Sign → Sign)
    (hg : t.guide = { s.guide.mapSign n f with exchange := none }) : t.StationSound := by
  obtain ⟨hst, hc, hu, hi, ha, hv, hb, hp, -, hl, hbus, -, -⟩ := onlyChanges_iff.mp honly
  simp only [List.mem_cons, reduceCtorEq, List.not_mem_nil, or_self, not_false_eq_true, forall_const] at hst hc hu hi ha hv hb hp hl hbus
  cases hw : s.working with
  | true => exact h.of_working hw hst hc hu
  | false =>
    have hrest : s.station = .heldInReset ∨ s.station = .starting := by
      cases hst : s.station <;> simp_all [State.working]
    obtain ⟨-, -, hguide, -, -⟩ := h.2.1 hrest
    refine h.of_same hst hc hu ha hv hb hp ?_ hl hbus (by rw [hi])
    rw [hg, hguide]
    rfl

theorem Guidance.sendFallback_keeps (g : Guidance) : g.sendFallback.serviceClose = g.serviceClose ∧
    g.sendFallback.closed = g.closed ∧ g.sendFallback.rows = g.rows ∧ g.sendFallback.signs = g.signs := by
  unfold Guidance.sendFallback
  split <;> exact ⟨rfl, rfl, rfl, rfl⟩

theorem Effect.stationSound {s t : State} {c : Instr} (e : Effect s c t) (h : s.StationSound) : t.StationSound := by
  cases e with
  | nothing => exact h
  | reset _ st u k hst hu => exact s.stationSound_afterReset hst hu k
  | listens record _ hpass =>
    obtain ⟨himage, hcount, hc⟩ := s.enterListening_startup (record.take 260) (settingsOfRecord (record.take 260)).value
      (settingsOfRecord (record.take 260)).corrections
    have hst : (s.enterListening (record.take 260) (settingsOfRecord (record.take 260)).value
        (settingsOfRecord (record.take 260)).corrections).station = .listening := by simp [State.enterListening]
    refine ⟨fun _ => ?_, fun hrest => ?_, fun hrest => ?_⟩
    · rw [himage, hcount, hc]
      exact ⟨hpass, rfl, rfl⟩
    · simp [hst] at hrest
    · simp [hst] at hrest
  | fallsBack _ hst => exact h.enterFallback hst
  | entersNormal hst =>
    obtain ⟨himage, hc, hcount⟩ := h.1 (s.working_iff.mpr (.inl hst))
    refine ⟨fun _ => ?_, fun hrest => ?_, fun hrest => ?_⟩
    · simpa using ⟨himage, hc, hcount⟩
    · simp at hrest
    · simp at hrest
  | purgeWorking hw _ _ _ ht => exact h.of_working hw (by simp [ht]) (by simp [ht]) (by simp [ht])
  | purgeResting hw _ v _ taken ht => exact ht ▸ h.purge hw v
  | confirmKept => exact h.of_same rfl rfl rfl rfl rfl rfl rfl rfl rfl rfl rfl
  | loopMoves hw _ _ _ _ _ _ _ _ next _ _ ht =>
    cases hp : next.2 <;> exact h.of_working hw (by simp [ht]) (by simp [ht]) (by simp [ht])
  | motionStarts hw _ _ ht => exact h.of_working hw (by simp [ht]) (by simp [ht]) (by simp [ht])
  | motionEnds hw _ _ ht => exact h.of_working hw (by simp [ht]) (by simp [ht]) (by simp [ht])
  | fallbackStarts hfb n => exact h.allocates hfb n (by decide) (by decide)
  | coasted hr n =>
    cases hw : s.working with
    | true => exact h.of_working hw (by simp) (by simp) (by simp)
    | false => exact h.allocates (by simpa [State.receiving, hw] using hr) n (by decide) (by decide)
  | charactersGathered he =>
    exact h.of_guide (h.receives_of_exchange he) (by simp [onlyChanges_iff]) rfl rfl rfl id
  | signAnswered hfb _ n => exact h.of_exchange hfb (by simp [onlyChanges_iff]) n _ rfl
  | signMissed hfb n => exact h.of_exchange hfb (by simp [onlyChanges_iff]) n _ rfl
  | blankSent hfb _ timer due =>
    obtain ⟨hclose, hclosed, hrows, hsigns⟩ :=
      Guidance.sendFallback_keeps { s.guide with fallbackTimer := timer, fallbackDue := due }
    exact h.of_guide (by simp [State.receiving, hfb]) (by simp [onlyChanges_iff]) hclose hclosed hrows fun hnone =>
      hsigns.trans hnone
  | blankDue hfb =>
    exact h.of_guide (by simp [State.receiving, hfb]) (by simp [onlyChanges_iff]) rfl rfl rfl id
  | collides _ _ hs => exact h.of_working (h.works_of_transmitter (by simp [hs])) (by simp) (by simp) (by simp)
  | dropped _ _ hs => exact h.of_working (h.works_of_transmitter (by simp [hs])) (by simp) (by simp) (by simp)
  | gapEnds _ _ hs => exact h.of_working (h.works_of_transmitter (by simp [hs])) (by simp) (by simp) (by simp)
  | sent _ _ hs => exact h.of_working (h.works_of_transmitter (by simp [hs])) (by simp) (by simp) (by simp)
  | droppedRestarts => exact State.stationSound_afterReset _ (.inr rfl) rfl _
  | sentRestarts => exact State.stationSound_afterReset _ (.inr rfl) rfl _
  | line hr =>
    rcases hr with hr | ht
    · exact h.onLine hr _ _
    · exact h.of_working (h.works_of_transmitter ht) (by simp) (by simp) (by simp)
  | lineCounted hr => exact (h.onLine hr _ _).count _
  | idles hh idle hidle _ ht =>
    have hr : s.receiving = true := by
      simp only [State.hears, Bool.and_eq_true] at hh
      exact hh.1
    have hsound : idle.StationSound :=
      h.of_bus hr (by simp [onlyChanges_iff, hidle]) fun _ hrest => ⟨by simp [hidle], by simp [hidle, hrest], by simp [hidle]⟩
    rcases ht with rfl | rfl
    · exact hsound
    · exact hsound.count _
  | idleSelects _ htx idle hidle t ht =>
    have hw : s.working = true := h.works_of_transmitter (by rcases htx with htx | htx <;> simp [htx])
    rcases ht with rfl | rfl <;> exact h.of_working hw (by simp [hidle]) (by simp [hidle]) (by simp [hidle])
  | frame _ _ hr e => exact e.stationSound hr h
  | _ => exact h.of_working ‹_› (by simp) (by simp) (by simp)

/-! ### The clock -/

theorem Inputs.tick_purge (i : Inputs) (b : Bool) : (i.tick b).purge.filtered = i.purge.filtered := by
  unfold Inputs.tick FilteredInput.tick
  (repeat' split) <;> rfl

theorem Ventilation.FallsBack.tick {v : Ventilation} (h : v.FallsBack) : v.tick.FallsBack := by
  have hkept : v.HealthKept v.tick := .of_map rfl fun _ => ⟨rfl, id⟩
  refine ⟨h.commanded, ?_, hkept.numbers.trans h.numbers, hkept.healthy h.healthy, h.lost, h.degraded⟩
  simp [Ventilation.tick, h.override]

theorem State.StationSound.tick {s : State} (h : s.StationSound) : s.tick.StationSound := by
  unfold State.tick
  split
  · rename_i hst
    obtain ⟨-, hbefore, -⟩ := h
    refine ⟨fun hw => ?_, fun _ => hbefore (.inl hst), fun hrest => ?_⟩
    · simp [State.working, hst] at hw
    · simp [hst] at hrest
  · obtain ⟨hrecord, hbefore, hfallback⟩ := h
    refine ⟨hrecord, fun hrest => ?_, ?_⟩
    · obtain ⟨⟨hc, hu, ha, hv, hb⟩, hp, hg, hl, hbus⟩ := hbefore hrest
      refine ⟨⟨hc, hu, congrArg AirMonitor.tick ha, congrArg Ventilation.tick hv, congrArg BayMonitor.tick hb⟩, ?_, ?_,
        congrArg Lighting.tick hl, congrArg BusInterface.tick hbus⟩
      · simp only [hp]
        rfl
      · simp only [hg, Inputs.tick_purge]
        rfl
    · rw [State.restsInFallback_iff] at hfallback ⊢
      intro hfb
      obtain ⟨⟨hc, hu, ha, hb, hp, hl, hq⟩, ⟨hclose, hclosed, hrows, hsigns, htx, hpending⟩, hvent⟩ := hfallback hfb
      refine ⟨⟨hc, hu, congrArg AirMonitor.tick ha, congrArg BayMonitor.tick hb, ?_, congrArg Lighting.tick hl, hq⟩,
        ⟨hclose, ?_, hrows, ?_, htx, hpending⟩, hvent.tick⟩
      · simp only [hp]
        rfl
      · exact hclosed.trans (Inputs.tick_purge _ _).symm
      · simp [Guidance.tick, hsigns]

/-- Settles O60: by what each command does in each station state. -/
theorem stepKeepsStationSound : Obligations.StepKeepsStationSound := fun _ _ hstep =>
  step_keeps (I := State.StationSound) (fun _ _ h => h.of_same rfl rfl rfl rfl rfl rfl rfl rfl rfl rfl rfl)
    (fun _ h => h.tick) (fun _ _ _ e h => e.stationSound h) hstep

end Sys2Proof.Machine
end

section
/-! PROOFS. The Guidance Unit told: closure, rows and images, and every step keeps them (R91, R95, R96, R101, R103, R105). -/

namespace Sys2Proof.Machine

/-! ### What routes and images are formed of -/

/-- What a row is formed of: closure, free counts, penalty, own address, and what the neighbours offer (R94, R97..R99). -/
theorem State.evaluateRoutes_congr {s t : State} (hclosed : t.guide.closed = s.guide.closed)
    (hfree : t.bays.freeCount = s.bays.freeCount) (hpenalty : t.penalty = s.penalty) (hc : t.settings = s.settings)
    (hcandidates : t.candidates = s.candidates) : t.evaluateRoutes = s.evaluateRoutes := by
  simp only [State.evaluateRoutes, State.evaluateRow, hclosed, hfree, hpenalty, hc, hcandidates]

theorem State.penalty_congr {s t : State} (hlevel : t.air.level = s.air.level) (hlost : t.vent.ventLost = s.vent.ventLost) :
    t.penalty = s.penalty := by
  simp only [State.penalty, hlevel, hlost]

theorem State.candidates_congr {s t : State} (hpenalty : t.penalty = s.penalty) (hc : t.settings = s.settings)
    (hslots : t.peers.slots = s.peers.slots) : t.candidates = s.candidates := by
  funext g
  simp only [State.candidates, hpenalty, hc, hslots]

theorem State.signImage_congr {s t : State} (hst : t.station = s.station) (hclosed : t.guide.closed = s.guide.closed)
    (hrows : t.guide.rows = s.guide.rows) (hfree : t.bays.freeCount = s.bays.freeCount) : t.signImage = s.signImage := by
  funext g
  simp only [State.signImage, BayMonitor.totalFree, hst, hclosed, hrows, hfree] <;> rfl

theorem State.signImage_of_ne_normal {s : State} (h : s.station ≠ .normal) (g : SignSettings) :
    s.signImage g = .word .blank := if_pos h

/-! ### Being told (R91, R96, R101, R105) -/

/-- The Guidance Unit evaluates and forms images: on a cause, or when closure changes. -/
def State.evaluates (s : State) (cause : Bool) : Bool := cause || s.closureHolds != s.guide.closed

/-- Closure formed, routes evaluated, images formed. -/
def State.shown (s : State) : State :=
  (s.setGuide { s.guide with closed := s.closureHolds }).rowsEvaluated.formImages

theorem State.guidanceTold_guide (s : State) (cause atCapture : Bool) : (s.guidanceTold cause atCapture).guide =
    if s.evaluates cause then s.shown.guide else { s.guide with closed := s.closureHolds } := by
  unfold State.guidanceTold State.evaluates
  dsimp only
  split
  · split
    · rw [State.tellSignificant_guide]
      rfl
    · rfl
  · rfl

@[simp] theorem State.rowsEvaluated_guide (s : State) : s.rowsEvaluated.guide = { s.guide with
    rows := if s.station = .normal then s.evaluateRoutes else s.guide.rows } := by
  unfold State.rowsEvaluated
  split <;> rfl

theorem State.shown_guide (s : State) : s.shown.guide = { s.guide with
    closed := s.closureHolds
    rows := if s.station = .normal then (s.setGuide { s.guide with closed := s.closureHolds }).evaluateRoutes
      else s.guide.rows
    signs := s.guide.signs.map (fun g => g.show
      ((s.setGuide { s.guide with closed := s.closureHolds }).rowsEvaluated.signImage g.settings)) } := by
  unfold State.shown State.formImages
  rw [State.setGuide_guide, State.rowsEvaluated_guide]
  rfl

theorem State.shown_rows (s : State) : s.shown.guide.rows = if s.station = .normal then
    (s.setGuide { s.guide with closed := s.closureHolds }).evaluateRoutes else s.guide.rows :=
  congrArg Guidance.rows s.shown_guide

theorem State.shown_signs (s : State) : s.shown.guide.signs = s.guide.signs.map (fun g => g.show (s.shown.signImage g.settings)) := by
  have himage : s.shown.signImage = (s.setGuide { s.guide with closed := s.closureHolds }).rowsEvaluated.signImage :=
    State.signImage_congr (by simp [State.shown]) rfl rfl (by simp [State.shown])
  rw [himage, State.shown_guide]

@[simp] theorem Sign.show_settings (g : Sign) (i : SignImage) : (g.show i).settings = g.settings := by
  unfold Sign.show
  split <;> rfl

@[simp] theorem Sign.show_image (g : Sign) (i : SignImage) : (g.show i).image = i := by
  unfold Sign.show
  split
  · assumption
  · rfl

/-! ### What the Guidance Unit holds, in two parts -/

/-- What holds between a change and the telling: the signs in order, CLEAR outside LISTENING and NORMAL, no route outside
NORMAL. -/
structure State.GuidanceRests (s : State) : Prop where
  signs : Ascending (s.guide.signs.map (fun g => g.settings.number))
  level : s.working = false → s.air.level = .clear
  rows : s.station ≠ .normal → s.guide.rows = .afterReset

/-- The rows and images are the ones closure as it stands gives. -/
structure State.GuidanceShows (s : State) : Prop where
  rows : s.station = .normal → s.guide.rows = s.evaluateRoutes
  images : ∀ g ∈ s.guide.signs, g.image = s.signImage g.settings

theorem State.guidanceSound_iff (s : State) :
    s.GuidanceSound ↔ s.GuidanceRests ∧ s.guide.closed = s.closureHolds ∧ s.GuidanceShows := by
  constructor
  · rintro ⟨h1, h2, h3, h4, h5⟩
    refine ⟨⟨h1, h3, fun hst => ?_⟩, h2, ⟨fun hst => ?_, h5⟩⟩
    · rwa [if_neg hst] at h4
    · rwa [if_pos hst] at h4
  · rintro ⟨⟨h1, h3, hrest⟩, h2, ⟨hrows, h5⟩⟩
    refine ⟨h1, h2, h3, ?_, h5⟩
    split
    · exact hrows ‹_›
    · exact hrest ‹_›

theorem State.GuidanceRests.shown {s : State} (h : s.GuidanceRests) : s.shown.GuidanceRests := by
  refine ⟨?_, fun hw => ?_, fun hst => ?_⟩
  · rw [State.shown_signs, List.map_map]
    simpa [Function.comp_def] using h.signs
  · have hair : s.shown.air = s.air := by simp [State.shown]
    rw [hair]
    exact h.level ((State.working_eq (by simp [State.shown])).symm.trans hw)
  · have hst' : s.station ≠ .normal := by simpa [State.shown] using hst
    rw [State.shown_rows, if_neg hst']
    exact h.rows hst'

theorem State.guidanceTold_guide_of_evaluates {s : State} {cause : Bool} (he : s.evaluates cause = true) (atCapture : Bool) :
    (s.guidanceTold cause atCapture).guide = s.shown.guide := by
  rw [State.guidanceTold_guide, he, if_pos rfl]

/-- Told in NORMAL, the rows are those of an evaluation (R96). -/
theorem State.guidanceTold_rows {s : State} {cause atCapture : Bool} (he : s.evaluates cause = true)
    (hst : s.station = .normal) :
    (s.guidanceTold cause atCapture).guide.rows = (s.guidanceTold cause atCapture).evaluateRoutes := by
  rw [State.guidanceTold_guide_of_evaluates he, State.shown_rows, if_pos hst]
  have hpenalty : (s.guidanceTold cause atCapture).penalty =
      (s.setGuide { s.guide with closed := s.closureHolds }).penalty := State.penalty_congr (by simp) (by simp)
  exact (State.evaluateRoutes_congr (by simp) (by simp) hpenalty (by simp)
    (State.candidates_congr hpenalty (by simp) (by simp))).symm

/-- Told, the images are those the state gives (R105). -/
theorem State.guidanceTold_images {s : State} {cause atCapture : Bool} (he : s.evaluates cause = true) :
    ∀ g ∈ (s.guidanceTold cause atCapture).guide.signs, g.image = (s.guidanceTold cause atCapture).signImage g.settings := by
  intro g hg
  have hguide := State.guidanceTold_guide_of_evaluates he atCapture
  rw [hguide, State.shown_signs] at hg
  obtain ⟨x, hx, rfl⟩ := List.mem_map.mp hg
  rw [Sign.show_image, Sign.show_settings]
  exact congrFun (State.signImage_congr (by simp [State.shown]) (by rw [hguide]) (by rw [hguide])
    (by simp [State.shown])) _

/-- Told with a cause, or with rows and images that closure as it stood gave, the Guidance Unit is sound. -/
theorem State.GuidanceRests.guidanceTold {s : State} (h : s.GuidanceRests) {cause : Bool}
    (hshows : cause = true ∨ s.GuidanceShows) (atCapture : Bool) : (s.guidanceTold cause atCapture).GuidanceSound := by
  rw [State.guidanceSound_iff]
  cases he : s.evaluates cause with
  | true =>
    have hguide := State.guidanceTold_guide_of_evaluates he atCapture
    refine ⟨⟨?_, fun hw => ?_, fun hst => ?_⟩, ?_, ⟨fun hst => ?_, fun g hg => ?_⟩⟩
    · exact hguide ▸ h.shown.signs
    · simpa using h.level ((State.working_eq (by simp)).symm.trans hw)
    · rw [hguide]
      exact h.shown.rows (by simpa [State.shown] using hst)
    · simp [State.closureHolds]
    · exact State.guidanceTold_rows he (by simpa using hst)
    · exact State.guidanceTold_images he g hg
  | false =>
    simp only [State.evaluates, Bool.or_eq_false_iff, bne_eq_false_iff_eq] at he
    obtain ⟨hcause, hsame⟩ := he
    have hguide : (s.guidanceTold cause atCapture).guide = s.guide := by
      rw [State.guidanceTold_guide, State.evaluates, hcause, hsame]
      simp
    have hshown := hshows.resolve_left (by simp [hcause])
    refine ⟨⟨?_, fun hw => ?_, fun hst => ?_⟩, ?_, ⟨fun hst => ?_, fun g hg => ?_⟩⟩
    · exact hguide ▸ h.signs
    · simpa using h.level ((State.working_eq (by simp)).symm.trans hw)
    · rw [hguide]
      exact h.rows (by simpa using hst)
    · simp [State.closureHolds]
    · rw [hguide, hshown.rows (by simpa using hst)]
      have hpenalty : (s.guidanceTold cause atCapture).penalty = s.penalty := State.penalty_congr (by simp) (by simp)
      exact (State.evaluateRoutes_congr (by rw [hguide]) (by simp) hpenalty (by simp)
        (State.candidates_congr hpenalty (by simp) (by simp))).symm
    · rw [hguide] at hg
      rw [hshown.images g hg]
      exact (congrFun (State.signImage_congr (by simp) (by rw [hguide]) (by rw [hguide]) (by simp)) _).symm

/-! ### What changes nothing the Guidance Unit reads -/

/-- What the slots offer to each class, whatever the own address and the penalty (R98). -/
def offersOf (slots : List (Option Peer)) (own penalty : Nat) (g : GuidedClass) : List Candidate :=
  slots.filterMap (fun slot => slot.bind (fun p => p.candidate own penalty g))

/-- From `s` to `t` neither what the Guidance Unit reads nor what it holds has changed, but for the sign link. -/
structure State.GuidanceKept (s t : State) : Prop where
  station : t.station = s.station
  settings : t.settings = s.settings
  level : t.air.level = s.air.level
  purge : t.inputs.purge.filtered = s.inputs.purge.filtered
  free : t.bays.freeCount = s.bays.freeCount
  lost : t.vent.ventLost = s.vent.ventLost
  offers : offersOf t.peers.slots = offersOf s.peers.slots
  serviceClose : t.guide.serviceClose = s.guide.serviceClose
  closed : t.guide.closed = s.guide.closed
  rows : t.guide.rows = s.guide.rows
  signs : t.guide.signs.map (fun g => (g.settings, g.image)) = s.guide.signs.map (fun g => (g.settings, g.image))

theorem State.guidanceKept_iff {s t : State} : s.GuidanceKept t ↔ t.station = s.station ∧ t.settings = s.settings ∧
    t.air.level = s.air.level ∧ t.inputs.purge.filtered = s.inputs.purge.filtered ∧
    t.bays.freeCount = s.bays.freeCount ∧ t.vent.ventLost = s.vent.ventLost ∧
    offersOf t.peers.slots = offersOf s.peers.slots ∧ t.guide.serviceClose = s.guide.serviceClose ∧
    t.guide.closed = s.guide.closed ∧ t.guide.rows = s.guide.rows ∧
    t.guide.signs.map (fun g => (g.settings, g.image)) = s.guide.signs.map (fun g => (g.settings, g.image)) :=
  ⟨fun ⟨h1, h2, h3, h4, h5, h6, h7, h8, h9, h10, h11⟩ => ⟨h1, h2, h3, h4, h5, h6, h7, h8, h9, h10, h11⟩,
    fun ⟨h1, h2, h3, h4, h5, h6, h7, h8, h9, h10, h11⟩ => ⟨h1, h2, h3, h4, h5, h6, h7, h8, h9, h10, h11⟩⟩

namespace State.GuidanceKept

variable {s t : State}

theorem closureHolds (h : s.GuidanceKept t) : t.closureHolds = s.closureHolds := by
  simp only [State.closureHolds, h.level, h.purge, h.serviceClose]

theorem evaluateRoutes (h : s.GuidanceKept t) : t.evaluateRoutes = s.evaluateRoutes := by
  have hpenalty := State.penalty_congr h.level h.lost
  refine State.evaluateRoutes_congr h.closed h.free hpenalty h.settings ?_
  funext g
  have hoffers := congrFun (congrFun (congrFun h.offers s.settings.ownAddress) s.penalty) g
  simp only [State.candidates, hpenalty, h.settings]
  exact hoffers

theorem signImage (h : s.GuidanceKept t) : t.signImage = s.signImage :=
  State.signImage_congr h.station h.closed h.rows h.free

theorem rests (h : s.GuidanceKept t) (hs : s.GuidanceRests) : t.GuidanceRests := by
  refine ⟨?_, fun hw => ?_, fun hst => ?_⟩
  · have hnumbers := congrArg (List.map (fun p : SignSettings × SignImage => p.1.number)) h.signs
    simp only [List.map_map, Function.comp_def] at hnumbers
    rw [hnumbers]
    exact hs.signs
  · rw [h.level]
    exact hs.level ((State.working_eq h.station).symm.trans hw)
  · rw [h.rows]
    exact hs.rows (h.station ▸ hst)

theorem shows (h : s.GuidanceKept t) (hs : s.GuidanceShows) : t.GuidanceShows := by
  refine ⟨fun hst => ?_, fun g hg => ?_⟩
  · rw [h.rows, h.evaluateRoutes]
    exact hs.rows (h.station ▸ hst)
  · have hmem : (g.settings, g.image) ∈ s.guide.signs.map (fun g => (g.settings, g.image)) :=
      h.signs ▸ List.mem_map_of_mem hg
    obtain ⟨x, hx, heq⟩ := List.mem_map.mp hmem
    simp only [Prod.mk.injEq] at heq
    rw [h.signImage, ← heq.1, ← heq.2]
    exact hs.images x hx

end State.GuidanceKept

theorem State.GuidanceSound.of_kept {s t : State} (hs : s.GuidanceSound) (h : s.GuidanceKept t) : t.GuidanceSound := by
  obtain ⟨hrests, hclosed, hshows⟩ := s.guidanceSound_iff.mp hs
  rw [State.guidanceSound_iff, h.closureHolds, h.closed]
  exact ⟨h.rests hrests, hclosed, h.shows hshows⟩

/-- Outside NORMAL: no route, and every sign BLANK (R95, R103). -/
theorem State.guidanceSound_of_ne_normal {s : State} (h : s.station ≠ .normal) : s.GuidanceSound ↔
    Ascending (s.guide.signs.map (fun g => g.settings.number)) ∧ s.guide.closed = s.closureHolds ∧
      (s.working = false → s.air.level = .clear) ∧ s.guide.rows = .afterReset ∧
      ∀ g ∈ s.guide.signs, g.image = .word .blank := by
  simp only [State.GuidanceSound, if_neg h, State.signImage_of_ne_normal h]

/-! ### Allocation, demand, air samples -/

theorem State.allocate_cases (s : State) : (s.allocate = s.setVent s.allocate.vent ∧ s.allocate.vent.ventLost = s.vent.ventLost) ∨
    s.allocate = (s.setVent s.allocate.vent).guidanceTold true false := by
  rw [State.allocate_vent]
  unfold State.allocate
  dsimp only
  split
  · exact .inl ⟨rfl, ‹_›⟩
  · exact .inr rfl

/-- The fans changed: the Guidance Unit rests as it did. -/
theorem State.GuidanceRests.setVent {s : State} (h : s.GuidanceRests) (v : Ventilation) : (s.setVent v).GuidanceRests :=
  ⟨h.signs, h.level, h.rows⟩

theorem State.GuidanceRests.allocate {s : State} (h : s.GuidanceRests) : s.allocate.GuidanceRests := by
  rcases s.allocate_cases with ⟨heq, -⟩ | heq <;> rw [heq]
  · exact h.setVent _
  · exact ((State.guidanceSound_iff _).mp ((h.setVent _).guidanceTold (.inl rfl) false)).1

theorem State.GuidanceSound.allocate {s : State} (h : s.GuidanceSound) : s.allocate.GuidanceSound := by
  rcases s.allocate_cases with ⟨heq, hlost⟩ | heq <;> rw [heq]
  · exact h.of_kept ⟨rfl, rfl, rfl, rfl, rfl, hlost, rfl, rfl, rfl, rfl, rfl⟩
  · exact State.GuidanceRests.guidanceTold (((s.guidanceSound_iff).mp h).1.setVent _) (.inl rfl) false

theorem State.GuidanceRests.recompute {s : State} (h : s.GuidanceRests) (b : Bool) : (s.recompute b).GuidanceRests := by
  unfold State.recompute
  split
  · exact (h.setVent _).allocate
  · exact h

theorem State.GuidanceSound.recompute {s : State} (h : s.GuidanceSound) (b : Bool) : (s.recompute b).GuidanceSound := by
  unfold State.recompute
  split
  · exact State.GuidanceSound.allocate (h.of_kept ⟨rfl, rfl, rfl, rfl, rfl, rfl, rfl, rfl, rfl, rfl, rfl⟩)
  · exact h

theorem State.GuidanceRests.of_same {s t : State} (h : s.GuidanceRests) (hst : t.station = s.station)
    (hg : t.guide = s.guide) (hlevel : t.working = false → t.air.level = .clear) : t.GuidanceRests :=
  ⟨hg ▸ h.signs, hlevel, fun hne => hg ▸ h.rows (hst ▸ hne)⟩

theorem State.GuidanceSound.airSettled {s : State} (h : s.GuidanceSound) (hw : s.working = true) (air : AirMonitor) :
    (s.airSettled air).GuidanceSound := by
  unfold State.airSettled
  dsimp only
  split
  · exact State.GuidanceSound.recompute (h.of_kept (by simpa [State.guidanceKept_iff] using ‹_›)) true
  · have hrests : (s.setAir air).queueAlert.GuidanceRests := by
      refine (s.guidanceSound_iff.mp h).1.of_same (by simp) (by simp) fun hno => ?_
      rw [State.working_eq (s := s) (by simp), hw] at hno
      cases hno
    have htold := State.GuidanceRests.guidanceTold (hrests.recompute true) (.inl rfl) false (cause := true)
    exact htold.of_kept (by simp [State.guidanceKept_iff])

theorem State.GuidanceSound.airSample {s : State} (h : s.GuidanceSound) (hw : s.working = true) :
    s.airSample.GuidanceSound := h.airSettled hw _

theorem State.GuidanceSound.roundEnds {s : State} (h : s.GuidanceSound) (hw : s.working = true) :
    s.roundEnds.GuidanceSound := by
  rcases s.roundEnds_cases with ⟨-, -, heq⟩ | ⟨-, heq⟩ <;> rw [heq]
  · exact h.of_kept (by simp [State.guidanceKept_iff])
  · exact h.airSample hw

theorem State.GuidanceSound.afterPoll {s : State} (h : s.GuidanceSound) (hw : s.working = true) (n : Nat) :
    (s.afterPoll n).GuidanceSound := by
  unfold State.afterPoll
  split
  · exact h.of_kept (by simp [State.guidanceKept_iff, State.pollHead])
  · have hnone : (s.setAir { s.air with poll := none }).GuidanceSound := h.of_kept (by simp [State.guidanceKept_iff])
    exact State.GuidanceSound.roundEnds hnone hw

theorem State.GuidanceSound.startRound {s : State} (h : s.GuidanceSound) (hw : s.working = true) :
    s.startRound.GuidanceSound := by
  have hstarted : (s.setAir { s.air with roundTimer := some (seconds 1), poll := none }).GuidanceSound :=
    h.of_kept (by simp [State.guidanceKept_iff])
  rcases s.startRound_cases with ⟨-, heq⟩ | ⟨-, t, ht, heq⟩
  · exact heq ▸ State.GuidanceSound.afterPoll hstarted hw 0
  · have hsound : t.GuidanceSound := ht ▸ State.GuidanceSound.airSample hstarted hw
    rcases heq with heq | ⟨_, -, heq⟩ <;> rw [heq]
    · exact hsound
    · exact hsound.of_kept (by simp [State.guidanceKept_iff, State.pollHead])

/-! ### Bays -/

theorem BayMonitor.freeCountsDiffer_eq_false {a b : BayMonitor} (h : a.freeCountsDiffer b = false) :
    a.freeCount = b.freeCount := by
  funext g
  simp only [BayMonitor.freeCountsDiffer, Bool.or_eq_false_iff, decide_eq_false_iff_not, not_not] at h
  obtain ⟨⟨hstandard, haccessible⟩, hcharging⟩ := h
  cases g <;> assumption

theorem State.GuidanceSound.changeBay {s : State} (h : s.GuidanceSound) (n : Nat) (f : Bay → Bay) :
    (s.changeBay n f).GuidanceSound := by
  unfold State.changeBay
  dsimp only
  split
  · refine State.GuidanceRests.guidanceTold ?_ (.inl rfl) false
    obtain ⟨hrests, -, -⟩ := s.guidanceSound_iff.mp h
    exact ⟨hrests.signs, hrests.level, hrests.rows⟩
  · exact h.of_kept ⟨rfl, rfl, rfl, rfl, BayMonitor.freeCountsDiffer_eq_false (Bool.eq_false_of_not_eq_true ‹_›), rfl, rfl,
      rfl, rfl, rfl, rfl⟩

/-- Whatever is not a bay record plays no part in the free counts (R61). -/
theorem BayMonitor.freeCount_congr {a b : BayMonitor} (h : a.bays = b.bays) : a.freeCount = b.freeCount := by
  funext g
  simp only [BayMonitor.freeCount, h]

/-- The Bay Monitor changed but for its bay records. -/
theorem State.GuidanceSound.setBays {s : State} (h : s.GuidanceSound) {b : BayMonitor} (hb : b.bays = s.bays.bays) :
    (s.setBays b).GuidanceSound :=
  h.of_kept ⟨rfl, rfl, rfl, rfl, BayMonitor.freeCount_congr hb, rfl, rfl, rfl, rfl, rfl, rfl⟩

theorem State.GuidanceSound.readAfter {s : State} (h : s.GuidanceSound) (n : Nat) : (s.readAfter n).GuidanceSound := by
  unfold State.readAfter
  split <;> exact h.setBays rfl

theorem State.GuidanceSound.endRead {s : State} (h : s.GuidanceSound) (r : BayRead) (a : BayAnswer) :
    (s.endRead r a).GuidanceSound := by
  unfold State.endRead State.bayAnswered
  refine State.GuidanceSound.readAfter ?_ r.bay
  split
  · exact h
  · split
    · exact h
    · have hchanged := h.changeBay r.bay (Bay.answer s.settings a)
      dsimp only
      split
      · exact hchanged.of_kept (by simp [State.guidanceKept_iff])
      · exact hchanged

/-! ### Peers -/

theorem Peer.candidate_of_no_drive {p : Peer} (h : p.drive? = none) (own penalty : Nat) (g : GuidedClass) :
    p.candidate own penalty g = none := by
  cases ho : p.origin with
  | learned => simp [Peer.candidate, ho]
  | static c =>
    have hc : c.drive = none := by simpa [Peer.drive?, Peer.static?, ho] using h
    simp only [Peer.candidate, ho]
    split
    · rename_i heq _ _ _
      cases heq
      rw [hc]
    · rfl

/-- Entries that agree in what a drive neighbour offers by give the same candidate (R98). -/
theorem Peer.candidate_congr {p q : Peer} (ho : q.origin = p.origin) (ha : q.address = p.address)
    (hd : p.drive?.isSome = true → q.state = p.state ∧ q.heard.closed = p.heard.closed ∧ q.heard.adverts = p.heard.adverts)
    (own penalty : Nat) (g : GuidedClass) : q.candidate own penalty g = p.candidate own penalty g := by
  cases hdrive : p.drive? with
  | none =>
    have hq : q.drive? = none := by
      rw [← hdrive]
      simp only [Peer.drive?, Peer.static?, ho]
    rw [Peer.candidate_of_no_drive hdrive, Peer.candidate_of_no_drive hq]
  | some d =>
    obtain ⟨hs, hclosed, hadverts⟩ := hd (by simp [hdrive])
    simp only [Peer.candidate, ho, ha, hs, hclosed, hadverts]

/-- Slots changed one by one, none of them in what it offers. -/
theorem offersOf_map {slots : List (Option Peer)} {f : Option Peer → Option Peer}
    (h : ∀ slot ∈ slots, ∀ own penalty g, (f slot).bind (fun p => p.candidate own penalty g) =
      slot.bind (fun p => p.candidate own penalty g)) : offersOf (slots.map f) = offersOf slots := by
  funext own penalty g
  rw [offersOf, List.filterMap_map]
  exact List.filterMap_congr fun slot hslot => h slot hslot own penalty g

/-- No drive neighbour's state has changed between slots changed one by one (R87). -/
theorem driveStateChanged_map {slots : List (Option Peer)} {f : Option Peer → Option Peer}
    (h : driveStateChanged slots (slots.map f) = false) {p q : Peer} (hp : some p ∈ slots) (hq : f (some p) = some q)
    (hd : p.drive?.isSome = true) : q.state = p.state := by
  have hpair : (some p, some q) ∈ slots.zip (slots.map f) := by
    have hzip : slots.zip (slots.map f) = slots.map (fun slot => (slot, f slot)) := by
      simpa using List.zip_map' (f := id) (g := f) (l := slots)
    rw [hzip, List.mem_map]
    exact ⟨some p, hp, by rw [hq]⟩
  have hnone := List.any_eq_false.mp h _ hpair
  simp only [hd, Bool.true_and, decide_eq_true_eq, not_not] at hnone
  exact hnone.symm

/-- A bulletin that is no STATUS changes neither the closed flag nor the adverts (R77). -/
theorem Heard.take_offers {h : Heard} {b : Bulletin} (hb : ∀ c, b ≠ .status c) :
    (h.take b).closed = h.closed ∧ (h.take b).adverts = h.adverts := by
  cases b with
  | status c => exact absurd rfl (hb c)
  | alert => exact ⟨rfl, rfl⟩
  | passage => exact ⟨rfl, rfl⟩

theorem offersOf_renew {t : PeerTable} (hslots : SlotsSound t.slots) {source : Nat} {b : Bulletin} {p₀ : Peer}
    (hentry : t.entry? source = some p₀) (hstatus : ∀ c, b = .status c → p₀.drive? = none)
    (hstate : driveStateChanged t.slots (t.slots.map (Option.map (fun p => if p.address = source then p.renew b else p))) =
      false) :
    offersOf (t.slots.map (Option.map (fun p => if p.address = source then p.renew b else p))) = offersOf t.slots := by
  obtain ⟨hmem₀, haddress₀⟩ := PeerTable.entry?_eq_some hentry
  refine offersOf_map fun slot hslot own penalty g => ?_
  cases slot with
  | none => rfl
  | some p =>
    by_cases ha : p.address = source
    · simp only [Option.map_some, ha, if_true, Option.bind_some]
      have hsame : p = p₀ := List.inj_on_of_nodup_map hslots.nodup (mem_entriesOf.mpr hslot) hmem₀ (ha.trans haddress₀.symm)
      refine Peer.candidate_congr (p := p) (q := p.renew b) rfl rfl (fun hd => ⟨?_, ?_⟩) own penalty g
      · exact driveStateChanged_map hstate hslot (by simp [ha]) hd
      · refine Heard.take_offers fun c hc => ?_
        rw [hsame, hstatus c hc] at hd
        cases hd
    · simp [ha]

theorem offersOf_fillFirstEmpty {p : Peer} (hp : p.drive? = none) (slots : List (Option Peer)) :
    offersOf (fillFirstEmpty p slots) = offersOf slots := by
  funext own penalty g
  induction slots with
  | nil => rfl
  | cons slot rest ih =>
    cases slot with
    | none => simp [fillFirstEmpty, offersOf, Peer.candidate_of_no_drive hp]
    | some q =>
      simp only [offersOf] at ih
      simp only [fillFirstEmpty, offersOf, List.filterMap_cons, ih]

/-- The entry evicted is a learned one of age 1 or more (R79). -/
theorem chooseVictim_mem {l : List Peer} {v : Peer} (h : chooseVictim l = some v) : v ∈ l := by
  induction l generalizing v with
  | nil => cases h
  | cons p ps ih =>
    rw [chooseVictim] at h
    cases hps : chooseVictim ps with
    | none =>
      rw [hps] at h
      cases h
      exact List.mem_cons_self
    | some q =>
      rw [hps] at h
      dsimp only at h
      split at h <;> cases h
      · exact List.mem_cons_self
      · exact List.mem_cons_of_mem _ (ih hps)

theorem Peer.drive?_of_learned {p : Peer} (h : p.origin = .learned) : p.drive? = none := by
  simp [Peer.drive?, Peer.static?, h]

theorem offersOf_evict {slots : List (Option Peer)} (hslots : SlotsSound slots) {v p : Peer} (hp : p.drive? = none)
    (hv : chooseVictim (slots.filterMap (fun slot => slot.filter Peer.evictable)) = some v) :
    offersOf (slots.map (Option.map (fun q => if q.address = v.address then p else q))) = offersOf slots := by
  have hmem := chooseVictim_mem hv
  simp only [List.mem_filterMap, Option.filter_eq_some_iff] at hmem
  obtain ⟨_, hslot, rfl, hevictable⟩ := hmem
  have hlearned : v.origin = .learned := by
    simp only [Peer.evictable, Bool.and_eq_true, decide_eq_true_eq] at hevictable
    exact hevictable.1
  refine offersOf_map fun slot hmem own penalty g => ?_
  cases slot with
  | none => rfl
  | some q =>
    by_cases ha : q.address = v.address
    · have hsame : q = v := List.inj_on_of_nodup_map hslots.nodup (mem_entriesOf.mpr hmem) (mem_entriesOf.mpr hslot) ha
      simp [hsame, Peer.candidate_of_no_drive hp, Peer.candidate_of_no_drive (Peer.drive?_of_learned hlearned)]
    · simp [ha]

/-- A bulletin taken changes no offer but by a STATUS of a drive neighbour or a change of its state (R87). -/
theorem offersOf_taken {s : State} (hslots : SlotsSound s.peers.slots) {source : Nat} {b : Bulletin}
    {slots : List (Option Peer)} (ht : s.peers.taken source b = some slots) (hstatus : s.statusOfDrive source b = false)
    (hstate : driveStateChanged s.peers.slots slots = false) : offersOf slots = offersOf s.peers.slots := by
  unfold PeerTable.taken at ht
  split at ht
  · rename_i p hentry
    obtain rfl := Option.some.inj ht
    refine offersOf_renew hslots hentry (fun c hc => ?_) hstate
    subst hc
    unfold State.statusOfDrive at hstatus
    split at hstatus
    · rename_i hfound
      obtain rfl := Option.some.inj (hfound.symm.trans hentry)
      simpa using hstatus
    · rename_i hno
      exact absurd hentry (hno c p rfl)
  · split at ht
    · obtain rfl := Option.some.inj ht
      exact offersOf_fillFirstEmpty rfl _
    · split at ht
      · obtain rfl := Option.some.inj ht
        exact offersOf_evict hslots rfl ‹_›
      · cases ht

theorem Peer.sweep_origin {p q : Peer} (hq : p.sweep = some q) : q.origin = p.origin := by
  unfold Peer.sweep at hq
  split at hq
  · obtain rfl := Option.some.inj hq
    rfl
  · split at hq
    · cases hq
    · obtain rfl := Option.some.inj hq
      rfl
    · obtain rfl := Option.some.inj hq
      rfl

/-- An entry that a sweep leaves in its state keeps what it has heard (R82). -/
theorem Peer.sweep_heard {p q : Peer} (hq : p.sweep = some q) (hs : q.state = p.state) : q.heard = p.heard := by
  unfold Peer.sweep at hq
  split at hq
  · obtain rfl := Option.some.inj hq
    rfl
  · split at hq
    · cases hq
    · rename_i hstale
      obtain rfl := Option.some.inj hq
      rw [hstale] at hs
      cases hs
    · obtain rfl := Option.some.inj hq
      rfl

theorem Peer.sweep_eq_none {p : Peer} (h : p.sweep = none) : p.origin = .learned := by
  unfold Peer.sweep at h
  split at h
  · cases h
  · split at h
    · assumption
    · cases h
    · cases h

theorem offersOf_sweep {slots : List (Option Peer)}
    (hstate : driveStateChanged slots (slots.map (fun slot => slot.bind Peer.sweep)) = false) :
    offersOf (slots.map (fun slot => slot.bind Peer.sweep)) = offersOf slots := by
  refine offersOf_map fun slot hslot own penalty g => ?_
  cases slot with
  | none => rfl
  | some p =>
    cases hq : p.sweep with
    | none => simp [hq, Peer.candidate_of_no_drive (Peer.drive?_of_learned (Peer.sweep_eq_none hq))]
    | some q =>
      simp only [Option.bind_some, hq]
      refine Peer.candidate_congr (Peer.sweep_origin hq) (Peer.sweep_address hq) (fun hd => ?_) own penalty g
      have hs := driveStateChanged_map hstate hslot hq hd
      rw [Peer.sweep_heard hq hs]
      exact ⟨hs, rfl, rfl⟩

/-- The table changed: the Guidance Unit is told wherever an offer may have changed (R87). -/
theorem State.GuidanceSound.peersChanged {s : State} (h : s.GuidanceSound) {slots : List (Option Peer)} {b : Bool}
    (hoffers : b = false → driveStateChanged s.peers.slots slots = false → offersOf slots = offersOf s.peers.slots) :
    (s.peersChanged slots b).GuidanceSound := by
  set changed := s.setPeers { s.peers with slots := slots, sympathy := sympathyHolds s.settings.levelNumber slots } with hchanged
  have hrests : changed.GuidanceRests := (s.guidanceSound_iff.mp h).1.of_same rfl rfl fun hw =>
    (s.guidanceSound_iff.mp h).1.level hw
  unfold State.peersChanged
  dsimp only
  rw [← hchanged]
  split
  · refine State.GuidanceRests.guidanceTold ?_ (.inl rfl) false
    split
    · exact hrests.recompute false
    · exact hrests
  · rename_i hnone
    simp only [Bool.or_eq_true, not_or, Bool.not_eq_true] at hnone
    have hsound : changed.GuidanceSound :=
      h.of_kept ⟨rfl, rfl, rfl, rfl, rfl, rfl, hoffers hnone.1 hnone.2, rfl, rfl, rfl, rfl⟩
    split
    · exact hsound.recompute false
    · exact hsound

theorem State.GuidanceSound.takeBulletin {s : State} (h : s.GuidanceSound) (hslots : SlotsSound s.peers.slots)
    (source : Byte) (b : Bulletin) : (s.takeBulletin source b).GuidanceSound := by
  rcases s.takeBulletin_cases source b with ⟨n, heq⟩ | ⟨slots, ht, -, -, -, heq⟩ <;> rw [heq]
  · exact h.of_kept (by simp [State.guidanceKept_iff])
  · have hchanged : (s.peersChanged slots (s.statusOfDrive source.toNat b)).GuidanceSound :=
      h.peersChanged fun hstatus hstate => offersOf_taken hslots ht hstatus hstate
    exact hchanged.of_kept (by simp [State.guidanceKept_iff])

end Sys2Proof.Machine
end

section
/-! PROOFS. Every command and every step keeps the Guidance Unit sound (R91, R95, R96, R103, R105). -/

namespace Sys2Proof.Machine

/-! ### Frames -/

theorem State.GuidanceSound.serviceClose {s : State} (h : s.GuidanceSound) (v : Bool) :
    ((s.setGuide { s.guide with serviceClose := v }).guidanceTold false false).GuidanceSound := by
  obtain ⟨hrests, -, hshows⟩ := s.guidanceSound_iff.mp h
  exact State.GuidanceRests.guidanceTold (s := s.setGuide { s.guide with serviceClose := v })
    ⟨hrests.signs, hrests.level, hrests.rows⟩ (.inr ⟨hshows.rows, hshows.images⟩) false

theorem State.withOverride_guidanceSound {s : State} (h : s.GuidanceSound) (o : Option FanOverride) :
    (s.withOverride o).GuidanceSound := by
  have hset : (s.setVent { s.vent with override := o }).GuidanceSound := h.of_kept (by simp [State.guidanceKept_iff])
  exact hset.recompute false

theorem Ventilation.setRunList_ventLost (v : Ventilation) (l : List Nat) : (v.setRunList l).ventLost = v.ventLost := by
  unfold Ventilation.setRunList Ventilation.advanceDuty
  (repeat' split) <;> rfl

/-- Fans changed without a pass leave VENT_LOST. -/
theorem State.GuidanceSound.setVent_allocate {s : State} (h : s.GuidanceSound) {v : Ventilation}
    (hv : v.ventLost = s.vent.ventLost) : (s.setVent v).allocate.GuidanceSound :=
  State.GuidanceSound.allocate (h.of_kept ⟨rfl, rfl, rfl, rfl, rfl, hv, rfl, rfl, rfl, rfl, rfl⟩)

theorem CommandEffect.guidanceSound {s t : State} {code : Nat} (e : CommandEffect s code t) (h : s.GuidanceSound) :
    t.GuidanceSound := by
  cases e with
  | overrideSet o => exact State.withOverride_guidanceSound h (some o)
  | overrideCleared => exact State.withOverride_guidanceSound h none
  | lockedOut n => exact h.setVent_allocate (Ventilation.setRunList_ventLost _ _)
  | returned => exact h.setVent_allocate rfl
  | reserved => exact h.changeBay _ _
  | released => exact h.changeBay _ _
  | putOut n =>
    have hdiscarded : (s.setBays (s.bays.discardRead n)).GuidanceSound := h.setBays rfl
    exact hdiscarded.changeBay n Bay.goOut
  | broughtIn => exact h.changeBay _ _
  | serviceClose _ v => exact h.serviceClose v
  | _ => exact h.of_kept (by simp [State.guidanceKept_iff])

theorem State.guidanceSound_afterReset (s : State) {st : Station} (hst : st = .heldInReset ∨ st = .starting) (u : StartUp)
    (k : Counters) : (s.afterReset st u k).GuidanceSound := by
  rw [State.guidanceSound_of_ne_normal (by rcases hst with rfl | rfl <;> simp)]
  exact ⟨List.Pairwise.nil, rfl, fun _ => rfl, rfl, fun g hg => absurd hg List.not_mem_nil⟩

theorem ServiceEffect.guidanceSound {s t : State} {code : Nat} (e : ServiceEffect s code t) (h : s.GuidanceSound) :
    t.GuidanceSound := by
  cases e with
  | unanswered _ _ e => exact e.guidanceSound h
  | answered _ _ _ e => exact (e.guidanceSound h).of_kept (by simp [State.guidanceKept_iff])
  | restartAnswered _ _ _ _ _ _ ht => exact h.of_kept (by simp [State.guidanceKept_iff, ht])
  | restarted => exact s.guidanceSound_afterReset (.inr rfl) _ _
  | _ => exact h.of_kept (by simp [State.guidanceKept_iff])

theorem FrameEffect.guidanceSound {s t : State} {codes : Nat → Prop} (e : FrameEffect s codes t) (h : s.GuidanceSound)
    (hslots : SlotsSound s.peers.slots) : t.GuidanceSound := by
  have haccepted : s.frameAccepted.GuidanceSound := h.of_kept (by simp [State.guidanceKept_iff])
  cases e with
  | bulletin _ source b => exact haccepted.takeBulletin hslots source b
  | service _ _ _ e => exact e.guidanceSound haccepted
  | _ => exact h.of_kept (by simp [State.guidanceKept_iff])

/-! ### Station states -/

/-- Outside NORMAL fans, bays and peers play no part in closure, rows and images (R95, R96, R103). -/
theorem State.GuidanceSound.of_ne_normal {s t : State} (h : s.GuidanceSound) (hst : s.station ≠ .normal)
    (ht : t.station = s.station) (ha : t.air = s.air) (hi : t.inputs = s.inputs) (hg : t.guide = s.guide) :
    t.GuidanceSound := by
  rw [State.guidanceSound_of_ne_normal hst] at h
  rw [State.guidanceSound_of_ne_normal (ht ▸ hst), hg, ha, State.working_eq ht]
  simpa only [State.closureHolds, ha, hi, hg] using h

/-- LISTENING has begun: closure, rows and images are as STARTING left them (R176). -/
theorem State.listeningBegins_guidanceSound {s : State} (h : s.GuidanceSound) (hst : s.station = .starting)
    (image : List Byte) (c : Settings) (k : Nat) : (s.listeningBegins image c k).GuidanceSound := by
  have hw : s.working = false := by simp [State.working, hst]
  rw [State.guidanceSound_of_ne_normal (by simp [hst])] at h
  obtain ⟨hascending, hclosed, hlevel, hrows, himages⟩ := h
  rw [State.guidanceSound_of_ne_normal (by simp [State.listeningBegins])]
  refine ⟨?_, ?_, fun _ => ?_, ?_, ?_⟩
  · simpa [State.listeningBegins] using hascending
  · simp only [State.closureHolds, hlevel hw] at hclosed
    simpa [State.listeningBegins, State.closureHolds, AirMonitor.fresh, AirMonitor.afterReset] using hclosed
  · simp [State.listeningBegins, AirMonitor.fresh, AirMonitor.afterReset]
  · simpa [State.listeningBegins] using hrows
  · simpa [State.listeningBegins] using himages

theorem State.ventilationListens_guidanceSound {s : State} (h : s.GuidanceSound) (hst : s.station ≠ .normal) :
    s.ventilationListens.GuidanceSound := by
  unfold State.ventilationListens
  exact State.GuidanceSound.allocate (h.of_ne_normal hst (by simp) (by simp) (by simp) (by simp))

/-- Every sign fresh, BLANK and due (R102, R176). -/
theorem State.signsListen_guidanceSound {s : State} (h : s.GuidanceSound) (hst : s.station ≠ .normal) {signs : List SignSettings}
    (hsigns : Ascending (signs.map SignSettings.number)) :
    (s.setGuide { s.guide with signs := signs.map Sign.fresh }).formImages.GuidanceSound := by
  rw [State.guidanceSound_of_ne_normal hst] at h
  obtain ⟨-, hclosed, hlevel, hrows, -⟩ := h
  rw [State.guidanceSound_of_ne_normal (by simpa using hst)]
  refine ⟨?_, hclosed, hlevel, hrows, fun g hg => ?_⟩
  · simpa [State.formImages, Sign.fresh, Function.comp_def] using hsigns
  · obtain ⟨x, -, rfl⟩ := List.mem_map.mp hg
    rw [Sign.show_image]
    exact State.signImage_of_ne_normal (by exact hst) _

/-- Entry to LISTENING: every sign BLANK and no route known (R95, R103, R176). -/
theorem State.enterListening_guidanceSound {s : State} (h : s.GuidanceSound) (hst : s.station = .starting)
    (image r : List Byte) (k : Nat) : (s.enterListening image (settingsOfRecord r).value k).GuidanceSound := by
  set c := (settingsOfRecord r).value with hc
  obtain ⟨-, -, -, -, -, -, -, -, -, -, -, -, hsigns, -⟩ := settingsOfRecord_zoneLegal r
  rw [← hc] at hsigns
  have hlistening : (s.listeningBegins image c k).station ≠ .normal := by simp [State.listeningBegins]
  have hfans := State.ventilationListens_guidanceSound (s.listeningBegins_guidanceSound h hst image c k) hlistening
  have hbays : (s.listeningBegins image c k).ventilationListens.baysListen.GuidanceSound :=
    hfans.of_ne_normal (by simpa using hlistening) (by simp) (by simp) (by simp) (by simp)
  have hblocks : ((s.listeningBegins image c k).listeningBlocks c).GuidanceSound :=
    (State.signsListen_guidanceSound hbays (by simpa using hlistening) hsigns).of_kept
      (by simp [State.guidanceKept_iff, State.listeningBlocks])
  rw [State.enterListening_eq]
  refine State.GuidanceSound.startRound (hblocks.of_kept (by simp [State.guidanceKept_iff])) ?_
  simp [State.listeningBegins, State.listeningBlocks, State.working]

theorem State.GuidanceSound.enterFallback {s : State} (h : s.GuidanceSound) (hst : s.station = .starting) :
    s.enterFallback.GuidanceSound := by
  rw [State.guidanceSound_of_ne_normal (by simp [hst])] at h
  obtain ⟨hascending, hclosed, hlevel, hrows, himages⟩ := h
  have hlevel' : s.air.level = .clear := hlevel (by simp [State.working, hst])
  unfold State.enterFallback State.ventilationFallsBack
  refine State.GuidanceSound.allocate ((State.guidanceSound_of_ne_normal (by simp)).mpr ?_)
  exact ⟨hascending, hclosed, fun _ => hlevel', hrows, himages⟩

/-! ### Every effect -/

theorem State.captureStatus_guidanceSound {s : State} (h : s.GuidanceSound) : s.captureStatus.GuidanceSound := by
  obtain ⟨hrests, -, hshows⟩ := s.guidanceSound_iff.mp h
  exact hrests.guidanceTold (.inr hshows) true

theorem State.beginHead_guidanceSound {s : State} (h : s.GuidanceSound) (cls : TxClass) : (s.beginHead cls).GuidanceSound := by
  unfold State.beginHead
  split
  · exact h.of_kept (by simp [State.guidanceKept_iff])
  · split
    · exact h.of_kept (by simp [State.guidanceKept_iff, State.beginAlert, State.beginAttempt])
    · exact (State.captureStatus_guidanceSound h).of_kept (by simp [State.guidanceKept_iff, State.beginAttempt])
    · exact h.of_kept (by simp [State.guidanceKept_iff, State.beginAttempt])
    · exact h.of_kept (by simp [State.guidanceKept_iff, State.beginAttempt])

/-- A sign marked: its settings and its image stay (R106, R108). -/
theorem Guidance.mapSign_shown {g : Guidance} {n : Nat} {f : Sign → Sign}
    (hf : ∀ x, ((f x).settings, (f x).image) = (x.settings, x.image)) :
    (g.mapSign n f).signs.map (fun x => (x.settings, x.image)) = g.signs.map (fun x => (x.settings, x.image)) := by
  unfold Guidance.mapSign
  rw [List.map_map]
  refine List.map_congr_left fun x _ => ?_
  simp only [Function.comp_apply]
  split
  · exact hf x
  · rfl

/-- A change of the purge line changes no row and no image before closure is formed from it. -/
theorem State.GuidanceSound.setPurge {s : State} (h : s.GuidanceSound) (v : Bool) :
    (s.setInputs { s.inputs with purge := s.inputs.purge.take v }).GuidanceRests ∧
      (s.setInputs { s.inputs with purge := s.inputs.purge.take v }).GuidanceShows := by
  obtain ⟨hrests, -, hshows⟩ := s.guidanceSound_iff.mp h
  exact ⟨⟨hrests.signs, hrests.level, hrests.rows⟩, ⟨hshows.rows, hshows.images⟩⟩

theorem State.GuidanceRests.allocate_shows {s : State} (h : s.GuidanceRests) (hs : s.GuidanceShows) :
    s.allocate.GuidanceShows := by
  rcases s.allocate_cases with ⟨heq, hlost⟩ | heq <;> rw [heq]
  · have hkept : s.GuidanceKept (s.setVent s.allocate.vent) :=
      ⟨rfl, rfl, rfl, rfl, rfl, hlost, rfl, rfl, rfl, rfl, rfl⟩
    exact hkept.shows hs
  · obtain ⟨-, -, hshows⟩ := (State.guidanceSound_iff _).mp ((h.setVent s.allocate.vent).guidanceTold (.inl rfl) false)
    exact hshows

theorem State.GuidanceRests.recompute_shows {s : State} (h : s.GuidanceRests) (hs : s.GuidanceShows) (b : Bool) :
    (s.recompute b).GuidanceShows := by
  unfold State.recompute
  split
  · exact (h.setVent _).allocate_shows ⟨hs.rows, hs.images⟩
  · exact hs

theorem Effect.guidanceSound {s t : State} {c : Instr} (e : Effect s c t) (h : s.GuidanceSound)
    (hslots : SlotsSound s.peers.slots) : t.GuidanceSound := by
  cases e with
  | reset _ st u k hst => exact s.guidanceSound_afterReset hst u k
  | listens record hst => exact State.enterListening_guidanceSound h hst _ _ _
  | fallsBack _ hst => exact h.enterFallback hst
  | entersNormal hst =>
    obtain ⟨hrests, -, -⟩ := s.guidanceSound_iff.mp h
    have hnormal : ((s.setStation .normal).setStartup { s.startup with listeningTimer := none }).GuidanceRests :=
      ⟨hrests.signs, fun hw => by simp [State.working] at hw, fun hne => by simp at hne⟩
    exact hnormal.guidanceTold (.inl rfl) false
  | roundStarts hw => exact h.startRound hw
  | headAnswers hw p _ status raw =>
    have hheard : (s.setAir (s.air.mapHead p.head (fun h => h.answer status raw))).GuidanceSound :=
      h.of_kept ⟨rfl, rfl, rfl, rfl, rfl, rfl, rfl, rfl, rfl, rfl, rfl⟩
    exact hheard.afterPoll hw p.head
  | headMisses hw p =>
    have hmissed : ((s.setAir (s.air.mapHead p.head Head.miss)).count .headMiss).GuidanceSound :=
      h.of_kept ⟨rfl, rfl, rfl, rfl, rfl, rfl, rfl, rfl, rfl, rfl, rfl⟩
    exact hmissed.afterPoll hw p.head
  | sampled hw => exact h.airSample hw
  | purgeWorking hw v _ taken ht =>
    obtain ⟨hrests, hshows⟩ := h.setPurge v
    have hqueued : taken.GuidanceKept taken.queueAlert := by simp [State.guidanceKept_iff]
    have hrests' : taken.queueAlert.GuidanceRests := hqueued.rests (ht ▸ hrests)
    have hrecomputed := hrests'.recompute_shows (hqueued.shows (ht ▸ hshows)) false
    have htold := (hrests'.recompute false).guidanceTold (cause := false) (.inr hrecomputed) false
    exact htold.of_kept (by simp [State.guidanceKept_iff])
  | purgeResting _ _ v _ taken ht =>
    obtain ⟨hrests, hshows⟩ := h.setPurge v
    exact ht ▸ hrests.guidanceTold (.inr hshows) false
  | confirmKept => exact h.of_kept (by simp [State.guidanceKept_iff])
  | confirmStarts _ n =>
    have htaken : (s.setInputs { s.inputs with runConfirm := takeAt s.inputs.runConfirm n true }).GuidanceSound :=
      h.of_kept ⟨rfl, rfl, rfl, rfl, rfl, rfl, rfl, rfl, rfl, rfl, rfl⟩
    exact htaken.setVent_allocate rfl
  | lossSet => exact h.of_kept ⟨rfl, rfl, rfl, rfl, rfl, rfl, rfl, rfl, rfl, rfl, rfl⟩
  | fanFails => exact h.setVent_allocate (Ventilation.setRunList_ventLost _ _)
  | fallbackStarts => exact h.setVent_allocate rfl
  | coasted => exact h.setVent_allocate rfl
  | overrideExpires => exact State.withOverride_guidanceSound h none
  | scanStarts =>
    have htimed : (s.setBays { s.bays with scanTimer := some 500 }).GuidanceSound := h.setBays rfl
    exact htimed.readAfter 0
  | readEnds _ _ r _ a => exact h.endRead r a
  | reservationExpires => exact h.changeBay _ _
  | loopMoves _ n loop _ g _ _ inputs hin next _ moved ht =>
    have hmoved : moved.GuidanceSound := by
      subst ht
      cases loop <;> exact h.of_kept ⟨rfl, rfl, rfl, by rw [State.setBays_inputs, State.setInputs_inputs, hin]; rfl,
        rfl, rfl, rfl, rfl, rfl, rfl, rfl⟩
    cases next.2 with
    | none => exact hmoved
    | some p =>
      rcases moved.passage_cases g.settings p with heq | ⟨n, -, -, heq⟩ <;> simp only [heq]
      · exact hmoved.of_kept ⟨rfl, rfl, rfl, rfl, rfl, rfl, rfl, rfl, rfl, rfl, rfl⟩
      · have hraised : ((moved.setBays { moved.bays with ring := moved.bays.ring.passed }).presence
            g.settings.channels).GuidanceSound :=
          hmoved.of_kept ⟨rfl, rfl, rfl, rfl, rfl, rfl, rfl, rfl, rfl, rfl, rfl⟩
        exact hraised.of_kept (by simp [State.guidanceKept_iff])
  | gateSticks => exact h.of_kept ⟨rfl, rfl, rfl, rfl, rfl, rfl, rfl, rfl, rfl, rfl, rfl⟩
  | ringRotates => exact h.setBays rfl
  | swept =>
    have htimed : (s.setPeers { s.peers with sweepTimer := some (seconds s.settings.sweepInterval) }).GuidanceSound :=
      h.of_kept ⟨rfl, rfl, rfl, rfl, rfl, rfl, rfl, rfl, rfl, rfl, rfl⟩
    exact htimed.peersChanged fun _ hstate => offersOf_sweep hstate
  | signsMarked => exact h.of_kept ⟨rfl, rfl, rfl, rfl, rfl, rfl, rfl, rfl, rfl, rfl, Guidance.mapSign_shown fun _ => rfl⟩
  | signAnswered => exact h.of_kept ⟨rfl, rfl, rfl, rfl, rfl, rfl, rfl, rfl, rfl, rfl, Guidance.mapSign_shown fun _ => rfl⟩
  | signMissed => exact h.of_kept ⟨rfl, rfl, rfl, rfl, rfl, rfl, rfl, rfl, rfl, rfl, Guidance.mapSign_shown fun _ => rfl⟩
  | blankSent _ _ timer due =>
    obtain ⟨hclose, hclosed, hrows, hsigns⟩ :=
      Guidance.sendFallback_keeps { s.guide with fallbackTimer := timer, fallbackDue := due }
    exact h.of_kept ⟨rfl, rfl, rfl, rfl, rfl, rfl, rfl, hclose, hclosed, hrows, by rw [State.setGuide_guide, hsigns]⟩
  | motionStarts _ _ _ ht => exact h.of_kept (by simp [State.guidanceKept_iff, ht])
  | motionEnds _ _ _ ht => exact h.of_kept (by simp [State.guidanceKept_iff, ht])
  | gapEnds cls => exact State.beginHead_guidanceSound h cls
  | droppedRestarts => exact State.guidanceSound_afterReset _ (.inr rfl) _ _
  | sentRestarts => exact State.guidanceSound_afterReset _ (.inr rfl) _ _
  | idles _ _ hidle _ ht => rcases ht with rfl | rfl <;> exact h.of_kept (by simp [State.guidanceKept_iff, hidle])
  | idleSelects _ _ _ hidle _ ht => rcases ht with rfl | rfl <;> exact h.of_kept (by simp [State.guidanceKept_iff, hidle])
  | frame _ _ _ e => exact e.guidanceSound h hslots
  | _ => exact h.of_kept (by simp [State.guidanceKept_iff])

theorem State.GuidanceSound.tick {s : State} (h : s.GuidanceSound) : s.tick.GuidanceSound := by
  unfold State.tick
  split
  · exact h.of_kept ⟨rfl, rfl, rfl, rfl, rfl, rfl, rfl, rfl, rfl, rfl, rfl⟩
  · refine h.of_kept ⟨rfl, rfl, rfl, Inputs.tick_purge _ _, ?_, rfl, rfl, rfl, rfl, rfl, ?_⟩
    · funext g
      simp [BayMonitor.tick, BayMonitor.freeCount, List.filter_map, Function.comp_def]
    · simp [Guidance.tick, Function.comp_def]

theorem State.tick_peersSound {s : State} (h : s.PeersSound) : s.tick.PeersSound := by
  unfold State.tick
  split
  · exact h.of_same rfl rfl rfl
  · exact h

/-- Settles O55: the Guidance Unit is told of every change of what it reads; O57's invariant for the Peer Table goes
along. -/
theorem stepKeepsGuidanceSound : Obligations.StepKeepsGuidanceSound := fun _ _ hstep hpeers h =>
  (step_keeps (I := fun s => s.PeersSound ∧ s.GuidanceSound)
    (fun _ _ ⟨hp, hg⟩ => ⟨hp, hg⟩) (fun _ ⟨hp, hg⟩ => ⟨State.tick_peersSound hp, hg.tick⟩)
    (fun s _ _ e ⟨hp, hg⟩ => ⟨e.peersSound hp, e.guidanceSound hg ((s.peersSound_iff).mp hp).1⟩) hstep ⟨hpeers, h⟩).2

end Sys2Proof.Machine
end

section
/-! PROOFS. One spoiled byte and the CRC-16 (R134). -/

namespace Sys2Proof.Machine

/-! ### The CRC is linear over the exclusive or (R134) -/

/-- The generator where the bit shifted out and the bit taken differ. -/
def crcFeedback (f : Bool) : Half := if f then 0x1021#16 else 0#16

theorem crcBit_eq (r : Half) (d : Bool) : crcBit r d = r <<< 1 ^^^ crcFeedback (r.msb ^^ d) := by
  unfold crcBit crcFeedback
  cases r.msb <;> cases d <;> simp

theorem crcFeedback_xor (f g : Bool) : crcFeedback (f ^^ g) = crcFeedback f ^^^ crcFeedback g := by
  cases f <;> cases g <;> decide

theorem crcBit_xor (r r' : Half) (d d' : Bool) : crcBit (r ^^^ r') (d ^^ d') = crcBit r d ^^^ crcBit r' d' := by
  have hbits : ((r.msb ^^ r'.msb) ^^ (d ^^ d')) = ((r.msb ^^ d) ^^ (r'.msb ^^ d')) := by
    simp [Bool.xor_left_comm]
  rw [crcBit_eq, crcBit_eq, crcBit_eq, BitVec.msb_xor, BitVec.shiftLeft_xor_distrib, hbits, crcFeedback_xor]
  ac_rfl

theorem crcBits_xor (l : List Nat) (b b' : Byte) (r r' : Half) :
    l.foldl (fun r i => crcBit r (bit (b ^^^ b') i)) (r ^^^ r') =
      l.foldl (fun r i => crcBit r (bit b i)) r ^^^ l.foldl (fun r i => crcBit r (bit b' i)) r' := by
  induction l generalizing r r' with
  | nil => rfl
  | cons i l ih =>
    have hbit : bit (b ^^^ b') i = (bit b i ^^ bit b' i) := BitVec.getLsbD_xor
    simp only [List.foldl_cons, hbit, crcBit_xor, ih]

theorem crcByte_xor (r r' : Half) (b b' : Byte) : crcByte (r ^^^ r') (b ^^^ b') = crcByte r b ^^^ crcByte r' b' :=
  crcBits_xor _ b b' r r'

/-! ### What the CRC tells apart -/

/-- No bit taken leads from a register that is not 0 to 0: what is shifted out comes back at the low end. -/
theorem eq_zero_of_crcBit {r : Half} (h : crcBit r false = 0#16) : r = 0#16 := by
  unfold crcBit at h
  cases hm : r.msb with
  | true =>
    rw [hm] at h
    have hlow := congrArg (fun x : Half => x.getLsbD 0) h
    simp at hlow
  | false =>
    rw [hm] at h
    simp only [bne_self_eq_false, Bool.false_eq_true, if_false] at h
    refine BitVec.eq_of_getLsbD_eq fun i hi => ?_
    rw [BitVec.getLsbD_zero]
    by_cases htop : i = 15
    · subst htop
      simpa [BitVec.msb_eq_getLsbD_last] using hm
    · have hnext := congrArg (fun x : Half => x.getLsbD (i + 1)) h
      simpa [show i + 1 < 16 by omega, BitVec.getLsbD_eq_getElem hi] using hnext

theorem eq_zero_of_crcBits (l : List Nat) {r : Half} (h : l.foldl (fun r i => crcBit r (bit 0#8 i)) r = 0#16) : r = 0#16 := by
  induction l generalizing r with
  | nil => exact h
  | cons i l ih => exact eq_zero_of_crcBit (by simpa [bit] using ih h)

/-- Two registers apart stay apart over a byte that both take. -/
theorem crcByte_injective (b : Byte) : Function.Injective (crcByte · b) := by
  intro r r' (h : crcByte r b = crcByte r' b)
  have hzero : crcByte (r ^^^ r') 0#8 = 0#16 := by
    have hxor := crcByte_xor r r' b b
    rwa [BitVec.xor_self, h, BitVec.xor_self] at hxor
  exact BitVec.xor_eq_zero_iff.mp (eq_zero_of_crcBits _ hzero)

theorem eq_zero_of_crcByte_zero : ∀ b : Byte, crcByte 0#16 b = 0#16 → b = 0#8 := by decide +kernel

/-- One register takes two bytes that differ to two registers that differ. -/
theorem crcByte_register_injective (r : Half) : Function.Injective (crcByte r) := by
  intro b b' h
  have hzero : crcByte 0#16 (b ^^^ b') = 0#16 := by
    have hxor := crcByte_xor r r b b'
    rwa [BitVec.xor_self, h, BitVec.xor_self] at hxor
  exact BitVec.xor_eq_zero_iff.mp (eq_zero_of_crcByte_zero _ hzero)

theorem foldl_crcByte_injective (l : List Byte) : Function.Injective (fun r => l.foldl crcByte r) := by
  induction l with
  | nil => exact fun _ _ h => h
  | cons b l ih => exact ih.comp (crcByte_injective b)

/-- Settles O8: the spoiled byte leads to another register, and the bytes after it keep the two apart. -/
theorem crcFindsAnyOneSpoiledByte : Obligations.CrcFindsAnyOneSpoiledByte := by
  intro before after a b hab h
  simp only [crc16, List.foldl_append, List.foldl_cons] at h
  exact hab (crcByte_register_injective _ (foldl_crcByte_injective after h))

end Sys2Proof.Machine
end

section
/-! PROOFS. Resets and the entries of the station states (R49, R172, R173, R176, R177, R178). -/

namespace Sys2Proof.Machine

/-! ### Resets (R172) -/

/-- Settles O3: each cause is its reset, block by block. -/
theorem resetsHoldThePart : Obligations.ResetsHoldThePart := by
  intro s
  refine ⟨⟨_, rfl, rfl, rfl, rfl, rfl, rfl, rfl, rfl, rfl, rfl, rfl, rfl, rfl, rfl⟩,
    ⟨_, rfl, rfl, rfl, rfl, rfl, rfl, rfl, rfl, rfl, rfl, rfl, rfl, rfl, rfl⟩,
    ⟨_, rfl, rfl, rfl, rfl, rfl, rfl, rfl, rfl, rfl, rfl, rfl, rfl, rfl, rfl⟩, fun hst hsupply => ?_, fun hsupply => ?_⟩
  · exact ⟨_, if_pos ⟨hst, hsupply⟩, rfl, rfl, rfl, rfl, rfl, rfl, rfl, rfl, rfl, rfl, rfl, rfl, rfl⟩
  · exact ⟨_, if_neg (by simp [hsupply]), rfl⟩

/-- Settles O52: the state after reset holds each block's values after reset. -/
theorem resetStateIsSound : Obligations.ResetStateIsSound := by
  have hreset : State.reset.afterReset .starting (.starting true) .zero = State.reset := rfl
  refine ⟨countersSound_of_zero rfl, by decide, by decide, by decide, ?_, State.baysSound_afterReset rfl rfl rfl,
    State.peersSound_afterReset rfl, by decide, State.airSound_afterReset rfl, ?_⟩
  · exact hreset ▸ State.guidanceSound_afterReset State.reset (.inr rfl) _ _
  · exact hreset ▸ State.stationSound_afterReset State.reset (.inr rfl) rfl _

/-! ### LISTENING ends (R111, R177) -/

/-- Settles O9: the routes evaluated and the images formed in NORMAL. -/
theorem endOfListeningEntersNormal : Obligations.EndOfListeningEntersNormal := by
  intro s hst
  have he : ((s.setStation .normal).setStartup { s.startup with listeningTimer := none }).evaluates true = true := rfl
  refine ⟨_, if_pos hst, by simp, by simp, ?_, State.guidanceTold_rows he rfl, State.guidanceTold_images he,
    by simp [onlyChanges_iff]⟩
  rw [State.guidanceTold_closed]
  rfl

/-! ### Fans that all coast (R43, R49) -/

/-- Nothing runs, nothing is queued, and every fan coasts. -/
structure Ventilation.Coasts (v : Ventilation) : Prop where
  runList : v.runList = []
  startQueue : v.startQueue = []
  stopping : ∀ f ∈ v.fans, f.state = .stopping

theorem Ventilation.Coasts.removeExcess {v : Ventilation} (h : v.Coasts) (c : Settings) (n : Nat) : v.removeExcess c n = v := by
  obtain ⟨hrun, hqueue, -⟩ := h
  obtain ⟨floor, demand, commanded, override, fans, runList, startQueue, dutyPointer, speed, degraded, lost⟩ := v
  subst hrun hqueue
  simp [Ventilation.removeExcess, Ventilation.mapFans_nil, Ventilation.setRunList]

/-- A pass over fans that all coast forms speed and flags and changes nothing else. -/
theorem Ventilation.Coasts.passes {v : Ventilation} (h : v.Coasts) (c : Settings) (i : Inputs) (b : Bool) (k : Nat) :
    v.passes c i b k = v.finishPass c := by
  have hstopped : v.dutyOrder.filter (fun f => decide (f.state = .stopped)) = [] := by
    rw [List.filter_eq_nil_iff]
    intro f hf
    have hmem : f ∈ v.fans := by
      unfold Ventilation.dutyOrder at hf
      split at hf
      · exact hf
      · rcases List.mem_append.mp hf with hf | hf <;> exact List.mem_of_mem_filter hf
    simp [h.stopping f hmem]
  have hadd (n : Nat) : v.addShort n = v := by
    simp [Ventilation.addShort, hstopped, Ventilation.mapFans_nil]
  have hstart : v.startNext c b = v := by
    simp [Ventilation.startNext, h.startQueue]
  have hnone : v.confirmed i b = none := by
    unfold Ventilation.confirmed
    split
    · rfl
    · rw [List.find?_eq_none.mpr fun f hf => by simp [h.stopping f hf]]
      rfl
  cases k with
  | zero => rfl
  | succ k => simp only [Ventilation.passes, h.removeExcess, hadd, hstart, hnone]

theorem Ventilation.Coasts.lost {v : Ventilation} (h : v.Coasts) (c : Settings) : (v.finishPass c).ventLost = false := by
  have hall : ∀ f ∈ v.fans, f.healthy = true := fun f hf => by simp [Fan.healthy, h.stopping f hf]
  exact (Ventilation.finishPass_flags hall c).1

/-- An allocation over fans that all coast changes speed and flags alone and tells nothing. -/
theorem Ventilation.Coasts.allocate {s : State} (h : s.vent.Coasts) (hlost : s.vent.ventLost = false) :
    s.allocate = s.setVent (s.vent.finishPass s.settings) := by
  unfold State.allocate
  rw [h.passes]
  exact if_pos ((h.lost _).trans hlost.symm)

theorem Ventilation.fresh_coasts (c : Settings) : (Ventilation.fresh c).Coasts := by
  refine ⟨rfl, rfl, fun f hf => ?_⟩
  obtain ⟨n, -, rfl⟩ := List.mem_map.mp hf
  rfl

/-! ### Entry to FALLBACK (R178) -/

theorem State.enterFallback_eq (s : State) : s.enterFallback =
    ((((s.setStation .fallback).setSettings .fallback).setStartup { s.startup with readTimer := none }).setGuide
      { s.guide with fallbackTimer := some 5000 }).setVent
        (Ventilation.finishPass { Ventilation.fresh .fallback with commanded := 70 } .fallback) := by
  have hcoasts : Ventilation.Coasts { Ventilation.fresh .fallback with commanded := 70 } :=
    ⟨rfl, rfl, (Ventilation.fresh_coasts .fallback).stopping⟩
  unfold State.enterFallback State.ventilationFallsBack
  exact Ventilation.Coasts.allocate hcoasts rfl

/-- Settles O6: both causes enter FALLBACK, and its fans are given in full. -/
theorem failingOrLateRecordEntersFallback : Obligations.FailingOrLateRecordEntersFallback := by
  intro s record c hc hfails hst
  have hexec : exec c s = .next s.enterFallback := by
    simp only [List.mem_cons, List.not_mem_nil, or_false] at hc
    rcases hc with rfl | rfl
    · exact (if_pos hst).trans (if_neg (by simp [hfails rfl]))
    · exact if_pos hst
  refine ⟨_, hexec, ?_⟩
  rw [State.enterFallback_eq]
  exact ⟨rfl, rfl, rfl, rfl, rfl, rfl, rfl, rfl, rfl, rfl, by simp [onlyChanges_iff]⟩

/-! ### Entry to LISTENING (R176) -/

/-- The fans as LISTENING begins with them: all coasting, D and C at a floor (R49). -/
def Ventilation.begun (c : Settings) (floor : Nat) : Ventilation :=
  Ventilation.finishPass { Ventilation.fresh c with floor := floor, demand := floor, commanded := floor } c

theorem Ventilation.begun_coasts (c : Settings) (floor : Nat) : (Ventilation.begun c floor).Coasts :=
  ⟨rfl, rfl, (Ventilation.fresh_coasts c).stopping⟩

theorem Ventilation.begun_lost (c : Settings) (floor : Nat) : (Ventilation.begun c floor).ventLost = false :=
  Ventilation.Coasts.lost ⟨rfl, rfl, (Ventilation.fresh_coasts c).stopping⟩ c

theorem State.ventilationListens_eq (s : State) :
    s.ventilationListens = s.setVent (Ventilation.begun s.settings s.floorNow) := by
  unfold State.ventilationListens
  exact Ventilation.Coasts.allocate
    (s := s.setVent { Ventilation.fresh s.settings with floor := s.floorNow, demand := s.floorNow, commanded := s.floorNow })
    ⟨rfl, rfl, (Ventilation.fresh_coasts s.settings).stopping⟩ rfl

/-- A STATUS that joins a transmitter at rest on a busy line (R146, R150, R153). -/
theorem State.queueStatus_atRest {s : State} (hq : s.bus.queues = .empty) (ht : s.bus.transmitter = .atRest)
    (hidle : s.bus.idleCount = 0) : s.queueStatus = s.setBus { s.bus with
      queues := { Queues.empty with status := [{ content := .status, attempts := 0 }] }
      spacingTimer := some 1000, owed := false, transmitter := .waitingIdle } := by
  have hpending : s.bus.hasPending .status = false := by simp [BusInterface.hasPending, ht, hq, Queues.get, Queues.empty]
  have hline : idleCountMeansIdle 0 = false := by decide
  simp [State.queueStatus, hpending, State.join, State.frameJoined, BusInterface.lineIdle, ht, hidle, hline, hq,
    Queues.empty, Queues.put, Queues.get]

/-- With nothing heard, nothing passed and no override, D is the floor (R24..R31). -/
theorem State.demandNow_fresh {s : State} (ho : s.vent.override = none) (hindex : s.air.ownIndex = none)
    (hslots : ∀ p ∈ entriesOf s.peers.slots, p.state = .silent) (hring : s.bays.ring = .empty) :
    s.demandNow = s.floorNow := by
  have hnone : s.effectiveIndex = none := by
    rw [State.effectiveIndex, largest_eq_none_iff, hindex, Option.toList_none, List.nil_append, List.filterMap_eq_nil_iff]
    intro slot hslot
    cases slot with
    | none => rfl
    | some p =>
      have hsilent := hslots p (mem_entriesOf.mpr hslot)
      rw [Option.bind_some]
      by_contra hsome
      obtain ⟨x, hx⟩ := Option.ne_none_iff_exists'.mp hsome
      obtain ⟨hfresh, -⟩ := Peer.upstreamIndex_eq_some_iff.mp hx
      rw [hsilent] at hfresh
      cases hfresh
  have htraffic : s.trafficTerm = 0 := by simp [State.trafficTerm, hring, TrafficRing.empty, TrafficRing.total]
  rw [State.demandNow_of_no_override ho, hnone, htraffic]
  simp

end Sys2Proof.Machine
end

section
/-! PROOFS. The first round of the heads and the entry to LISTENING (R2, R49, R176). -/

namespace Sys2Proof.Machine

/-- C at D stays there at an air sample (R32). -/
theorem stepCommanded_self (c : Settings) (d : Nat) : stepCommanded c d d = d := by
  unfold stepCommanded
  (repeat' split) <;> omega

/-- The floor reads level and own index of the Air Monitor alone (R27). -/
theorem State.floorNow_setAir {s : State} {a : AirMonitor} (hlevel : a.level = s.air.level)
    (hindex : a.ownIndex = s.air.ownIndex) : (s.setAir a).floorNow = s.floorNow := by
  rw [State.floorNow, State.floorNow, State.setAir_air, hlevel, hindex]
  rfl

theorem State.floorNow_setVent (s : State) (v : Ventilation) : (s.setVent v).floorNow = s.floorNow := rfl

/-- D reads level and own index of the Air Monitor alone (R31). -/
theorem State.demandNow_setAir {s : State} {a : AirMonitor} (hlevel : a.level = s.air.level)
    (hindex : a.ownIndex = s.air.ownIndex) : (s.setAir a).demandNow = s.demandNow := by
  simp only [State.demandNow, State.effectiveIndex, State.trafficTerm, State.floorNow_setAir hlevel hindex, State.setAir_vent,
    State.setAir_settings, State.setAir_air, State.setAir_peers, State.setAir_bays, hindex]

/-- A recomputation that finds D and C at the floor and every fan coasting changes no more than the formed speed and
flags (R27, R31, R32). -/
theorem State.recompute_coasting {s : State} {f : Nat} (hw : s.working = true)
    (hvent : s.vent = Ventilation.begun s.settings f) (hfloor : s.floorNow = f) (hdemand : s.demandNow = f) :
    s.recompute true = s.setVent (Ventilation.begun s.settings f) := by
  have hself : stepCommanded s.settings f s.vent.commanded = f := by
    rw [hvent]
    exact stepCommanded_self s.settings f
  have hsame : ({ s.vent with floor := f, demand := f, commanded := max f f } : Ventilation) =
      Ventilation.begun s.settings f := by
    rw [hvent, max_self]
    rfl
  unfold State.recompute
  rw [if_pos hw, if_pos rfl, hfloor, hdemand, hself]
  change (s.setVent { s.vent with floor := f, demand := f, commanded := max f f }).allocate = _
  rw [hsame]
  exact Ventilation.Coasts.allocate (s := s.setVent (Ventilation.begun s.settings f))
    (Ventilation.begun_coasts s.settings f) (Ventilation.begun_lost s.settings f)

/-- With no head the sample finds no index and leaves an alarm level CLEAR (R2, R12, R15). -/
theorem State.roundEnds_headless {s : State} {f : Nat} (hw : s.working = true) (hheads : s.air.heads = [])
    (hlevel : s.air.level = .clear) (hhold : s.air.holdTimer = none) (hindex : s.air.ownIndex = none)
    (hvent : s.vent = Ventilation.begun s.settings f) (hfloor : s.floorNow = f) (hdemand : s.demandNow = f) :
    s.roundEnds = (s.setAir { s.air with sampled := [], expiring := false }).setVent (Ventilation.begun s.settings f) := by
  have hnow : s.air.indexNow = none := by
    rw [AirMonitor.indexNow, hheads]
    rfl
  have hexpires : s.sampleExpiresHold = false := by simp [State.sampleExpiresHold, hhold]
  have hair : ({ s.air with sampled := [], ownIndex := none, level := .clear, holdTimer := none, expiring := false } :
      AirMonitor) = { s.air with sampled := [], expiring := false } := by
    simp only [hlevel, hhold, hindex]
  have hfloor' : (s.setAir { s.air with sampled := [], expiring := false }).floorNow = f :=
    (State.floorNow_setAir rfl rfl).trans hfloor
  have hdemand' : (s.setAir { s.air with sampled := [], expiring := false }).demandNow = f :=
    (State.demandNow_setAir rfl rfl).trans hdemand
  have hsample : s.airSample = s.airSettled { s.air with sampled := [], expiring := false } := by
    unfold State.airSample
    rw [hnow, hlevel, hheads, List.map_nil]
    exact congrArg s.airSettled hair
  unfold State.roundEnds
  rw [hexpires, Bool.false_and, if_neg Bool.false_ne_true, hsample]
  exact (if_pos rfl).trans (State.recompute_coasting (s := s.setAir { s.air with sampled := [], expiring := false })
    hw hvent hfloor' hdemand')

/-- The Air Monitor of LISTENING once its first round has begun: the lowest head polled (R2, R22). -/
def AirMonitor.begun (c : Settings) : AirMonitor :=
  { AirMonitor.fresh c with
    roundTimer := some 1000
    poll := (c.heads.map HeadSettings.number).head?.map (fun n => { head := n, window := 100 }) }

theorem State.afterPoll_of_some {s : State} {n : Nat} {h : Head} (hnext : s.air.headAfter n = some h) :
    s.afterPoll n = s.pollHead h.settings.number := by
  simp [State.afterPoll, hnext]

theorem State.afterPoll_of_none {s : State} {n : Nat} (hnext : s.air.headAfter n = none) :
    s.afterPoll n = (s.setAir { s.air with poll := none }).roundEnds := by
  simp [State.afterPoll, hnext]

/-- The first round over fresh heads: the lowest head is polled, or the one sample of a station with none changes
nothing (R2, R12, R15). -/
theorem State.startRound_fresh {s : State} {c : Settings} {f : Nat} (hw : s.working = true) (hc : s.settings = c)
    (hair : s.air = AirMonitor.fresh c) (hnumbers : ∀ h ∈ c.heads, 1 ≤ h.number)
    (hvent : s.vent = Ventilation.begun c f) (hfloor : s.floorNow = f) (hdemand : s.demandNow = f) :
    s.startRound = (s.setAir (AirMonitor.begun c)).setVent (Ventilation.begun c f) := by
  subst hc
  have hstart : s.startRound =
      (s.setAir { AirMonitor.fresh s.settings with roundTimer := some 1000, poll := none }).afterPoll 0 := by
    unfold State.startRound
    rw [hair]
    exact if_neg Bool.false_ne_true
  rw [hstart]
  cases hheads : s.settings.heads with
  | nil =>
    have hlist : (AirMonitor.fresh s.settings).heads = [] := by simp [AirMonitor.fresh, hheads]
    have hbegun : AirMonitor.begun s.settings = { AirMonitor.fresh s.settings with
        sampled := [], roundTimer := some 1000, poll := none, expiring := false } := by
      simp [AirMonitor.begun, hheads, AirMonitor.fresh, AirMonitor.afterReset]
    rw [State.afterPoll_of_none (by simp [AirMonitor.headAfter, hlist]), hbegun]
    refine State.roundEnds_headless
      (s := s.setAir { AirMonitor.fresh s.settings with roundTimer := some 1000, poll := none })
      hw hlist rfl rfl rfl hvent ?_ ?_
    · exact (State.floorNow_setAir (by rw [hair]) (by rw [hair])).trans hfloor
    · exact (State.demandNow_setAir (by rw [hair]) (by rw [hair])).trans hdemand
  | cons h rest =>
    have hfirst : 0 < h.number := hnumbers h (hheads ▸ List.mem_cons_self)
    have hbegun : AirMonitor.begun s.settings = { AirMonitor.fresh s.settings with
        roundTimer := some 1000, poll := some { head := h.number, window := 100 } } := by
      simp [AirMonitor.begun, hheads]
    rw [State.afterPoll_of_some (h := Head.fresh h) (by simp [AirMonitor.headAfter, AirMonitor.fresh, hheads, Head.fresh, hfirst]),
      hbegun, ← hvent]
    rfl

/-! ### The blocks as LISTENING begins with them (R176) -/

section
variable (s : State) (image : List Byte) (c : Settings) (k : Nat)

/-- What stands when the first STATUS has been queued and no round has begun. -/
def State.listens (s : State) (image : List Byte) (c : Settings) (k : Nat) : State :=
  ((s.listeningBegins image c k).listeningBlocks c).queueStatus

theorem State.listens_air : (s.listens image c k).air = AirMonitor.fresh c := by
  simp [State.listens, State.listeningBlocks, State.listeningBegins]

theorem State.listens_vent : (s.listens image c k).vent = Ventilation.begun c (s.listeningBegins image c k).floorNow := by
  rw [State.listens, State.queueStatus_vent, State.listeningBlocks_vent, State.ventilationListens_eq, State.setVent_vent,
    State.listeningBegins_settings]

theorem State.listens_station : (s.listens image c k).station = .listening := by
  simp [State.listens, State.listeningBlocks, State.listeningBegins]

theorem State.listens_settings : (s.listens image c k).settings = c := by
  simp [State.listens, State.listeningBlocks, State.listeningBegins]

theorem State.listens_peers : (s.listens image c k).peers =
    { slots := c.statics.map (fun x => some (Peer.ofStatic x)) ++ List.replicate (16 - c.statics.length) none
      sweepTimer := some (seconds c.sweepInterval), sympathy := false } := by
  simp [State.listens, State.listeningBlocks, State.listeningBegins, State.peersListen]

theorem State.listens_guide : (s.listens image c k).guide = { s.guide with signs := c.signs.map Sign.fresh } := by
  have hblank (u : State) (hu : u.station ≠ .normal) (g : SignSettings) : (Sign.fresh g).show (u.signImage g) = Sign.fresh g := by
    rw [State.signImage_of_ne_normal hu]
    exact if_pos rfl
  have hkept (g : SignSettings) : (Sign.fresh g).settings = g := rfl
  simp only [State.listens, State.queueStatus_guide, State.listeningBlocks, State.setBus_guide, State.lightingListens_guide,
    State.formImages, State.setGuide_guide, List.map_map, Function.comp_def, hkept]
  rw [List.map_congr_left fun g _ => hblank _ (by simp [State.listeningBegins]) g]
  simp [State.ventilationListens_eq, State.listeningBegins]

theorem State.listens_light : (s.listens image c k).light =
    { channels := c.channels.zipIdx.map (fun p =>
        if s.inputs.purge.filtered then Channel.heldAt100 (p.2 + 1) p.1 else (Channel.heldAt100 (p.2 + 1) p.1).activate)
      forcing := s.inputs.purge.filtered, motionSets := c.motion, repeatTimers := List.replicate 4 none } := by
  have hforcing (u : State) (hair : u.air.level = .clear) : u.forcingHolds = u.inputs.purge.filtered := by
    simp [State.forcingHolds, hair]
  simp only [State.listens, State.queueStatus_light, State.listeningBlocks, State.setBus_light, State.lightingListens]
  rw [hforcing _ (by simp [State.listeningBegins, AirMonitor.fresh, AirMonitor.afterReset])]
  simp [State.listeningBegins]

theorem State.listens_bus (hbus : s.bus = .afterReset) : (s.listens image c k).bus = { BusInterface.afterReset with
    queues := { Queues.empty with status := [{ content := .status, attempts := 0 }] }
    jitter := c.ownAddress % 16, periodTimer := some (seconds c.statusPeriod), spacingTimer := some 1000
    transmitter := .waitingIdle } := by
  have hat : ((s.listeningBegins image c k).listeningBlocks c).bus = { BusInterface.afterReset with
      jitter := c.ownAddress % 16, periodTimer := some (seconds c.statusPeriod) } := by
    simp [State.listeningBlocks, State.ventilationListens_eq, State.listeningBegins, hbus]
  rw [State.listens, State.queueStatus_atRest (by rw [hat]; rfl) (by rw [hat]; rfl) (by rw [hat]; rfl), State.setBus_bus, hat]
  rfl

theorem State.listens_bays : (s.listens image c k).bays =
    { BayMonitor.fresh c with reading := (BayMonitor.fresh c).nextRead 0 } := by
  simp [State.listens, State.listeningBlocks, State.baysListen_bays, State.listeningBegins]

theorem State.listens_floorNow : (s.listens image c k).floorNow = (s.listeningBegins image c k).floorNow :=
  State.floorNow_congr (by simp [State.listens_settings, State.listeningBegins_settings])
    (by simp [State.listens_air, State.listeningBegins])
    (by simp [State.listens_peers, State.listeningBegins, State.peersListen])
    (by simp [State.listens, State.listeningBlocks])

/-- The first round of the heads, begun over the blocks as LISTENING finds them (R2, R176). -/
theorem State.enterListening_begun (h : c.AirLegal) : s.enterListening image c k =
    ((s.listens image c k).setAir (AirMonitor.begun c)).setVent
      (Ventilation.begun c (s.listeningBegins image c k).floorNow) := by
  obtain ⟨-, -, -, -, -, -, -, -, -, -, -, -, -, hheads, -⟩ := h
  have hfloor := s.listens_floorNow image c k
  have hsilent : ∀ p ∈ entriesOf (s.listens image c k).peers.slots, p.state = .silent := by
    intro p hp
    rw [State.listens_peers, mem_entriesOf, List.mem_append, List.mem_map] at hp
    rcases hp with ⟨x, -, hx⟩ | hp
    · rw [← Option.some.inj hx]
      rfl
    · cases (List.mem_replicate.mp hp).2
  have hdemand : (s.listens image c k).demandNow = (s.listens image c k).floorNow := by
    refine State.demandNow_fresh ?_ ?_ hsilent ?_
    · rw [State.listens_vent]
      rfl
    · rw [State.listens_air]
      rfl
    · rw [State.listens_bays]
      rfl
  rw [State.enterListening_eq]
  exact State.startRound_fresh ((s.listens image c k).working_iff.mpr (.inl (s.listens_station image c k))) (s.listens_settings image c k)
    (s.listens_air image c k) (fun x hx => (hheads x hx).1) (s.listens_vent image c k) hfloor (hdemand.trans hfloor)

end

theorem seconds_eq (n : Nat) : seconds n = 1000 * n := Nat.mul_comm n 1000

/-- The first bay in service is the first read: bay numbers begin at 1 (R51). -/
theorem BayMonitor.fresh_nextRead {c : Settings} (h : ∀ b ∈ c.bays, 1 ≤ b.number) : (BayMonitor.fresh c).nextRead 0 =
    ((c.bays.map Bay.fresh).find? (fun b => decide (b.state ≠ .outOfService))).map
      (fun b => { bay := b.settings.number, window := 4, discarded := false }) := by
  unfold BayMonitor.nextRead
  congr 1
  refine List.find?_congr fun b hb => ?_
  obtain ⟨x, hx, rfl⟩ := List.mem_map.mp hb
  have hpos : 0 < (Bay.fresh x).settings.number := h x hx
  simp [hpos]

/-- Settles O5: block by block, what LISTENING begins with and the first round leaves. -/
theorem passingRecordEntersListening : Obligations.PassingRecordEntersListening := by
  intro s record hst hrests hpasses
  obtain ⟨-, -, hguide, -, hbus⟩ := hrests (.inr hst)
  have hlegal := settingsOfRecord_airLegal hpasses
  obtain ⟨-, -, -, -, hnumbers, -⟩ := settingsOfRecord_zoneLegal (record.take 260)
  have hexec : exec (.settingsReadComplete record) s = .next (s.enterListening (record.take 260)
      (settingsOfRecord (record.take 260)).value (settingsOfRecord (record.take 260)).corrections) :=
    (if_pos hst).trans (if_pos hpasses)
  refine ⟨_, hexec, ?_⟩
  generalize (settingsOfRecord (record.take 260)).value = c at *
  generalize (settingsOfRecord (record.take 260)).corrections = k at *
  generalize record.take 260 = image at *
  rw [State.enterListening_begun s image c k hlegal]
  have hlevel : (AirMonitor.begun c).level = (s.listens image c k).air.level := by rw [State.listens_air]; rfl
  have hindex : (AirMonitor.begun c).ownIndex = (s.listens image c k).air.ownIndex := by rw [State.listens_air]; rfl
  have hfloor : (((s.listens image c k).setAir (AirMonitor.begun c)).setVent
      (Ventilation.begun c (s.listeningBegins image c k).floorNow)).floorNow = (s.listeningBegins image c k).floorNow := by
    rw [State.floorNow_setVent, State.floorNow_setAir hlevel hindex, State.listens_floorNow]
  simp only [hfloor, State.setVent_station, State.setVent_settings, State.setVent_startup, State.setVent_counters,
    State.setVent_pending, State.setVent_air, State.setVent_vent, State.setVent_bays, State.setVent_peers,
    State.setVent_guide, State.setVent_light, State.setVent_bus, State.setAir_station, State.setAir_settings,
    State.setAir_startup, State.setAir_counters, State.setAir_pending, State.setAir_air, State.setAir_bays,
    State.setAir_peers, State.setAir_guide, State.setAir_light, State.setAir_bus, State.listens_station,
    State.listens_settings, State.listens_peers, State.listens_bays, State.listens_guide, State.listens_light,
    State.listens_bus s image c k hbus]
  refine ⟨⟨trivial, trivial, ?_, ?_, ?_⟩, ⟨?_, ?_, ?_, rfl, rfl, rfl, rfl, rfl, rfl⟩,
    ⟨Ventilation.fresh_numbers c, ?_, rfl, rfl, rfl, rfl, rfl, rfl⟩, ⟨rfl, rfl, ?_, ?_, ?_, rfl, rfl⟩,
    ⟨trivial, congrArg some (seconds_eq _), trivial⟩, ⟨?_, ?_, ?_, ?_⟩, ⟨?_, trivial, ?_⟩,
    trivial, congrArg some (seconds_eq _), trivial, trivial, trivial⟩
  · simp [State.listens, State.listeningBlocks, State.listeningBegins, seconds_eq, ← mul_assoc]
  · simp [State.listens, State.listeningBlocks, State.listeningBegins]
  · simp [State.listens, State.listeningBlocks, State.listeningBegins]
  · exact List.map_map.trans (List.map_id _)
  · intro x hx
    obtain ⟨y, -, rfl⟩ := List.mem_map.mp hx
    exact ⟨rfl, rfl, rfl, rfl⟩
  · rfl
  · intro x hx
    obtain ⟨y, -, rfl⟩ := List.mem_map.mp hx
    exact ⟨rfl, congrArg some (seconds_eq _)⟩
  · exact BayMonitor.fresh_nextRead fun b hb => (hnumbers b hb).1
  · exact List.map_map.trans (List.map_id _)
  · intro x hx
    obtain ⟨y, -, rfl⟩ := List.mem_map.mp hx
    exact ⟨rfl, rfl⟩
  · exact List.map_map.trans (List.map_id _)
  · intro x hx
    obtain ⟨y, -, rfl⟩ := List.mem_map.mp hx
    exact ⟨rfl, rfl, rfl⟩
  · rw [hguide]
    rfl
  · rw [hguide]
  · rw [List.map_map]
    refine (List.map_congr_left (g := Prod.fst) fun p _ => ?_).trans (List.zipIdx_map_fst 0 c.channels)
    rw [Function.comp_apply]
    split <;> rfl
  · intro x hx
    obtain ⟨y, -, rfl⟩ := List.mem_map.mp hx
    split
    · exact ⟨rfl, rfl⟩
    · exact ⟨rfl, rfl, congrArg some (seconds_eq _)⟩

end Sys2Proof.Machine
end

section
/-! PROOFS. Scans and answers of the bays, reservations and service (R51..R60). -/

namespace Sys2Proof.Machine

/-! ### The debounce of one bay (R52..R55) -/

theorem saturatingSucc_eq {top n : Nat} (h : n ≤ top) : saturatingSucc top n = min top (n + 1) := by
  unfold saturatingSucc
  split <;> omega

theorem Bay.reservation_eq_none {b : Bay} (h : b.Legal) (hs : b.state ≠ .reserved) : b.reservation = none := by
  by_contra hne
  exact hs (h.1.mp hne)

theorem Bay.answer_outOfService (c : Settings) (a : BayAnswer) {b : Bay} (hs : b.state = .outOfService) :
    b.answer c a = b := if_pos hs

theorem Bay.answer_fault (c : Settings) {b : Bay} (h : b.Legal) (hs : b.state ≠ .outOfService) :
    b.answer c .fault = { b with
      onCount := 0, offCount := 0, faultCount := min 3 (b.faultCount + 1)
      state := if 3 ≤ b.faultCount + 1 then .fault else b.state
      reservation := if 3 ≤ b.faultCount + 1 then none else b.reservation } := by
  have hcount : min 3 (b.faultCount + 1) = 3 ↔ 3 ≤ b.faultCount + 1 := by omega
  simp only [Bay.answer, if_neg hs, Bay.answerFault, saturatingSucc_eq h.2.2.2, hcount]
  by_cases hthird : 3 ≤ b.faultCount + 1
  · by_cases hfault : b.state = .fault
    · have hnone := b.reservation_eq_none h (by simp [hfault])
      simp [hthird, hfault, hnone]
    · simp [hthird, hfault, hs, Bay.enter]
  · simp [hthird]

/-- A proper answer of a bay in FAULT is the answer of a fresh UNKNOWN one (R53). -/
theorem Bay.answer_of_fault (c : Settings) (a : BayAnswer) {b : Bay} (h : b.Legal) (hs : b.state = .fault) :
    b.answer c a = if a = .fault then b.answer c .fault else
      ({ b with state := .unknown, onCount := 0, offCount := 0, faultCount := 0 } : Bay).answer c a := by
  have hnone := b.reservation_eq_none h (by simp [hs])
  have hanswered : b.answered =
      ({ b with state := .unknown, onCount := 0, offCount := 0, faultCount := 0 } : Bay).answered := by
    simp [Bay.answered, hs, Bay.enter, hnone]
  cases a with
  | fault => rfl
  | present => simp [Bay.answer, hs, Bay.answerPresent, hanswered]
  | absent => simp [Bay.answer, hs, Bay.answerAbsent, hanswered]

theorem Bay.answer_present (c : Settings) {b : Bay} (h : b.Legal) (hout : b.state ≠ .outOfService) (hs : b.state ≠ .fault) :
    b.answer c .present = { b with
      offCount := 0, onCount := min 16 (b.onCount + 1), faultCount := 0
      state := if c.nOn ≤ min 16 (b.onCount + 1) then .occupied else b.state
      reservation := if c.nOn ≤ min 16 (b.onCount + 1) then none else b.reservation } := by
  simp only [Bay.answer, if_neg hout, Bay.answerPresent, Bay.answered, if_neg hs, saturatingSucc_eq h.2.1]
  by_cases hmet : c.nOn ≤ min 16 (b.onCount + 1)
  · cases hb : b.state with
    | occupied => simp [hmet, b.reservation_eq_none h (by simp [hb])]
    | fault => exact absurd hb hs
    | outOfService => exact absurd hb hout
    | unknown => simp [hmet, Bay.enter]
    | free => simp [hmet, Bay.enter]
    | reserved => simp [hmet, Bay.enter]
  · simp [hmet]

theorem Bay.answer_absent (c : Settings) {b : Bay} (h : b.Legal) (hout : b.state ≠ .outOfService) (hs : b.state ≠ .fault) :
    b.answer c .absent = { b with
      onCount := 0, offCount := min 16 (b.offCount + 1), faultCount := 0
      state := if c.nOff ≤ min 16 (b.offCount + 1) ∧ b.state ≠ .reserved then .free else b.state } := by
  simp only [Bay.answer, if_neg hout, Bay.answerAbsent, Bay.answered, if_neg hs, saturatingSucc_eq h.2.2.1]
  by_cases hmet : c.nOff ≤ min 16 (b.offCount + 1)
  · cases hb : b.state with
    | occupied => simp [hmet, Bay.enter, b.reservation_eq_none h (by simp [hb])]
    | fault => exact absurd hb hs
    | outOfService => exact absurd hb hout
    | unknown => simp [hmet, Bay.enter, b.reservation_eq_none h (by simp [hb])]
    | free => simp [hmet]
    | reserved => simp [hmet]
  · simp [hmet]

/-! ### The bay a number names -/

/-- Changing the bay of a number changes the one record found (R50). -/
theorem BayMonitor.mapBay_eq {m : BayMonitor} {n : Nat} {b : Bay} (hasc : Ascending (m.bays.map (fun x => x.settings.number)))
    (hb : m.bay? n = some b) (f : Bay → Bay) :
    m.mapBay n f = { m with bays := m.bays.map (fun x => if x.settings.number = n then f b else x) } := by
  have hsame : m.bays.map (fun x => if x.settings.number = n then f x else x) =
      m.bays.map (fun x => if x.settings.number = n then f b else x) := by
    refine List.map_congr_left fun x hx => ?_
    split
    · rw [eq_of_find?_of_nodup (key := fun x : Bay => x.settings.number) hasc.nodup hb hx ‹_›]
    · rfl
  rw [BayMonitor.mapBay, hsame]

theorem Channel.presence_eq_raised (c : Channel) : c.presence = c.raised := by
  cases h : c.state <;> simp [Channel.presence, Channel.raised, Channel.activate, h, seconds_eq]

theorem presenceChange_iff (old new : BayState) : presenceChange old new = true ↔
    (old, new) ∈ [(BayState.free, BayState.occupied), (.occupied, .free)] := by
  simp [presenceChange]

/-- An answer acted on hands a presence event to its bay's channel when the bay changes between FREE and OCCUPIED
(R56). -/
theorem State.bayAnswered_channels {s : State} {n : Nat} {b : Bay} (hb : s.bays.bay? n = some b) (a : BayAnswer) :
    (s.bayAnswered n a).light.channels = s.light.channels.map (fun c =>
      if c.number = b.settings.channel ∧
          (b.state, (b.answer s.settings a).state) ∈ [(BayState.free, BayState.occupied), (.occupied, .free)]
      then c.raised else c) := by
  unfold State.bayAnswered
  rw [hb]
  dsimp only
  split
  · have hmem := (presenceChange_iff _ _).mp ‹_›
    simp only [hmem, and_true]
    simp [State.presenceAt, Lighting.mapChannel, Channel.presence_eq_raised]
  · have hmem := mt (presenceChange_iff _ _).mpr ‹_›
    simp only [hmem, and_false]
    simp

/-! ### Scans -/

/-- Settles O26: the scan, the two ways a read ends, and the debounce. -/
theorem bayAnswersDebounce : Obligations.BayAnswersDebounce := by
  intro s r b a other hw
  refine ⟨?_, ?_, fun _ => Bay.answer_outOfService s.settings a, fun hlegal hout => ?_⟩
  · refine ⟨_, if_pos hw, ?_, by simp [onlyChanges_iff]⟩
    exact State.readAfter_bays (s.setBays { s.bays with scanTimer := some 500 }) 0
  · intro hr hb hsound q hq
    have hexec : exec q.1 s = .next (s.endRead r q.2) := by
      simp only [List.mem_cons, List.not_mem_nil, or_false] at hq
      rcases hq with rfl | rfl
      · simp [exec, execBayAnswer, hw, hr, eq_comm]
      · simp [exec, execBayReadNoAnswer, hw, hr]
    refine ⟨fun hdis => ⟨_, hexec, ?_⟩, fun hdis => ⟨_, hexec, ?_⟩⟩
    · rw [State.endRead_discarded s hdis]
      exact ⟨s.readAfter_bays r.bay, by simp [onlyChanges_iff]⟩
    · rw [State.endRead_answered s hdis]
      obtain ⟨-, hasc, -⟩ := hsound
      refine ⟨?_, ?_, by simp [onlyChanges_iff]⟩
      · rw [State.readAfter_bays, State.bayAnswered_bays, BayMonitor.mapBay_eq hasc hb]
        rfl
      · rw [State.readAfter_light]
        exact State.bayAnswered_channels hb _
  · exact ⟨Bay.answer_fault s.settings hlegal hout, Bay.answer_of_fault s.settings a hlegal, fun hfault =>
      ⟨Bay.answer_present s.settings hlegal hout hfault, Bay.answer_absent s.settings hlegal hout hfault⟩⟩

/-! ### Reservations and service (R57..R60) -/

/-- A granted command that changes one bay and is DONE: the bay, its REPORT, and nothing in another block but what the
Guidance Unit is told (R57..R59). -/
theorem State.Granted.changesBay {s u : State} {source destination code : Byte} {args : List Byte}
    (h : s.Granted source destination) (hargs : args.length ≤ 47) (hcode : code ≠ restartCode) {n : Nat} {f : Bay → Bay}
    (hu : u = s.frameAccepted.setBays u.bays)
    (he : executeCommand code args s.frameAccepted = .did (u.changeBay n f)) :
    ∃ t, s.commandFrame source destination code args = t ∧ t.bays = u.bays.mapBay n f ∧
      t.bus.queues.report = s.reportsWith source code 0#8 [] ∧ t.counters = s.countersAccepted ∧
      OnlyChanges [.bays, .guide, .bus, .counters] s t := by
  have hqueue : (u.changeBay n f).bus.queues.report = s.bus.queues.report := by
    refine (reportQueue_tellKeeps s.bus.queues.report).changeBay u n f ?_
    rw [hu]
    rfl
  refine ⟨_, h.did hargs hcode he, by simp, State.reporting_report hqueue .., ?_, ?_⟩
  · rw [State.reporting_counters, State.changeBay_counters, hu]
    rfl
  · rw [hu]
    simp [onlyChanges_iff]

/-- A granted command that is refused in the bay's state: a REPORT of REFUSED_STATE and no more (R58, R59). -/
theorem State.Granted.refusesBay {s : State} {source destination code : Byte} {args : List Byte}
    (h : s.Granted source destination) (hargs : args.length ≤ 47)
    (he : executeCommand code args s.frameAccepted = .refuse s.frameAccepted .refusedState) :
    ∃ t, s.commandFrame source destination code args = t ∧ t.bus.queues.report = s.reportsWith source code 1#8 [] ∧
      t.counters = s.countersAccepted ∧ OnlyChanges [.bus, .counters] s t :=
  ⟨_, h.refused hargs (by decide) he, State.reporting_report rfl .., by simp, s.refused_only _ _ _ _⟩

theorem OnlyChanges.mono {p q : List Block} {s t : State} (h : OnlyChanges p s t) (hpq : ∀ b ∈ p, b ∈ q) :
    OnlyChanges q s t := fun b hb hq => h b hb fun hp => hq (hpq b hp)

section
variable {s : State} {source destination bay m : Byte} {b : Bay}

theorem State.Granted.reserveBay (h : s.Granted source destination) (hb : s.bays.bay? bay.toNat = some b)
    (hasc : Ascending (s.bays.bays.map (fun x => x.settings.number))) (hm : m.toNat ≤ 240) :
    Answers (exec (.reserveBay source destination [bay, m]) s) (fun t =>
      (b.state = .free ∨ b.state = .reserved →
        t.bays = { s.bays with bays := s.bays.bays.map (fun x => if x.settings.number = bay.toNat then
          { b with state := .reserved
                   reservation := some (if m = 0#8 then .untilEnded else .remaining (60000 * m.toNat)) } else x) } ∧
        t.bus.queues.report = s.reportsWith source 0x20#8 0#8 []) ∧
      (b.state ≠ .free → b.state ≠ .reserved → OnlyChanges [.bus, .counters] s t ∧
        t.bus.queues.report = s.reportsWith source 0x20#8 1#8 []) ∧
      t.counters = s.countersAccepted ∧ OnlyChanges [.bays, .guide, .bus, .counters] s t) := by
  by_cases hs : b.state = .free ∨ b.state = .reserved
  · have he : executeCommand 0x20#8 [bay, m] s.frameAccepted = .did (s.frameAccepted.changeBay bay.toNat
        (fun x => { x with state := .reserved, reservation := some (limitOfMinutes m.toNat) })) := by
      change Machine.reserveBay [bay, m] s.frameAccepted = _
      simp [Machine.reserveBay, hb, hs, Nat.not_lt.mpr hm]
    obtain ⟨t, ht, hbays, hreport, hcounters, honly⟩ := h.changesBay (by simp) (by decide) rfl he
    refine ⟨t, congrArg Host.Outcome.next ht, fun _ => ⟨?_, hreport⟩, fun hfree hres => absurd hs (by simp [hfree, hres]),
      hcounters, honly⟩
    rw [hbays, ← limitOfMinutes_byte]
    exact BayMonitor.mapBay_eq hasc hb _
  · have he : executeCommand 0x20#8 [bay, m] s.frameAccepted = .refuse s.frameAccepted .refusedState := by
      change Machine.reserveBay [bay, m] s.frameAccepted = _
      simp [Machine.reserveBay, hb, hs, Nat.not_lt.mpr hm]
    obtain ⟨t, ht, hreport, hcounters, honly⟩ := h.refusesBay (by simp) he
    exact ⟨t, congrArg Host.Outcome.next ht, fun hin => absurd hin hs, fun _ _ => ⟨honly, hreport⟩, hcounters,
      OnlyChanges.mono honly (by simp)⟩

theorem State.Granted.releaseBay (h : s.Granted source destination) (hb : s.bays.bay? bay.toNat = some b)
    (hasc : Ascending (s.bays.bays.map (fun x => x.settings.number))) :
    Answers (exec (.releaseBay source destination [bay]) s) (fun t =>
      (b.state = .reserved →
        t.bays = { s.bays with bays := s.bays.bays.map (fun x => if x.settings.number = bay.toNat then
          { b with state := .free, reservation := none } else x) } ∧
        t.bus.queues.report = s.reportsWith source 0x21#8 0#8 []) ∧
      (b.state ≠ .reserved → OnlyChanges [.bus, .counters] s t ∧
        t.bus.queues.report = s.reportsWith source 0x21#8 1#8 []) ∧
      t.counters = s.countersAccepted ∧ OnlyChanges [.bays, .guide, .bus, .counters] s t) := by
  by_cases hs : b.state = .reserved
  · have he : executeCommand 0x21#8 [bay] s.frameAccepted =
        .did (s.frameAccepted.changeBay bay.toNat (fun x => x.enter .free)) := by
      change Machine.releaseBay [bay] s.frameAccepted = _
      simp [Machine.releaseBay, hb, hs]
    obtain ⟨t, ht, hbays, hreport, hcounters, honly⟩ := h.changesBay (by simp) (by decide) rfl he
    exact ⟨t, congrArg Host.Outcome.next ht, fun _ => ⟨hbays.trans (BayMonitor.mapBay_eq hasc hb _), hreport⟩,
      fun hne => absurd hs hne, hcounters, honly⟩
  · have he : executeCommand 0x21#8 [bay] s.frameAccepted = .refuse s.frameAccepted .refusedState := by
      change Machine.releaseBay [bay] s.frameAccepted = _
      simp [Machine.releaseBay, hb, hs]
    obtain ⟨t, ht, hreport, hcounters, honly⟩ := h.refusesBay (by simp) he
    exact ⟨t, congrArg Host.Outcome.next ht, fun hin => absurd hin hs, fun _ => ⟨honly, hreport⟩, hcounters,
      OnlyChanges.mono honly (by simp)⟩

theorem State.Granted.bayOut (h : s.Granted source destination) (hb : s.bays.bay? bay.toNat = some b)
    (hasc : Ascending (s.bays.bays.map (fun x => x.settings.number))) :
    Answers (exec (.setBayService source destination [bay, 0#8]) s) (fun t =>
      t.bays = { s.bays with
        bays := s.bays.bays.map (fun x => if x.settings.number = bay.toNat then
          { b with state := .outOfService, onCount := 0, offCount := 0, faultCount := 0, reservation := none }
          else x)
        reading := s.bays.reading.map (fun r =>
          { r with discarded := r.discarded || decide (r.bay = bay.toNat) }) } ∧
      t.bus.queues.report = s.reportsWith source 0x22#8 0#8 [] ∧ t.counters = s.countersAccepted ∧
      OnlyChanges [.bays, .guide, .bus, .counters] s t) := by
  have he : executeCommand 0x22#8 [bay, 0#8] s.frameAccepted =
      .did ((s.frameAccepted.setBays (s.bays.discardRead bay.toNat)).changeBay bay.toNat Bay.goOut) := by
    change setBayService [bay, 0#8] s.frameAccepted = _
    simp [setBayService, hb, State.bayGoesOut]
  obtain ⟨t, ht, hbays, hreport, hcounters, honly⟩ := h.changesBay (by simp) (by decide) rfl he
  refine ⟨t, congrArg Host.Outcome.next ht, ?_, hreport, hcounters, honly⟩
  rw [hbays, State.setBays_bays, BayMonitor.mapBay_eq (m := s.bays.discardRead bay.toNat) hasc hb]
  have hread : (s.bays.discardRead bay.toNat).reading = s.bays.reading.map (fun r =>
      { r with discarded := r.discarded || decide (r.bay = bay.toNat) }) := by
    refine congrArg (fun f => Option.map f s.bays.reading) (funext fun r => ?_)
    split
    · simp [*]
    · simp [*]
  rw [hread]
  rfl

theorem State.Granted.bayIn (h : s.Granted source destination) (hb : s.bays.bay? bay.toNat = some b)
    (hasc : Ascending (s.bays.bays.map (fun x => x.settings.number))) (hlegal : b.Legal) :
    Answers (exec (.setBayService source destination [bay, 1#8]) s) (fun t =>
      t.bays = { s.bays with bays := s.bays.bays.map (fun x =>
        if x.settings.number = bay.toNat ∧ b.state = .outOfService then
          { b with state := .unknown, onCount := 0, offCount := 0, faultCount := 0 }
        else x) } ∧
      t.bus.queues.report = s.reportsWith source 0x22#8 0#8 [] ∧ t.counters = s.countersAccepted ∧
      OnlyChanges [.bays, .guide, .bus, .counters] s t) := by
  have he : executeCommand 0x22#8 [bay, 1#8] s.frameAccepted = .did (s.frameAccepted.changeBay bay.toNat Bay.comeIn) := by
    change setBayService [bay, 1#8] s.frameAccepted = _
    simp [setBayService, hb]
  obtain ⟨t, ht, hbays, hreport, hcounters, honly⟩ := h.changesBay (by simp) (by decide) rfl he
  refine ⟨t, congrArg Host.Outcome.next ht, ?_, hreport, hcounters, honly⟩
  rw [hbays]
  by_cases hs : b.state = .outOfService
  · have hin : b.comeIn = { b with state := .unknown, onCount := 0, offCount := 0, faultCount := 0 } := by
      simp [Bay.comeIn, hs, Bay.enter, b.reservation_eq_none hlegal]
    simp only [hs, and_true]
    exact hin ▸ BayMonitor.mapBay_eq hasc hb _
  · have hin : b.comeIn = id b := if_neg hs
    have hsame : s.bays.mapBay bay.toNat id = s.bays := by simp [BayMonitor.mapBay]
    simp only [hs, and_false, if_false, List.map_id']
    refine (BayMonitor.mapBay_eq hasc hb Bay.comeIn).trans (Eq.trans ?_ hsame)
    rw [hin, BayMonitor.mapBay_eq hasc hb id]

end

/-- Settles O27: each command by the bay's state, and the expiry of a reservation. -/
theorem reservationsAndServiceOfABay : Obligations.ReservationsAndServiceOfABay := by
  intro s source destination bay m b hb hsound
  obtain ⟨hlegal, hasc, -⟩ := hsound
  obtain ⟨hmem, -⟩ := find?_key (key := fun x : Bay => x.settings.number) hb
  refine ⟨fun hg hm => (State.grants_iff.mp hg).reserveBay hb hasc hm, fun hg => (State.grants_iff.mp hg).releaseBay hb hasc,
    fun hg => (State.grants_iff.mp hg).bayOut hb hasc, fun hg => (State.grants_iff.mp hg).bayIn hb hasc (hlegal b hmem),
    fun hw hs hr => ?_, fun hr => ?_⟩
  · obtain ⟨l, hl, hruns⟩ := (Option.any_eq_true _ _).mp hr
    cases l with
    | untilEnded => cases hruns
    | remaining k =>
      refine ⟨s.changeBay bay.toNat (fun x => x.enter .free), ?_, ?_, by simp [onlyChanges_iff]⟩
      · simp [exec, execReservationExpiry, hw, hb, hs, hl]
      · rw [State.changeBay_bays]
        exact BayMonitor.mapBay_eq hasc hb _
  · refine ⟨s, ?_, rfl⟩
    cases hw : s.working <;> cases hs : b.state <;> simp [exec, execReservationExpiry, hw, hb, hs, hr]

end Sys2Proof.Machine
end

section
/-! PROOFS. Passage gates, passages and the traffic ring (R63..R69). -/

namespace Sys2Proof.Machine

/-! ### What a passage does (R67, R68) -/

theorem TrafficRing.passed_eq (r : TrafficRing) :
    r.passed = { r with current := min 255 (max r.current (r.current + 1)) } := by
  have hsucc : saturatingSucc 255 r.current = min 255 (max r.current (r.current + 1)) := by
    unfold saturatingSucc
    split <;> omega
  rw [TrafficRing.passed, hsucc]

@[simp] theorem State.presence_channels (s : State) (set : ChannelSet) :
    (s.presence set).light.channels = s.light.raised set := by
  simp [State.presence, Lighting.raised, Channel.presence_eq_raised]

/-- The bucket and the lights of a passage, whatever its direction (R67). -/
theorem State.passage_both (s : State) (g : GateSettings) (p : Passage) :
    (s.passage g p).bays = { s.bays with ring := s.bays.ring.passed } ∧
      (s.passage g p).light.channels = s.light.raised g.channels := by
  rcases s.passage_cases g p with h | ⟨station, -, -, h⟩ <;> rw [h] <;> simp

/-- A passage inward, or one outward with no station beyond, touches traffic and light alone (R67). -/
theorem State.passage_plain (s : State) {g : GateSettings} {p : Passage} (h : p = .inward ∨ g.farSide = none) :
    OnlyChanges [.bays, .light] s (s.passage g p) := by
  have heq : s.passage g p = (s.setBays { s.bays with ring := s.bays.ring.passed }).presence g.channels := by
    rcases h with rfl | h
    · rfl
    · cases p <;> simp [State.passage, h]
  rw [heq]
  simp [onlyChanges_iff]

/-- A passage outward toward a station queues a PASSAGE where there is a place (R68, R148). -/
theorem State.passage_queued (s : State) {g : GateSettings} {station : Nat} (h : g.farSide = some station)
    (hroom : s.bus.queues.passage.length < 4) :
    (s.passage g .outward).bus.queues = { s.bus.queues with
      passage := s.bus.queues.passage ++ [{ content := .passage (byteOf station), attempts := 0 }] } ∧
    OnlyChanges [.bays, .light, .bus] s (s.passage g .outward) := by
  simp [State.passage, h, State.queuePassage, hroom, Queues.put, Queues.get, onlyChanges_iff]

/-- With no place the PASSAGE is dropped and counted (R68, R148). -/
theorem State.passage_dropped (s : State) {g : GateSettings} {station : Nat} (h : g.farSide = some station)
    (hfull : 4 ≤ s.bus.queues.passage.length) :
    (s.passage g .outward).counters = s.counters.bump .passageDrop ∧
    OnlyChanges [.bays, .light, .counters] s (s.passage g .outward) := by
  simp [State.passage, h, State.queuePassage, Nat.not_lt.mpr hfull, State.count, onlyChanges_iff]

/-! ### One gate at a place of its machine -/

/-- The state with other inputs and one gate's record replaced. -/
def State.withGate (s : State) (i : Inputs) (g : Gate) : State :=
  (s.setInputs i).setBays (s.bays.mapGate g.settings.number (fun _ => g))

theorem BayMonitor.mapGate_self {m : BayMonitor} (hasc : Ascending (m.gates.map (fun x => x.settings.number))) {g : Gate}
    (hg : g ∈ m.gates) : m.mapGate g.settings.number (fun _ => g) = m := by
  have hsame : m.gates.map (fun x => if x.settings.number = g.settings.number then g else x) = m.gates := by
    refine (List.map_congr_left fun x hx => ?_).trans (List.map_id _)
    split
    · exact (eq_of_find?_of_nodup (key := fun x : Gate => x.settings.number) hasc.nodup
        (find?_of_nodup (key := fun x : Gate => x.settings.number) hasc.nodup hg) hx ‹_›).symm
    · rfl
  rw [BayMonitor.mapGate, hsame]

theorem State.withGate_same {s : State} (h : s.BaysSound) {g : Gate} (hg : g ∈ s.bays.gates) (i : Inputs) :
    s.withGate i g = s.setInputs i := by
  obtain ⟨-, -, -, -, -, hasc, -⟩ := h
  rw [State.withGate, BayMonitor.mapGate_self hasc hg]
  rfl

theorem State.withGate_gate? {s : State} {g : Gate} {i : Inputs} (hg : ∃ x ∈ s.bays.gates, x.settings.number = g.settings.number) :
    (s.withGate i g).bays.gate? g.settings.number = some g := by
  obtain ⟨x, hx, hnumber⟩ := hg
  have hsome : ((s.withGate i g).bays.gate? g.settings.number).isSome := by
    rw [BayMonitor.gate?, List.find?_isSome]
    exact ⟨g, List.mem_map.mpr ⟨x, hx, if_pos hnumber⟩, by simp⟩
  obtain ⟨y, hy⟩ := Option.isSome_iff_exists.mp hsome
  obtain ⟨hmem, hkey⟩ := find?_key (key := fun x : Gate => x.settings.number) hy
  obtain ⟨z, -, hz⟩ := List.mem_map.mp hmem
  split at hz
  · exact hy.trans (congrArg some hz.symm)
  · exact absurd (hz ▸ hkey) ‹_›

/-- A gate stepped to a state: its timer follows (R64). -/
def Gate.stepped (g : Gate) (st : GateState) : Gate := { g with state := st, timer := gateTimerAfter g.state st g.timer }

/-- A loop change of a gate at a place of its machine: the loop, the gate, and the passage if one is completed
(R63..R67). -/
theorem State.withGate_loopChange {s : State} {i : Inputs} {g : Gate} (hw : s.working = true)
    (hg : ∃ x ∈ s.bays.gates, x.settings.number = g.settings.number) {loop : Loop} {on : Bool}
    (hne : i.loopOn g.settings.number loop ≠ on) {st : GateState} {p : Option Passage}
    (hnext : g.state.next loop on (!(i.takeLoop g.settings.number loop on).loopOn g.settings.number .outer &&
      !(i.takeLoop g.settings.number loop on).loopOn g.settings.number .inner) = (st, p)) :
    exec (.loopChange g.settings.number loop on) (s.withGate i g) =
      .next (p.elim (s.withGate (i.takeLoop g.settings.number loop on) (g.stepped st))
        (fun d => (s.withGate (i.takeLoop g.settings.number loop on) (g.stepped st)).passage g.settings d)) := by
  have hmoved : ((s.withGate i g).setInputs (i.takeLoop g.settings.number loop on)).setBays
      ((s.withGate i g).bays.mapGate g.settings.number
        (fun x => { x with state := st, timer := gateTimerAfter g.state st x.timer })) =
      s.withGate (i.takeLoop g.settings.number loop on) (g.stepped st) := by
    have hgates : ((s.withGate i g).bays.mapGate g.settings.number
        (fun x => { x with state := st, timer := gateTimerAfter g.state st x.timer })) =
        s.bays.mapGate g.settings.number (fun _ => g.stepped st) := by
      simp only [State.withGate, State.setBays_bays, BayMonitor.mapGate, List.map_map]
      congr 1
      refine List.map_congr_left fun x _ => ?_
      by_cases hx : x.settings.number = g.settings.number
      · simp [hx, Gate.stepped]
      · simp [hx]
    rw [hgates]
    rfl
  have hgate := s.withGate_gate? (i := i) hg
  have hworking : (s.withGate i g).working = true := hw
  have hinputs : (s.withGate i g).inputs = i := rfl
  unfold exec execLoopChange
  simp only [hworking, hgate, hinputs, hne, if_false, hnext, hmoved]
  cases p <;> rfl

/-- Where the loops of a gate stand, among four of each kind. -/
structure LoopsAt (i : Inputs) (n : Nat) (on : Loop → Bool) : Prop where
  outerLoops : i.outerLoops.length = 4
  innerLoops : i.innerLoops.length = 4
  low : 1 ≤ n
  high : n ≤ 4
  on : ∀ l, i.loopOn n l = on l

theorem LoopsAt.take {i : Inputs} {n : Nat} {on : Loop → Bool} (h : LoopsAt i n on) (loop : Loop) (v : Bool) :
    LoopsAt (i.takeLoop n loop v) n (fun l => if l = loop then v else on l) := by
  refine ⟨?_, ?_, h.low, h.high, fun l => ?_⟩
  · cases loop <;> simp [Inputs.takeLoop, h.outerLoops]
  · cases loop <;> simp [Inputs.takeLoop, h.innerLoops]
  · rw [Inputs.loopOn_takeLoop h.outerLoops h.innerLoops h.low h.high, h.on]
    simp

/-- A loop change out of a state that does not wait for both loops off, with no passage. -/
theorem LoopsAt.moves {s : State} {i : Inputs} {g : Gate} {on : Loop → Bool} (h : LoopsAt i g.settings.number on)
    (hw : s.working = true) (hg : ∃ x ∈ s.bays.gates, x.settings.number = g.settings.number) {loop : Loop} {v : Bool}
    (hne : on loop ≠ v) {st : GateState} (hnext : ∀ z, g.state.next loop v z = (st, none)) :
    exec (.loopChange g.settings.number loop v) (s.withGate i g) =
      .next (s.withGate (i.takeLoop g.settings.number loop v) (g.stepped st)) :=
  State.withGate_loopChange hw hg (by rwa [h.on]) (hnext _)

/-- The same with a passage completed. -/
theorem LoopsAt.passes {s : State} {i : Inputs} {g : Gate} {on : Loop → Bool} (h : LoopsAt i g.settings.number on)
    (hw : s.working = true) (hg : ∃ x ∈ s.bays.gates, x.settings.number = g.settings.number) {loop : Loop} {v : Bool}
    (hne : on loop ≠ v) {st : GateState} {p : Passage} (hnext : ∀ z, g.state.next loop v z = (st, some p)) :
    exec (.loopChange g.settings.number loop v) (s.withGate i g) =
      .next ((s.withGate (i.takeLoop g.settings.number loop v) (g.stepped st)).passage g.settings p) :=
  State.withGate_loopChange hw hg (by rwa [h.on]) (hnext _)

theorem execAll_cons {c : Instr} {cs : List Instr} {s t : State} (h : exec c s = .next t) :
    execAll (c :: cs) s = execAll cs t := by
  simp only [execAll, h]

theorem GatesSound.loopsAt {b : BayMonitor} {i : Inputs} (h : GatesSound b i) {g : Gate} (hg : g ∈ b.gates)
    (hs : g.state = .clear) : LoopsAt i g.settings.number (fun _ => false) ∧ g.timer = none := by
  obtain ⟨htimer, hlow, hhigh, hsuits⟩ := h.legal g hg
  simp only [hs, GateState.suits, Bool.and_eq_true, Bool.not_eq_true'] at hsuits
  refine ⟨⟨h.outer, h.inner, hlow, hhigh, fun l => ?_⟩, by simpa [hs] using htimer⟩
  cases l
  · exact hsuits.1
  · exact hsuits.2

/-- A gate stepped away and back to CLEAR is the gate it was. -/
theorem Gate.stepped_clear {g g' : Gate} (hsettings : g'.settings = g.settings) (hs : g.state = .clear) (ht : g.timer = none) :
    g'.stepped .clear = g := by
  obtain ⟨settings, state, timer⟩ := g
  simp only at hsettings hs ht
  subst hs ht
  simp [Gate.stepped, gateTimerAfter, hsettings]

section
variable {s : State} {g : Gate} (hw : s.working = true) (hg : g ∈ s.bays.gates) (hsound : s.BaysSound) (hs : g.state = .clear)
include hw hg hsound hs

/-- Four loop changes through a gate at rest, the loops on and off in turn: one passage, the gate as before
(R64, R65). -/
theorem State.drivenThrough {a b : Loop} (hab : b ≠ a) {st₁ st₂ st₃ : GateState} {p : Passage}
    (h₁ : ∀ z, GateState.clear.next a true z = (st₁, none)) (h₂ : ∀ z, st₁.next b true z = (st₂, none))
    (h₃ : ∀ z, st₂.next a false z = (st₃, none)) (h₄ : ∀ z, st₃.next b false z = (.clear, some p)) :
    ∃ i, execAll [.loopChange g.settings.number a true, .loopChange g.settings.number b true,
      .loopChange g.settings.number a false, .loopChange g.settings.number b false] s =
        .next ((s.setInputs i).passage g.settings p) := by
  obtain ⟨-, hgates, -⟩ := s.baysSound_iff.mp hsound
  obtain ⟨hloops, htimer⟩ := hgates.loopsAt hg hs
  have hthere : ∃ x ∈ s.bays.gates, x.settings.number = g.settings.number := ⟨g, hg, rfl⟩
  have hloops₁ := hloops.take a true
  have hloops₂ := hloops₁.take b true
  have hloops₃ := hloops₂.take a false
  have hback : ((((g.stepped st₁).stepped st₂).stepped st₃).stepped .clear) = g := Gate.stepped_clear rfl hs htimer
  have hfirst := hloops.moves hw hthere (v := true) (loop := a) (by simp) fun z => hs ▸ h₁ z
  have hlast := hloops₃.passes (g := ((g.stepped st₁).stepped st₂).stepped st₃) hw hthere (v := false) (loop := b)
    (by simp [hab]) h₄
  rw [State.withGate_same hsound hg] at hfirst
  rw [hback, State.withGate_same hsound hg] at hlast
  exact ⟨_, (execAll_cons hfirst).trans ((execAll_cons (hloops₁.moves (g := g.stepped st₁) hw hthere (by simp [hab]) h₂)).trans
    ((execAll_cons (hloops₂.moves (g := (g.stepped st₁).stepped st₂) hw hthere (by simp [hab.symm]) h₃)).trans
      (execAll_cons hlast)))⟩

/-- OUTER on and off again at a gate at rest leaves the gate as it was (R64). -/
theorem State.nosedIn : ∃ i, execAll [.loopChange g.settings.number .outer true, .loopChange g.settings.number .outer false] s =
    .next (s.setInputs i) := by
  obtain ⟨-, hgates, -⟩ := s.baysSound_iff.mp hsound
  obtain ⟨hloops, htimer⟩ := hgates.loopsAt hg hs
  have hthere : ∃ x ∈ s.bays.gates, x.settings.number = g.settings.number := ⟨g, hg, rfl⟩
  have hback : (g.stepped .armedIn).stepped .clear = g := Gate.stepped_clear rfl hs htimer
  have hfirst := hloops.moves hw hthere (v := true) (loop := .outer) (st := .armedIn) (by simp) fun z => hs ▸ rfl
  have hlast := (hloops.take .outer true).moves (g := g.stepped .armedIn) hw hthere (v := false) (loop := .outer)
    (st := .clear) (by simp) fun z => rfl
  rw [State.withGate_same hsound hg] at hfirst
  rw [hback, State.withGate_same hsound hg] at hlast
  exact ⟨_, (execAll_cons hfirst).trans (execAll_cons hlast)⟩

end

theorem Block.same_trans {s u t : State} {b : Block} (h : b.same s u = true) (k : b.same u t = true) : b.same s t = true := by
  cases b <;> simp only [Block.same, decide_eq_true_eq] at h k ⊢ <;> exact h.trans k

theorem OnlyChanges.trans {p q : List Block} {s u t : State} (h : OnlyChanges p s u) (k : OnlyChanges q u t) :
    OnlyChanges (p ++ q) s t := fun b hb hout =>
  Block.same_trans (h b hb fun hp => hout (List.mem_append_left q hp)) (k b hb fun hq => hout (List.mem_append_right p hq))

/-- Only the inputs differ before the passage, so what it changes it changes of the first state. -/
theorem OnlyChanges.after_setInputs {s t : State} {i : Inputs} {parts : List Block}
    (h : OnlyChanges parts (s.setInputs i) t) : OnlyChanges (.inputs :: parts) s t := by
  have honly : OnlyChanges [.inputs] s (s.setInputs i) := by simp [onlyChanges_iff]
  exact OnlyChanges.trans honly h

/-- Settles O29: a car through, inward and outward, and one that noses in. -/
theorem aCarDrivenThroughIsCountedOnce : Obligations.ACarDrivenThroughIsCountedOnce := by
  intro s g station hw hg hsound hs
  obtain ⟨i, hin⟩ := State.drivenThrough hw hg hsound hs (a := .outer) (b := .inner) (by decide) (st₁ := .armedIn)
    (st₂ := .spanningIn) (st₃ := .exitingIn) (p := .inward) (fun _ => rfl) (fun _ => rfl) (fun _ => rfl) (fun _ => rfl)
  obtain ⟨j, hout⟩ := State.drivenThrough hw hg hsound hs (a := .inner) (b := .outer) (by decide) (st₁ := .armedOut)
    (st₂ := .spanningOut) (st₃ := .exitingOut) (p := .outward) (fun _ => rfl) (fun _ => rfl) (fun _ => rfl) (fun _ => rfl)
  obtain ⟨k, hnose⟩ := State.nosedIn hw hg hsound hs
  obtain ⟨hbaysIn, hlightIn⟩ := (s.setInputs i).passage_both g.settings .inward
  obtain ⟨hbaysOut, hlightOut⟩ := (s.setInputs j).passage_both g.settings .outward
  refine ⟨⟨_, hin, hbaysIn, hlightIn, OnlyChanges.after_setInputs (State.passage_plain _ (.inl rfl))⟩,
    ⟨_, hout, hbaysOut, hlightOut, fun hfar => OnlyChanges.after_setInputs (State.passage_plain _ (.inr hfar)),
      fun hfar hroom => ?_, fun hfar hfull => ?_⟩, ⟨_, hnose, by simp [onlyChanges_iff]⟩⟩
  · obtain ⟨hqueues, honly⟩ := (s.setInputs j).passage_queued hfar hroom
    exact ⟨hqueues, OnlyChanges.after_setInputs honly⟩
  · obtain ⟨hcounters, honly⟩ := (s.setInputs j).passage_dropped hfar hfull
    exact ⟨hcounters, OnlyChanges.after_setInputs honly⟩

/-! ### The gate machine at any loop change (R64..R67) -/

/-- From a state that suits the loops a change is a row of the tables (R64, R65). -/
theorem GateState.next_row : ∀ (g : GateState) (loop : Loop) (on outer inner z : Bool), g ≠ .blocked →
    g.suits outer inner = true → (if loop = .outer then outer else inner) ≠ on →
      (g, loop, on, (g.next loop on z).1) ∈ gateRows := by
  intro g loop
  cases g <;> cases loop <;> decide

/-- The passage a loop change completes (R64, R65). -/
theorem GateState.next_passage (g : GateState) (loop : Loop) (on z : Bool) : g.next loop on z = ((g.next loop on z).1,
    if g = .exitingIn ∧ loop = .inner ∧ on = false then some .inward
    else if g = .exitingOut ∧ loop = .outer ∧ on = false then some .outward else none) := by
  revert on z
  cases g <;> cases loop <;> decide

/-- BLOCKED waits for both loops off (R66). -/
theorem GateState.next_of_blocked {g : GateState} (h : g = .blocked) (loop : Loop) (on z : Bool) :
    (g.next loop on z).1 = if z then .clear else .blocked := by
  rw [h]
  rfl

/-- Where a loop change leaves the inputs and the gate. -/
def State.gateMoved (s : State) (g : Gate) (loop : Loop) (on : Bool) : State :=
  let i := s.inputs.takeLoop g.settings.number loop on
  s.withGate i (g.stepped (g.state.next loop on (!i.loopOn g.settings.number .outer && !i.loopOn g.settings.number .inner)).1)

theorem State.gateMoved_only (s : State) (g : Gate) (loop : Loop) (on : Bool) :
    OnlyChanges [.inputs, .bays] s (s.gateMoved g loop on) := by
  simp [State.gateMoved, State.withGate, onlyChanges_iff]

section
variable {s : State} {g : Gate} {loop : Loop} {on : Bool} (hg : g ∈ s.bays.gates) (hsound : s.BaysSound)
  (hne : s.inputs.loopOn g.settings.number loop ≠ on)
include hg hsound hne

theorem State.loopChange_eq (hw : s.working = true) : exec (.loopChange g.settings.number loop on) s = .next (
    if g.state = .exitingIn ∧ loop = .inner ∧ on = false then (s.gateMoved g loop on).passage g.settings .inward
    else if g.state = .exitingOut ∧ loop = .outer ∧ on = false then (s.gateMoved g loop on).passage g.settings .outward
    else s.gateMoved g loop on) := by
  have hexec := State.withGate_loopChange (i := s.inputs) (g := g) hw ⟨g, hg, rfl⟩ hne
    (GateState.next_passage g.state loop on _)
  rw [State.withGate_same hsound hg] at hexec
  refine hexec.trans (congrArg Host.Outcome.next ?_)
  split
  · rfl
  · split <;> rfl

omit hne in
/-- The loop stands as told, every other as before. -/
theorem State.gateMoved_loopOn (n : Nat) (l : Loop) : (s.gateMoved g loop on).inputs.loopOn n l =
    if n = g.settings.number ∧ l = loop then on else s.inputs.loopOn n l := by
  obtain ⟨-, hgates, -⟩ := s.baysSound_iff.mp hsound
  obtain ⟨-, hlow, hhigh, -⟩ := hgates.legal g hg
  exact Inputs.loopOn_takeLoop hgates.outer hgates.inner hlow hhigh loop on n l

omit hg hsound hne in
/-- No other gate moves. -/
theorem State.gateMoved_others : (s.gateMoved g loop on).bays.gates.filter (fun x => x.settings.number ≠ g.settings.number) =
    s.bays.gates.filter (fun x => x.settings.number ≠ g.settings.number) := by
  have hfilter : ∀ l : List Gate, ∀ y : Gate, y.settings.number = g.settings.number →
      (l.map (fun x => if x.settings.number = g.settings.number then y else x)).filter
        (fun x => x.settings.number ≠ g.settings.number) = l.filter (fun x => x.settings.number ≠ g.settings.number) := by
    intro l y hy
    induction l with
    | nil => rfl
    | cons x xs ih =>
      rw [List.map_cons]
      by_cases hx : x.settings.number = g.settings.number
      · rw [if_pos hx, List.filter_cons_of_neg (by simp [hy]), List.filter_cons_of_neg (by simp [hx]), ih]
      · rw [if_neg hx, List.filter_cons_of_pos (by simp [hx]), List.filter_cons_of_pos (by simp [hx]), ih]
  exact hfilter s.bays.gates _ rfl

/-- The gate steps by its tables, its timer with it (R64, R65, R66). -/
theorem State.gateMoved_gate : ∃ x ∈ (s.gateMoved g loop on).bays.gates, x.settings = g.settings ∧
    x.timer = (if x.state = .clear then none else if g.state = .clear then some 10000 else g.timer) ∧
    (g.state ≠ .blocked → (g.state, loop, on, x.state) ∈ gateRows) ∧
    (g.state = .blocked → x.state = if (s.gateMoved g loop on).inputs.loopOn g.settings.number .outer = false ∧
      (s.gateMoved g loop on).inputs.loopOn g.settings.number .inner = false then .clear else .blocked) := by
  obtain ⟨-, hgates, -⟩ := s.baysSound_iff.mp hsound
  obtain ⟨-, -, -, hsuits⟩ := hgates.legal g hg
  refine ⟨g.stepped _, List.mem_map.mpr ⟨g, hg, if_pos rfl⟩, rfl, rfl, fun hb => ?_, fun hb => ?_⟩
  · refine GateState.next_row g.state loop on _ _ _ hb hsuits ?_
    cases loop <;> exact hne
  · refine (GateState.next_of_blocked hb loop on
      (!(s.gateMoved g loop on).inputs.loopOn g.settings.number .outer &&
        !(s.gateMoved g loop on).inputs.loopOn g.settings.number .inner)).trans ?_
    simp only [Bool.and_eq_true, Bool.not_eq_true']

end

/-- The gate of a number replaced where it stands alone (R63). -/
theorem BayMonitor.mapGate_eq {m : BayMonitor} {n : Nat} {g : Gate}
    (hasc : Ascending (m.gates.map (fun x => x.settings.number))) (hg : m.gate? n = some g) (f : Gate → Gate) :
    m.mapGate n f = { m with gates := m.gates.map (fun x => if x.settings.number = n then f g else x) } := by
  have hsame : m.gates.map (fun x => if x.settings.number = n then f x else x) =
      m.gates.map (fun x => if x.settings.number = n then f g else x) := by
    refine List.map_congr_left fun x hx => ?_
    split
    · rw [eq_of_find?_of_nodup (key := fun x : Gate => x.settings.number) hasc.nodup hg hx ‹_›]
    · rfl
  rw [BayMonitor.mapGate, hsame]

/-- Settles O28: a loop change with and without a passage, the gate timer's end, and the ring. -/
theorem gateMachineFollowsItsTables : Obligations.GateMachineFollowsItsTables := by
  intro s g loop on station hw hg hsound
  obtain ⟨-, hgates, -⟩ := s.baysSound_iff.mp hsound
  have hgate : s.bays.gate? g.settings.number = some g :=
    find?_of_nodup (key := fun x : Gate => x.settings.number) hgates.ascending.nodup hg
  refine ⟨fun hne => ?_, fun ht => ?_, ⟨_, if_pos hw, rfl, by simp [onlyChanges_iff]⟩⟩
  · refine ⟨_, State.loopChange_eq hg hsound hne hw, ?_⟩
    set m := s.gateMoved g loop on with hm
    have hon := State.gateMoved_loopOn (loop := loop) (on := on) hg hsound
    have hloop : m.inputs.loopOn g.settings.number loop = on := by rw [hm, hon, if_pos ⟨rfl, rfl⟩]
    have hloops : ∀ n ∈ [1, 2, 3, 4], ∀ l ∈ [Loop.outer, .inner], (n ≠ g.settings.number ∨ l ≠ loop) →
        m.inputs.loopOn n l = s.inputs.loopOn n l := fun n _ l _ hother => by
      rw [hm, hon, if_neg (by tauto)]
    have honly : OnlyChanges [.inputs, .bays] s m := s.gateMoved_only g loop on
    by_cases hpassage : (g.state = .exitingIn ∧ loop = .inner ∧ on = false) ∨ (g.state = .exitingOut ∧ loop = .outer ∧ on = false)
    · obtain ⟨p, ht, hin, hout⟩ : ∃ p, (if g.state = .exitingIn ∧ loop = .inner ∧ on = false then m.passage g.settings .inward
          else if g.state = .exitingOut ∧ loop = .outer ∧ on = false then m.passage g.settings .outward else m) =
            m.passage g.settings p ∧ (g.state = .exitingIn → p = .inward) ∧ (g.state = .exitingOut → p = .outward) := by
        rcases hpassage with h | h
        · exact ⟨.inward, if_pos h, fun _ => rfl, fun h' => by simp [h.1] at h'⟩
        · exact ⟨.outward, (if_neg (by simp [h.1])).trans (if_pos h), fun h' => by simp [h.1] at h', fun _ => rfl⟩
      obtain ⟨hbays, hlight⟩ := m.passage_both g.settings p
      rw [ht]
      beta_reduce
      rw [State.passage_inputs, hbays, hlight]
      refine ⟨hloop, hloops, s.gateMoved_others, State.gateMoved_gate hg hsound hne,
        fun hi ho => absurd hpassage (not_or.mpr ⟨hi, ho⟩), fun _ => ⟨s.bays.ring.passed_eq, rfl, fun h => ?_, fun ho hfar hroom => ?_,
          fun ho hfar hfull => ?_⟩, rfl, ?_⟩
      · exact OnlyChanges.mono (OnlyChanges.trans honly (m.passage_plain (h.imp_left hin))) (by simp)
      · obtain ⟨hqueues, hq⟩ := m.passage_queued hfar hroom
        rw [hout ho]
        exact ⟨hqueues, OnlyChanges.mono (OnlyChanges.trans honly hq) (by simp)⟩
      · obtain ⟨hcounters, hc⟩ := m.passage_dropped hfar hfull
        rw [hout ho]
        exact ⟨hcounters, OnlyChanges.mono (OnlyChanges.trans honly hc) (by simp)⟩
      · have hpart : OnlyChanges [.bays, .light, .bus, .counters] m (m.passage g.settings p) := by simp [onlyChanges_iff]
        exact OnlyChanges.mono (OnlyChanges.trans honly hpart) (by simp)
    · rw [not_or] at hpassage
      rw [if_neg hpassage.1, if_neg hpassage.2]
      exact ⟨hloop, hloops, s.gateMoved_others, State.gateMoved_gate hg hsound hne, fun _ _ => ⟨rfl, honly⟩,
        fun h => absurd h (not_or.mpr hpassage), rfl, OnlyChanges.mono honly (by simp)⟩
  · refine ⟨(s.setBays (s.bays.mapGate g.settings.number (fun x => { x with state := .blocked, timer := none }))).count .gateStuck,
      ?_, ?_, rfl, by simp [onlyChanges_iff]⟩
    · simp [exec, execGateTimerExpiry, hw, hgate, ht]
    · exact BayMonitor.mapGate_eq hgates.ascending hgate _

end Sys2Proof.Machine
end

section
/-! PROOFS. Bulletins and the sweep: what they leave in the Peer Table and whom it tells (R74..R87). -/

namespace Sys2Proof.Machine

/-! ### What a bulletin gives an entry (R74, R77, R78) -/

theorem bit_one (b : Byte) : bit b 1 = purgeFlag b := rfl
theorem bit_zero (b : Byte) : bit b 0 = closedFlag b := rfl

theorem heardIndex_eq (h : Half) : heardIndex h = if h = 0xFFFF#16 then none else some (min 999 h.toNat) := by
  unfold heardIndex indexOfHalf
  split <;> rfl

theorem Heard.take_status (h : Heard) (p : StatusPayload) : h.take (.status p) = heardOfStatus p := by
  rw [Heard.take, heardOfStatus, heardIndex_eq, bit_one, bit_zero]

theorem Heard.take_alert (h : Heard) (p : AlertPayload) : h.take (.alert p) = heardOfAlert p h := by
  rw [Heard.take, heardOfAlert, heardIndex_eq, bit_one]

theorem Peer.renew_status (p : Peer) (c : StatusPayload) : p.renew (.status c) = { p with
    age := 0, state := .fresh, level := if p.origin = .learned then some (min 15 c.level.toNat) else p.level
    heard := heardOfStatus c } := by
  rw [Peer.renew, Heard.take_status]
  cases h : p.origin <;> simp [levelAfter]

theorem Peer.renew_alert (p : Peer) (c : AlertPayload) :
    p.renew (.alert c) = { p with age := 0, state := .fresh, heard := heardOfAlert c p.heard } := by
  rw [Peer.renew, Heard.take_alert]
  rfl

/-! ### Telling the Ventilation Controller (R84, R86) -/

theorem State.upstreamEntryChanged_iff (s t : State) :
    upstreamChanged s.peers.slots t.peers.slots = true ↔ s.UpstreamEntryChanged t := by
  unfold upstreamChanged
  rw [List.any_eq_true]
  refine exists_congr fun pair => and_congr_right fun _ => ?_
  obtain ⟨a, b⟩ := pair
  cases a <;> cases b <;> simp [Option.any_eq_true, and_comm, and_assoc]

/-- What is read of a state when the Ventilation Controller is told from it. -/
theorem State.TellsVentilation.of_same {s s' t t' : State} (h : s.TellsVentilation t)
    (hslots : s'.peers.slots = s.peers.slots) (hsympathy : s'.peers.sympathy = s.peers.sympathy) (hvent : s'.vent = s.vent)
    (hc : t'.settings = t.settings) (ha : t'.air = t.air) (hp : t'.peers = t.peers) (hi : t'.inputs = t.inputs)
    (hb : t'.bays = t.bays) (hv : t'.vent = t.vent) : s'.TellsVentilation t' := by
  unfold State.TellsVentilation State.UpstreamEntryChanged State.DemandFormed at h ⊢
  rw [hslots, hsympathy, hvent, hp, hv, State.floorNow_congr hc ha hp hi,
    State.demandNow_congr hc ha hp hi hb (by rw [hv])]
  exact h

/-- The table changed and told on: demand formed exactly when it reads what has changed (R84, R86). -/
theorem State.peersChanged_tells {s : State} (hw : s.working = true) (slots : List (Option Peer)) (b : Bool) :
    s.TellsVentilation (s.peersChanged slots b) := by
  set changed := s.setPeers { s.peers with slots := slots, sympathy := sympathyHolds s.settings.levelNumber slots } with hchanged
  set ventilated := if sympathyHolds s.settings.levelNumber slots != s.peers.sympathy || upstreamChanged s.peers.slots slots then
    changed.recompute false else changed with hventilated
  have hpeers : ventilated.peers = changed.peers := by
    rw [hventilated]
    split <;> simp
  have htells : s.TellsVentilation ventilated := by
    have hiff : s.peers.sympathy ≠ ventilated.peers.sympathy ∨ s.UpstreamEntryChanged ventilated ↔
        (sympathyHolds s.settings.levelNumber slots != s.peers.sympathy || upstreamChanged s.peers.slots slots) = true := by
      rw [← State.upstreamEntryChanged_iff, hpeers, Bool.or_eq_true, bne_iff_ne, ne_comm]
      rfl
    unfold State.TellsVentilation
    split
    · rw [hventilated, if_pos (hiff.mp ‹_›)]
      exact State.recompute_formed (s := changed) hw false
    · rw [hventilated, if_neg (mt hiff.mpr ‹_›)]
      rfl
  have heq : s.peersChanged slots b =
      if b || driveStateChanged s.peers.slots slots then ventilated.guidanceTold true false else ventilated := rfl
  rw [heq]
  split
  · exact htells.of_same rfl rfl rfl (by simp) (by simp) (by simp) (by simp) (by simp) (by simp)
  · exact htells

/-! ### A bulletin that changes the table -/

/-- The receiving side has an accepted bulletin to hand on (R136, R137). -/
theorem State.onFrame_bulletin {s : State} (ht : s.takesFrames = true) (hw : s.working = true) (source : Byte) (b : Bulletin) :
    s.onFrame (s.bulletinAccepted source b) = s.frameAccepted.takeBulletin source b := by
  rw [State.onFrame_taken _ _ ht, State.bulletinAccepted, if_pos hw]

theorem State.takeBulletin_of_taken {s : State} {source : Byte} (hlow : 1 ≤ source.toNat) (hhigh : source.toNat ≤ 62)
    (hown : source.toNat ≠ s.settings.ownAddress) {b : Bulletin} {slots : List (Option Peer)}
    (htaken : s.peers.taken source.toNat b = some slots) : s.takeBulletin source b =
      (s.peersChanged slots (s.statusOfDrive source.toNat b)).presence (s.passageLights source.toNat b) := by
  have hrange : ¬(source.toNat = 0 ∨ 62 < source.toNat) := by omega
  simp [State.takeBulletin, hrange, hown, htaken]

theorem State.passageLights_frameAccepted (s : State) (source : Nat) (b : Bulletin) :
    s.frameAccepted.passageLights source b = s.passageLights source b := by
  unfold State.passageLights
  rw [State.frameAccepted_peers, State.frameAccepted_settings]

theorem Lighting.raised_none (l : Lighting) : l.raised 0#8 = l.channels := by
  simp [Lighting.raised, inChannelSet]

theorem State.presence_none (s : State) : s.presence 0#8 = s := by
  have hlight : ({ s.light with channels := s.light.raised 0#8 } : Lighting) = s.light := by rw [Lighting.raised_none]
  have hpresence : s.presence 0#8 = s.setLight { s.light with channels := s.light.raised 0#8 } := by
    simp [State.presence, Lighting.raised, inChannelSet]
  rw [hpresence, hlight]
  rfl

/-- A bulletin taken: the slots, sympathy, and what is told (R77..R80, R84). -/
theorem State.takeBulletin_taken {s : State} (hw : s.working = true) {source : Byte} (hlow : 1 ≤ source.toNat)
    (hhigh : source.toNat ≤ 62) (hown : source.toNat ≠ s.settings.ownAddress) {b : Bulletin} {slots : List (Option Peer)}
    (htaken : s.peers.taken source.toNat b = some slots) :
    let t := s.frameAccepted.takeBulletin source b
    t.peers.slots = slots ∧ t.peers.sympathy = sympathyHolds s.settings.levelNumber t.peers.slots ∧ s.TellsVentilation t ∧
      t.counters = s.countersAccepted ∧ t.light.channels = s.light.raised (s.passageLights source.toNat b) ∧
      OnlyChanges [.peers, .vent, .guide, .light, .bus, .counters] s t ∧
      (s.passageLights source.toNat b = 0#8 → OnlyChanges [.peers, .vent, .guide, .bus, .counters] s t) := by
  have heq := State.takeBulletin_of_taken (s := s.frameAccepted) hlow hhigh (by simpa using hown)
    (b := b) (slots := slots) (by rw [State.frameAccepted_peers]; exact htaken)
  have htells : s.frameAccepted.TellsVentilation
      (s.frameAccepted.peersChanged slots (s.frameAccepted.statusOfDrive source.toNat b)) :=
    State.peersChanged_tells (s.frameAccepted_working.trans hw) slots _
  rw [State.passageLights_frameAccepted] at heq
  intro t
  simp only [t, heq]
  generalize s.frameAccepted.statusOfDrive source.toNat b = told at *
  refine ⟨by simp, by simp, htells.of_same (by simp) (by simp) (by simp) (by simp) (by simp) (by simp) (by simp) (by simp) (by simp),
    by simp, by simp, by simp [onlyChanges_iff], fun hnone => ?_⟩
  rw [hnone, State.presence_none]
  simp [onlyChanges_iff]

theorem PeerTable.taken_known {t : PeerTable} {source : Nat} {p : Peer} (h : t.entry? source = some p) (b : Bulletin) :
    t.taken source b = some (t.slots.map (Option.map (fun q => if q.address = source then q.renew b else q))) := by
  simp [PeerTable.taken, h]

theorem State.passageLights_status (s : State) (source : Nat) (c : StatusPayload) : s.passageLights source (.status c) = 0#8 := rfl
theorem State.passageLights_alert (s : State) (source : Nat) (c : AlertPayload) : s.passageLights source (.alert c) = 0#8 := rfl

theorem State.passageLights_known {s : State} {source : Nat} {p : Peer} (h : s.peers.entry? source = some p) (named : Byte) :
    s.passageLights source (.passage named) =
      if named.toNat = s.settings.ownAddress ∧ p.drive?.isSome = true then
        (p.static?.map StaticSettings.entryChannels).getD 0#8 else 0#8 := by
  simp [State.passageLights, h]

theorem State.passageLights_unknown {s : State} {source : Nat} (h : s.peers.entry? source = none) (b : Bulletin) :
    s.passageLights source b = 0#8 := by
  cases b <;> simp [State.passageLights, h]

/-- Settles O30: the three bulletins of a station held. -/
theorem bulletinRenewsItsEntry : Obligations.BulletinRenewsItsEntry := by
  intro s source named p content alert htakes hw hlow hhigh hown hentry
  have hexec (b : Bulletin) := State.takeBulletin_taken hw hlow hhigh hown (PeerTable.taken_known hentry b)
  refine ⟨⟨_, congrArg Host.Outcome.next (State.onFrame_bulletin htakes hw source (.status content)), ?_⟩,
    ⟨_, congrArg Host.Outcome.next (State.onFrame_bulletin htakes hw source (.alert alert)), ?_⟩,
    ⟨_, congrArg Host.Outcome.next (State.onFrame_bulletin htakes hw source (.passage named)), ?_⟩⟩
  · obtain ⟨hslots, hsympathy, htells, hcounters, -, -, honly⟩ := hexec (.status content)
    simp only [Peer.renew_status] at hslots
    exact ⟨hslots, hsympathy, htells, hcounters, honly (s.passageLights_status _ _)⟩
  · obtain ⟨hslots, hsympathy, htells, hcounters, -, -, honly⟩ := hexec (.alert alert)
    simp only [Peer.renew_alert] at hslots
    exact ⟨hslots, hsympathy, htells, hcounters, honly (s.passageLights_alert _ _)⟩
  · obtain ⟨hslots, hsympathy, htells, hcounters, hlight, honly, -⟩ := hexec (.passage named)
    refine ⟨hslots, hsympathy, htells, hcounters, ?_, honly⟩
    rw [hlight, State.passageLights_known hentry]
    split
    · rfl
    · exact Lighting.raised_none _

/-! ### An unknown source (R75, R76, R78, R79) -/

/-- The lowest empty slot filled (R78). -/
theorem fillFirstEmpty_eq_set (p : Peer) {slots : List (Option Peer)} (h : none ∈ slots) :
    fillFirstEmpty p slots = slots.set (slots.findIdx Option.isNone) (some p) := by
  induction slots with
  | nil => cases h
  | cons slot rest ih =>
    cases slot with
    | none => rfl
    | some q =>
      have hrest : none ∈ rest := by simpa using h
      rw [fillFirstEmpty, ih hrest, List.findIdx_cons]
      rfl

theorem chooseVictim_eq_none {l : List Peer} : chooseVictim l = none ↔ l = [] := by
  cases l with
  | nil => simp [chooseVictim]
  | cons p ps =>
    rw [chooseVictim]
    cases chooseVictim ps with
    | none => simp
    | some q =>
      dsimp only
      split <;> simp

/-- The victim has the highest age, then the lowest address (R79). -/
theorem chooseVictim_best {l : List Peer} {v : Peer} (h : chooseVictim l = some v) :
    ∀ w ∈ l, w.age < v.age ∨ (w.age = v.age ∧ v.address ≤ w.address) := by
  induction l generalizing v with
  | nil => cases h
  | cons p ps ih =>
    rw [chooseVictim] at h
    cases hps : chooseVictim ps with
    | none =>
      rw [hps] at h
      obtain rfl := Option.some.inj h
      simp [chooseVictim_eq_none.mp hps]
    | some q =>
      rw [hps] at h
      dsimp only at h
      have hbest := ih hps
      rw [List.forall_mem_cons]
      split at h <;> obtain rfl := Option.some.inj h <;> rename_i hbefore <;>
        simp only [Peer.evictedBefore, Bool.or_eq_true, Bool.and_eq_true, decide_eq_true_eq] at hbefore
      · refine ⟨.inr ⟨rfl, le_refl _⟩, fun w hw => ?_⟩
        have := hbest w hw
        omega
      · exact ⟨by omega, hbest⟩

theorem mem_evictable {slots : List (Option Peer)} {w : Peer} : w ∈ slots.filterMap (fun slot => slot.filter Peer.evictable) ↔
    w ∈ slots.filterMap id ∧ w.origin = .learned ∧ 1 ≤ w.age := by
  rw [mem_entriesOf]
  simp only [List.mem_filterMap, Option.filter_eq_some_iff, Peer.evictable, Bool.and_eq_true, decide_eq_true_eq]
  constructor
  · rintro ⟨slot, hslot, rfl, horigin, hage⟩
    exact ⟨hslot, horigin, hage⟩
  · rintro ⟨hslot, horigin, hage⟩
    exact ⟨_, hslot, rfl, horigin, hage⟩

section
variable {t : PeerTable} {source : Nat} (hentry : t.entry? source = none) (b : Bulletin)
include hentry

theorem PeerTable.taken_empty (h : none ∈ t.slots) :
    t.taken source b = some (t.slots.set (t.slots.findIdx Option.isNone) (some (.learn source b))) := by
  have hany : t.slots.any Option.isNone = true := List.any_eq_true.mpr ⟨none, h, rfl⟩
  rw [← fillFirstEmpty_eq_set _ h]
  simp [PeerTable.taken, hentry, hany]

theorem PeerTable.taken_full (h : none ∉ t.slots) : t.taken source b =
    (chooseVictim (t.slots.filterMap (fun slot => slot.filter Peer.evictable))).map (fun v =>
      t.slots.map (Option.map (fun p => if p.address = v.address then .learn source b else p))) := by
  have hany : t.slots.any Option.isNone = false := by
    rw [List.any_eq_false]
    intro slot hslot hnone
    exact h (Option.isNone_iff_eq_none.mp hnone ▸ hslot)
  rw [PeerTable.taken, hentry]
  dsimp only
  rw [if_neg (by simp [hany])]
  cases chooseVictim (t.slots.filterMap (fun slot => slot.filter Peer.evictable)) <;> rfl

end

theorem Peer.learn_status (source : Nat) (c : StatusPayload) : Peer.learn source (.status c) =
    { address := source, origin := .learned, level := some (min 15 c.level.toNat), age := 0, state := .fresh
      heard := heardOfStatus c } := by
  rw [Peer.learn, Heard.take_status]
  rfl

theorem Peer.learn_alert (source : Nat) (c : AlertPayload) : Peer.learn source (.alert c) =
    { address := source, origin := .learned, level := none, age := 0, state := .fresh
      heard := heardOfAlert c .absent } := by
  rw [Peer.learn, Heard.take_alert]
  rfl

/-- Settles O31: the four cases of R75 to R79, for each of the three bulletins. -/
theorem unknownSourcesAreAdmittedOrRejected : Obligations.UnknownSourcesAreAdmittedOrRejected := by
  intro s source named content alert htakes hw q hq
  obtain ⟨b, hexec, hlearn⟩ : ∃ b, exec q.1 s = .next (s.frameAccepted.takeBulletin source b) ∧
      Peer.learn source.toNat b = q.2 := by
    simp only [List.mem_cons, List.not_mem_nil, or_false] at hq
    rcases hq with rfl | rfl | rfl
    · exact ⟨_, congrArg Host.Outcome.next (State.onFrame_bulletin htakes hw source (.status content)), Peer.learn_status _ _⟩
    · exact ⟨_, congrArg Host.Outcome.next (State.onFrame_bulletin htakes hw source (.alert alert)), Peer.learn_alert _ _⟩
    · exact ⟨_, congrArg Host.Outcome.next (State.onFrame_bulletin htakes hw source (.passage named)), rfl⟩
  have hcounted (n : CounterName) : (s.frameAccepted.count n).counters = s.countersAccepted.bump n ∧
      OnlyChanges [.bus, .counters] s (s.frameAccepted.count n) := ⟨rfl, by simp [onlyChanges_iff]⟩
  refine ⟨fun hrange => ⟨_, hexec, ?_⟩, fun hlow hhigh hown => ⟨_, hexec, ?_⟩, fun hlow hhigh hown hentry =>
    ⟨fun hempty => ⟨_, hexec, ?_⟩, fun hfull ⟨v, hv, hlearned, hage⟩ => ⟨_, hexec, ?_⟩, fun hfull hnone => ⟨_, hexec, ?_⟩⟩⟩
  · have heq : s.frameAccepted.takeBulletin source b = s.frameAccepted.count .peerReject := by
      simp only [State.takeBulletin, if_pos hrange]
    exact heq ▸ hcounted .peerReject
  · have hrange : ¬(source.toNat = 0 ∨ 62 < source.toNat) := by omega
    have heq : s.frameAccepted.takeBulletin source b = s.frameAccepted.count .addressClash := by
      unfold State.takeBulletin
      dsimp only
      rw [if_neg hrange, if_pos (by simpa using hown)]
    exact heq ▸ hcounted .addressClash
  · obtain ⟨hslots, hsympathy, htells, hcounters, -, -, honly⟩ :=
      State.takeBulletin_taken hw hlow hhigh hown (PeerTable.taken_empty hentry b hempty)
    exact ⟨hlearn ▸ hslots, hsympathy, htells, hcounters, honly (State.passageLights_unknown hentry b)⟩
  · have hfulltaken := PeerTable.taken_full hentry b hfull
    cases hvictim : chooseVictim (s.peers.slots.filterMap (fun slot => slot.filter Peer.evictable)) with
    | none =>
      have hno := chooseVictim_eq_none.mp hvictim
      exact absurd (mem_evictable.mpr ⟨hv, hlearned, hage⟩) (by simp [hno])
    | some x =>
      rw [hvictim] at hfulltaken
      obtain ⟨hx, hxlearned, hxage⟩ := mem_evictable.mp (chooseVictim_mem hvictim)
      obtain ⟨hslots, hsympathy, htells, hcounters, -, -, honly⟩ := State.takeBulletin_taken hw hlow hhigh hown hfulltaken
      exact ⟨⟨x, hx, hxlearned, hxage,
        fun w hw hwlearned hwage => chooseVictim_best hvictim w (mem_evictable.mpr ⟨hw, hwlearned, hwage⟩), hlearn ▸ hslots⟩,
        hsympathy, htells, hcounters, honly (State.passageLights_unknown hentry b)⟩
  · have hno : s.peers.slots.filterMap (fun slot => slot.filter Peer.evictable) = [] := by
      rw [List.eq_nil_iff_forall_not_mem]
      intro w hw
      obtain ⟨hmem, hlearned, hage⟩ := mem_evictable.mp hw
      exact absurd (hnone w hmem hlearned) (by omega)
    have hfulltaken : s.peers.taken source.toNat b = none := by
      rw [PeerTable.taken_full hentry b hfull, hno]
      rfl
    have hrange : ¬(source.toNat = 0 ∨ 62 < source.toNat) := by omega
    have heq : s.frameAccepted.takeBulletin source b = s.frameAccepted.count .peerReject := by
      simp [State.takeBulletin, hrange, hown, hfulltaken]
    exact heq ▸ hcounted .peerReject

/-! ### The sweep (R81, R82) -/

theorem Peer.sweep_eq {p : Peer} (h : p.Legal) : p.sweep =
    if p.age = 0 then some { p with age := 1, state := .fresh }
    else if p.age = 1 then some { p with age := 2, state := .stale }
    else if p.age = 2 then some { p with age := 3, state := .stale }
    else if p.origin = .learned then none
    else some { p with age := 3, state := .silent, heard := .absent } := by
  obtain ⟨-, -, -, hage, hfresh, hsilent, -⟩ := h
  obtain ⟨address, origin, level, age, state, heard⟩ := p
  simp only at hage hfresh hsilent
  have hages : age = 0 ∨ age = 1 ∨ age = 2 ∨ age = 3 := by omega
  rcases hages with rfl | rfl | rfl | rfl
  · simp [Peer.sweep, hfresh.mpr]
  · simp [Peer.sweep, hfresh.mpr]
  · cases state with
    | fresh => simp at hfresh
    | stale => simp [Peer.sweep]
    | silent => simp at hsilent
  · cases state with
    | fresh => simp at hfresh
    | stale => cases origin <;> simp [Peer.sweep]
    | silent => cases origin <;> simp [Peer.sweep, (hsilent rfl).2]

/-- Settles O32: the entries aged in their slots, and what is told of it. -/
theorem sweepAgesEveryEntry : Obligations.SweepAgesEveryEntry := by
  intro s hw hsound
  set timed := s.setPeers { s.peers with sweepTimer := some (seconds s.settings.sweepInterval) } with htimed
  have htells : timed.TellsVentilation (timed.peersChanged (s.peers.slots.map (fun slot => slot.bind Peer.sweep)) false) :=
    State.peersChanged_tells (s := timed) hw _ _
  obtain ⟨-, hlegal, -⟩ := hsound
  refine ⟨_, if_pos hw, ?_, by simp, htells.of_same rfl rfl rfl rfl rfl rfl rfl rfl rfl, ?_, by simp [onlyChanges_iff]⟩
  · rw [State.peersChanged_peers]
    refine List.map_congr_left fun slot hslot => ?_
    cases slot with
    | none => rfl
    | some p => exact Peer.sweep_eq (hlegal p (mem_entriesOf.mpr hslot))
  · simp [seconds_eq]

end Sys2Proof.Machine
end

section
/-! PROOFS. Closure, lamps, routes and sign images (R62, R91..R104). -/

namespace Sys2Proof.Machine

/-! ### Lamps (R62) -/

theorem State.lamp_of_bay {s : State} {n : Nat} {b : Bay} (hw : s.working = true) (hb : s.bays.bay? n = some b) :
    s.lamp n = lampOf s.guide.closed b.state := by
  simp [State.lamp, hw, hb]

theorem State.lamp_off {s : State} {n : Nat} (h : s.working = false ∨ s.bays.bay? n = none) : s.lamp n = .off := by
  rcases h with h | h
  · simp [State.lamp, h]
  · cases hw : s.working <;> simp [State.lamp, hw, h]

theorem lampOf_row {q : BayState × Lamp × Lamp} (hq : q ∈ lampRows) (closed : Bool) :
    lampOf closed q.1 = if closed then q.2.2 else q.2.1 := by
  revert q closed
  decide

/-! ### CLOSE ZONE and OPEN ZONE (R92) -/

theorem State.evaluateRoutes_closed {s : State} (h : s.guide.closed = true) : s.evaluateRoutes = .afterReset := by
  simp [State.evaluateRoutes, State.evaluateRow, h, Rows.afterReset]

theorem State.GuidanceSound.rows_closed {s : State} (h : s.GuidanceSound) (hc : s.guide.closed = true) :
    s.guide.rows = .afterReset := by
  obtain ⟨-, -, -, hrows, -⟩ := h
  rw [hrows]
  split
  · exact State.evaluateRoutes_closed hc
  · rfl

/-- A granted CLOSE ZONE or OPEN ZONE: the service source set, the Guidance Unit told and sound (R91, R92). -/
theorem State.Granted.serviceClose {s : State} {source destination code : Byte} (h : s.Granted source destination)
    (hsound : s.GuidanceSound) (hcode : code ≠ restartCode) {v : Bool}
    (he : executeCommand code [] s.frameAccepted =
      .did ((s.frameAccepted.setGuide { s.guide with serviceClose := v }).guidanceTold false false)) :
    ∃ t, s.commandFrame source destination code [] = t ∧ t.guide.serviceClose = v ∧
      t.guide.closed = (decide (s.air.level = .alarm) || s.inputs.purge.filtered || v) ∧ t.GuidanceSound ∧
      t.station = s.station ∧ t.bus.queues.report = s.reportsWith source code 0#8 [] ∧ t.counters = s.countersAccepted ∧
      OnlyChanges [.guide, .bus, .counters] s t := by
  have haccepted : s.frameAccepted.GuidanceSound := hsound.of_kept (by simp [State.guidanceKept_iff])
  have htold := haccepted.serviceClose v
  rw [State.frameAccepted_guide] at htold
  refine ⟨_, h.did (by simp) hcode he, by simp, by simp [State.closureHolds], htold.of_kept (by simp [State.guidanceKept_iff]),
    by simp, State.reporting_report ?_ .., by simp, by simp [onlyChanges_iff]⟩
  exact (reportQueue_tellKeeps s.bus.queues.report).guidanceTold _ _ _ rfl

/-- Settles O33: the lamps, and the two commands through the soundness they keep. -/
theorem closeAndOpenZone : Obligations.CloseAndOpenZone := by
  intro s source destination n b
  refine ⟨fun hw hb q hq hs => ?_, State.lamp_off, fun hg hsound => ⟨?_, ?_⟩⟩
  · rw [State.lamp_of_bay hw hb, hs, lampOf_row hq]
  · obtain ⟨t, ht, hservice, hclosed, htsound, hst, hreport, hcounters, honly⟩ :=
      (State.grants_iff.mp hg).serviceClose (code := 0x30#8) (v := true) hsound (by decide) rfl
    rw [Bool.or_true] at hclosed
    refine ⟨t, congrArg Host.Outcome.next ht, hservice, hclosed, htsound.rows_closed hclosed, fun hnormal g hg => ?_, hreport,
      hcounters, honly⟩
    obtain ⟨-, -, -, -, himages⟩ := htsound
    rw [himages g hg, State.signImage, if_neg (by simp [hst, hnormal]), if_pos hclosed]
    rfl
  · obtain ⟨t, ht, hservice, hclosed, htsound, hst, hreport, hcounters, honly⟩ :=
      (State.grants_iff.mp hg).serviceClose (code := 0x31#8) (v := false) hsound (by decide) rfl
    rw [Bool.or_false] at hclosed
    obtain ⟨-, -, -, hrows, himages⟩ := htsound
    refine ⟨t, congrArg Host.Outcome.next ht, hservice, hclosed, fun hnormal _ _ => ?_, himages, hreport, hcounters, honly⟩
    rw [hrows, if_pos (hst.trans hnormal)]

/-! ### The row of a class (R94, R97..R99) -/

theorem bestCandidate_eq_none {l : List Candidate} : bestCandidate l = none ↔ l = [] := by
  cases l with
  | nil => simp [bestCandidate]
  | cons c cs =>
    rw [bestCandidate]
    cases bestCandidate cs with
    | none => simp
    | some d =>
      dsimp only
      split <;> simp

/-- The candidate chosen is one of them, and none comes before it (R99). -/
theorem bestCandidate_best {l : List Candidate} {b : Candidate} (h : bestCandidate l = some b) : b ∈ l ∧
    ∀ x ∈ l, b.cost < x.cost ∨ (b.cost = x.cost ∧ (x.free < b.free ∨ (x.free = b.free ∧
      (b.exit < x.exit ∨ (b.exit = x.exit ∧ b.address ≤ x.address))))) := by
  induction l generalizing b with
  | nil => cases h
  | cons c cs ih =>
    rw [bestCandidate] at h
    cases hcs : bestCandidate cs with
    | none =>
      rw [hcs] at h
      obtain rfl := Option.some.inj h
      simp [bestCandidate_eq_none.mp hcs]
    | some d =>
      rw [hcs] at h
      dsimp only at h
      obtain ⟨hmem, hbest⟩ := ih hcs
      rw [List.forall_mem_cons]
      split at h <;> obtain rfl := Option.some.inj h <;> rename_i hbefore <;>
        simp only [Candidate.better, Bool.or_eq_true, Bool.and_eq_true, decide_eq_true_eq] at hbefore
      · refine ⟨List.mem_cons_self, by omega, fun x hx => ?_⟩
        have := hbest x hx
        omega
      · exact ⟨List.mem_cons_of_mem _ hmem, by omega, hbest⟩

/-- What makes an entry a candidate (R98). -/
theorem Peer.candidate_eq_some {p : Peer} {own penalty : Nat} {g : GuidedClass} {x : Candidate}
    (h : p.candidate own penalty g = some x) : x.cost < 15 ∧ p.address = x.address ∧ p.state = .fresh ∧
      p.heard.closed = some false ∧ p.drive?.isSome = true := by
  unfold Peer.candidate at h
  split at h
  · rename_i horigin hstate hclosed _
    split at h
    · rename_i hdrive
      dsimp only at h
      split at h
      · rename_i hmet
        obtain rfl := Option.some.inj h
        exact ⟨hmet.2.2, rfl, hstate, hclosed, by simp [Peer.drive?, Peer.static?, horigin, hdrive]⟩
      · cases h
    · cases h
  · cases h

theorem Peer.candidate_of_drive {p : Peer} {c : StaticSettings} {d : DriveSettings} {a : Adverts}
    (horigin : p.origin = .static c) (hdrive : c.drive = some d) (hadverts : p.heard.adverts = some a)
    (hstate : p.state = .fresh) (hclosed : p.heard.closed = some false) (own penalty : Nat) (g : GuidedClass) :
    p.candidate own penalty g =
      if (a.get g).cost < 15 ∧ (a.get g).via ≠ own ∧ (a.get g).cost + d.linkCost + penalty < 15
      then some { cost := (a.get g).cost + d.linkCost + penalty, free := (a.get g).free, exit := d.exit
                  address := p.address }
      else none := by
  simp [Peer.candidate, horigin, hstate, hclosed, hadverts, hdrive]

theorem State.mem_candidates {s : State} {g : GuidedClass} {x : Candidate} : x ∈ s.candidates g ↔
    ∃ p ∈ s.peers.slots.filterMap id, p.candidate s.settings.ownAddress s.penalty g = some x := by
  simp only [State.candidates, List.mem_filterMap, Option.bind_eq_some_iff, id]
  constructor
  · rintro ⟨slot, hslot, p, rfl, hp⟩
    exact ⟨p, ⟨_, hslot, rfl⟩, hp⟩
  · rintro ⟨p, ⟨slot, hslot, rfl⟩, hp⟩
    exact ⟨_, hslot, p, rfl, hp⟩

/-- Settles O34: the row case by case, and who is a candidate. -/
theorem routeChoiceFollowsTheRules : Obligations.RouteChoiceFollowsTheRules := by
  intro s g p c d a
  refine ⟨fun hc => if_pos hc, fun hc hfree => ?_, fun hc hfree hnone => ?_, fun hc hfree hsome => ?_, fun x hx => ?_,
    fun hp horigin hdrive hadverts hstate hclosed => ⟨Peer.candidate_of_drive horigin hdrive hadverts hstate hclosed _ _ _, ?_⟩⟩
  · simp [State.evaluateRow, hc, hfree, State.penalty]
  · simp [State.evaluateRow, hc, hfree, hnone, bestCandidate]
  · obtain ⟨b, hb⟩ := Option.ne_none_iff_exists'.mp (mt bestCandidate_eq_none.mp hsome)
    obtain ⟨hmem, hbest⟩ := bestCandidate_best hb
    exact ⟨b, hmem, by simp [State.evaluateRow, hc, hfree, hb], hbest⟩
  · obtain ⟨q, hq, hcandidate⟩ := State.mem_candidates.mp hx
    obtain ⟨hcost, haddress, hstate, hclosed, hdrive⟩ := Peer.candidate_eq_some hcandidate
    exact ⟨hcost, q, hq, haddress, hstate, hclosed, hdrive⟩
  · rw [Option.all_eq_true]
    intro x hx
    exact decide_eq_true (State.mem_candidates.mpr ⟨p, mem_entriesOf.mpr hp, hx⟩)

/-! ### Sign images (R103, R104) -/

/-- The digits of a COUNT image read as the number, at most 999, with no leading zero (R104). -/
theorem SignImage.ofCount_digits (n : Nat) (arrow : Option Arrow) :
    100 * (SignImage.ofCount n arrow).hundreds.getD 0 + 10 * (SignImage.ofCount n arrow).tens.getD 0 +
      (SignImage.ofCount n arrow).units.getD 0 = min n 999 ∧
    ((SignImage.ofCount n arrow).hundreds = none ↔ n < 100) ∧ ((SignImage.ofCount n arrow).tens = none ↔ n < 10) ∧
    (SignImage.ofCount n arrow).units ≠ none ∧ (SignImage.ofCount n arrow).hundreds.getD 0 ≤ 9 ∧
    (SignImage.ofCount n arrow).tens.getD 0 ≤ 9 ∧ (SignImage.ofCount n arrow).units.getD 0 ≤ 9 := by
  simp only [SignImage.ofCount]
  generalize hm : min n 999 = m
  have hbound : m ≤ 999 := by omega
  by_cases hhundreds : m < 100 <;> by_cases htens : m < 10 <;> simp [hhundreds, htens] <;> omega

/-- Settles O35: the table of images, and the digits of a number. -/
theorem signImagesShowTheNumber : Obligations.SignImagesShowTheNumber := by
  intro s g n arrow
  refine ⟨State.signImage_of_ne_normal (g := g), fun hst hc => ?_, fun hst hc => ⟨fun hm => ?_, fun hm => ?_, fun hm hcost => ?_,
    fun hm hcost q hq hexit => ?_⟩, rfl, rfl, SignImage.ofCount_digits n arrow⟩
  · simp [State.signImage, hst, hc]
  · simp [State.signImage, hst, hc, hm]
  · simp [State.signImage, hst, hc, hm]
  · simp [State.signImage, hst, hc, hm, hcost]
  · simp only [List.mem_cons, List.not_mem_nil, or_false] at hq
    rcases hq with rfl | rfl | rfl | rfl | rfl <;> simp [State.signImage, hst, hc, hm, hcost, hexit, SignSettings.arrow]

end Sys2Proof.Machine
end

section
/-! PROOFS. The sign link (R106, R107, R108, R112, R144). -/

namespace Sys2Proof.Machine

/-! ### Bytes of a number and of a half -/

theorem halfFrom_halfBytes (h : Half) : halfFrom (highByte h) (lowByte h) = h := by
  refine BitVec.eq_of_getLsbD_eq fun i hi => ?_
  unfold halfFrom highByte lowByte
  rw [BitVec.getLsbD_append, BitVec.getLsbD_extractLsb', BitVec.getLsbD_extractLsb']
  by_cases hlow : i < 8
  · simp [hlow]
  · have hsum : 8 + (i - 8) = i := by omega
    have hrange : i - 8 < 8 := by omega
    simp [hlow, hsum, hrange]

theorem byteOf_toNat {n : Nat} (h : n ≤ 255) : (byteOf n).toNat = n := by
  rw [byteOf, BitVec.toNat_ofNat]
  exact Nat.mod_eq_of_lt (by omega)

/-- An answer sent is read as it was meant (R144). -/
theorem signAnswerOf_characters {n : Nat} (h : n ≤ 255) (status : SignStatus) :
    signAnswerOf (signAnswerCharacters n status) = some (n, status) := by
  cases status <;>
    simp [signAnswerCharacters, signAnswerBytes, halfBytes, signAnswerOf, halfFrom_halfBytes, byteOf_toNat h]

/-! ### Refreshes and exchanges (R106, R107) -/

/-- In an ascending list the first of a kind has the least number of its kind. -/
theorem find?_least {α : Type} {key : α → Nat} {l : List α} (h : Ascending (l.map key)) {p : α → Bool} {x : α}
    (hx : l.find? p = some x) : ∀ y ∈ l, p y = true → key x ≤ key y := by
  induction l with
  | nil => cases hx
  | cons z zs ih =>
    rw [List.map_cons, Ascending, List.pairwise_cons] at h
    obtain ⟨hless, hrest⟩ := h
    rw [List.forall_mem_cons]
    by_cases hz : p z = true
    · rw [List.find?_cons_of_pos hz] at hx
      obtain rfl := Option.some.inj hx
      exact ⟨fun _ => le_refl _, fun y hy _ => (hless _ (List.mem_map_of_mem hy)).le⟩
    · rw [List.find?_cons_of_neg hz] at hx
      exact ⟨fun hp => absurd hp hz, ih hrest hx⟩

/-- The next due sign is due and comes first in cyclic order after the sign last served (R107). -/
theorem Guidance.nextDue_first {g : Guidance} (hasc : Ascending (g.signs.map (fun x => x.settings.number))) {x : Sign}
    (h : g.nextDue = some x) : x ∈ g.signs ∧ x.due = true ∧ ∀ y ∈ g.signs, y.due = true →
      (g.lastServed < x.settings.number ∧ (y.settings.number ≤ g.lastServed ∨ x.settings.number ≤ y.settings.number)) ∨
      (x.settings.number ≤ g.lastServed ∧ y.settings.number ≤ g.lastServed ∧ x.settings.number ≤ y.settings.number) := by
  have hdue : Ascending ((g.signs.filter Sign.due).map (fun y => y.settings.number)) :=
    List.Pairwise.sublist (List.filter_sublist.map _) hasc
  unfold Guidance.nextDue at h
  dsimp only at h
  split at h
  · rename_i z hfound
    obtain rfl := Option.some.inj h
    obtain ⟨hmem, hisdue⟩ := List.mem_filter.mp (List.mem_of_find?_eq_some hfound)
    have hafter : g.lastServed < z.settings.number := by simpa using List.find?_some hfound
    refine ⟨hmem, hisdue, fun y hy hydue => .inl ⟨hafter, ?_⟩⟩
    by_cases hy' : y.settings.number ≤ g.lastServed
    · exact .inl hy'
    · exact .inr (find?_least hdue hfound y (List.mem_filter.mpr ⟨hy, hydue⟩) (by simpa using hy'))
  · rename_i hnone
    rw [List.find?_eq_none] at hnone
    have hbefore (y : Sign) (hy : y ∈ g.signs) (hydue : y.due = true) : y.settings.number ≤ g.lastServed := by
      simpa using hnone y (List.mem_filter.mpr ⟨hy, hydue⟩)
    have hhead : (g.signs.filter Sign.due).find? (fun _ => true) = some x := by
      cases hl : g.signs.filter Sign.due with
      | nil => rw [hl] at h; cases h
      | cons z zs => rw [hl] at h; exact h
    obtain ⟨hmem, hisdue⟩ := List.mem_filter.mp (List.mem_of_find?_eq_some hhead)
    exact ⟨hmem, hisdue, fun y hy hydue => .inr ⟨hbefore x hmem hisdue, hbefore y hy hydue,
      find?_least hdue hhead y (List.mem_filter.mpr ⟨hy, hydue⟩) rfl⟩⟩

theorem Guidance.nextDue_eq_none {g : Guidance} : g.nextDue = none ↔ ∀ x ∈ g.signs, x.due = false := by
  unfold Guidance.nextDue
  dsimp only
  split
  · rename_i z hfound
    obtain ⟨hmem, hisdue⟩ := List.mem_filter.mp (List.mem_of_find?_eq_some hfound)
    simp only [reduceCtorEq, false_iff, not_forall]
    exact ⟨z, hmem, by simp [hisdue]⟩
  · simp

/-- Settles O36: the refresh, the exchange of the next due sign, and when none begins. -/
theorem signExchangeServesTheNextDueSign : Obligations.SignExchangeServesTheNextDueSign := by
  intro s g hw hasc
  refine ⟨fun hg hr => ?_, fun hfree hdue => ?_, fun hno => ?_⟩
  · have hsign : s.guide.sign? g.settings.number = some g :=
      find?_of_nodup (key := fun x : Sign => x.settings.number) hasc.nodup hg
    exact ⟨s.setGuide (s.guide.mapSign g.settings.number (fun x => { x with due := true, refresh := none })),
      by simp [exec, execSignRefreshTimerExpiry, hw, hsign, hr], rfl, by simp [onlyChanges_iff]⟩
  · have hsome : s.guide.nextDue ≠ none := fun hnone => by
      obtain ⟨x, hx, hxdue⟩ := hdue
      rw [Guidance.nextDue_eq_none.mp hnone x hx] at hxdue
      cases hxdue
    obtain ⟨x, hx⟩ := Option.ne_none_iff_exists'.mp hsome
    obtain ⟨hmem, hxdue, hfirst⟩ := Guidance.nextDue_first hasc hx
    refine ⟨s.setGuide { s.guide.mapSign x.settings.number (fun y => { y with due := false, refresh := some 5000 }) with
      lastServed := x.settings.number, exchange := some (Exchange.begin x.settings.number x.image) }, ?_,
      ⟨x, hmem, hxdue, hfirst, rfl⟩, by simp [onlyChanges_iff]⟩
    simp [exec, execSignExchangeStart, hw, hfree, hx]
  · refine ⟨s, ?_, rfl⟩
    rcases hno with hnone | hbusy
    · simp [exec, execSignExchangeStart, Guidance.nextDue_eq_none.mpr hnone]
    · obtain ⟨e, he⟩ := Option.ne_none_iff_exists'.mp hbusy
      simp [exec, execSignExchangeStart, he]

/-! ### Answers and misses (R108, R112, R144) -/

theorem Guidance.sendFallback_eq (g : Guidance) : g.sendFallback = { g with
    exchange := g.fallbackDue.head?.map (fun n => { sign := n, frame := signFrameBytes n .blank, window := 56, received := [] })
    fallbackDue := g.fallbackDue.tail } := by
  unfold Guidance.sendFallback
  split <;> simp [*, Exchange.begin, exchangeWindow, answerWindow]

theorem Sign.missed_eq (g : Sign) : g.missed = { g with
    misses := if g.misses < 3 then g.misses + 1 else 3, faultMark := g.faultMark || decide (2 ≤ g.misses) } := by
  have hthird : saturatingSucc 3 g.misses = 3 ↔ 2 ≤ g.misses := by
    unfold saturatingSucc
    split <;> omega
  simp only [Sign.missed, hthird]
  rfl

section
variable {s : State} {e : Exchange} (he : s.guide.exchange = some e) (hwindow : e.window ≤ 50) {characters : List RxChar}
include he hwindow

/-- Characters that are no answer yet of the sign addressed are gathered (R108, R144). -/
theorem exec_signAnswer_gathered (hanswer : (e.receive characters).answer = none) :
    exec (.signAnswer characters) s = .next (s.setGuide { s.guide with exchange := some (e.receive characters) }) := by
  have hlistens : e.listens = true := decide_eq_true hwindow
  simp [exec, execSignAnswer, he, hlistens, hanswer]

/-- A taken answer ends the exchange (R108, R112). -/
theorem exec_signAnswer_taken {status : SignStatus} (hanswer : (e.receive characters).answer = some status) :
    exec (.signAnswer characters) s = .next (if s.station = .fallback then s.setGuide s.guide.sendFallback
      else s.setGuide { s.guide.mapSign e.sign (fun g => g.answered status) with exchange := none }) := by
  have hlistens : e.listens = true := decide_eq_true hwindow
  simp only [exec, execSignAnswer, he, hlistens, if_true, hanswer]
  split <;> rfl

end

theorem Exchange.answer_of_characters {e : Exchange} {characters : List RxChar} {n : Nat} {status : SignStatus} (hn : n ≤ 255)
    (h : (e.received ++ characters).take 5 = signAnswerCharacters n status) :
    (e.receive characters).answer = if n = e.sign then some status else none := by
  simp [Exchange.answer, Exchange.receive, h, signAnswerOf_characters hn]

/-- Settles O37: characters, the window's end, and the BLANK frames of FALLBACK. -/
theorem signAnswersAndMisses : Obligations.SignAnswersAndMisses := by
  intro s e status characters other
  refine ⟨fun he => ⟨s, by simp [exec, execSignAnswer, he], rfl⟩, fun he hwindow => ⟨s, ?_, rfl⟩,
    fun he hst hwindow hsign h => ?_, fun he hwindow hsign hother hne h => ?_, fun he hst hwindow hsign h => ?_,
    fun he hwindow h => ?_, fun he hst => ?_, fun he hst => ?_, fun hst => ?_⟩
  · have hlistens : e.listens = false := decide_eq_false (Nat.not_le.mpr hwindow)
    simp [exec, execSignAnswer, he, hlistens]
  · have hanswer := (Exchange.answer_of_characters (by omega) h).trans (if_pos rfl)
    refine ⟨_, (exec_signAnswer_taken he hwindow hanswer).trans (congrArg Host.Outcome.next (if_pos hst)),
      Guidance.sendFallback_eq _, by simp [onlyChanges_iff]⟩
  · have hanswer := (Exchange.answer_of_characters hother h).trans (if_neg hne)
    exact ⟨_, exec_signAnswer_gathered he hwindow hanswer, rfl, by simp [onlyChanges_iff]⟩
  · have hanswer := (Exchange.answer_of_characters (by omega) h).trans (if_pos rfl)
    exact ⟨_, (exec_signAnswer_taken he hwindow hanswer).trans (congrArg Host.Outcome.next (if_neg hst)), rfl,
      by simp [onlyChanges_iff]⟩
  · have hanswer : (e.receive characters).answer = none := by simp [Exchange.answer, Exchange.receive, h]
    exact ⟨_, exec_signAnswer_gathered he hwindow hanswer, rfl, by simp [onlyChanges_iff]⟩
  · refine ⟨(s.setGuide { s.guide.mapSign e.sign Sign.missed with exchange := none }).count .signMiss,
      by simp [exec, execSignAnswerWindowExpiry, he, hst], ?_, rfl, by simp [onlyChanges_iff]⟩
    simp [Guidance.mapSign, Sign.missed_eq]
  · exact ⟨s.setGuide s.guide.sendFallback, by simp [exec, execSignAnswerWindowExpiry, he, hst],
      Guidance.sendFallback_eq _, by simp [onlyChanges_iff]⟩
  · cases he : s.guide.exchange with
    | none =>
      refine ⟨s.setGuide ({ s.guide with fallbackTimer := some 5000, fallbackDue := [1, 2, 3, 4] } : Guidance).sendFallback, ?_,
        fun _ => rfl, fun h => absurd rfl h, by simp [onlyChanges_iff]⟩
      simp only [exec, execFallbackSignTimerExpiry, if_pos hst, he]
    | some x =>
      refine ⟨s.setGuide { s.guide with fallbackTimer := some 5000, fallbackDue := [1, 2, 3, 4] }, ?_,
        fun h => (by cases h), fun _ => rfl, by simp [onlyChanges_iff]⟩
      simp only [exec, execFallbackSignTimerExpiry, if_pos hst, he]

end Sys2Proof.Machine
end

section
/-! PROOFS. Motion, dimming and light overrides (R116..R125). -/

namespace Sys2Proof.Machine

/-! ### Motion (R116..R118) -/

theorem ne_zero_of_inputAt? {l : List FilteredInput} {n : Nat} {i : FilteredInput} (h : inputAt? l n = some i) : n ≠ 0 := by
  rintro rfl
  cases h

theorem filteredAt_of_some {l : List FilteredInput} {n : Nat} {i : FilteredInput} (h : inputAt? l n = some i) :
    filteredAt l n = i.filtered := by
  simp [filteredAt, h]

/-- A motion input's channels come up and its repeat timer starts (R116, R117). -/
theorem State.presence_setRepeat_light (s : State) {n : Nat} (hn : n ≠ 0) (t : Timer) :
    ((s.presence (s.light.motionSet n)).setRepeat n t).light = { s.light with
      channels := s.light.raised (s.light.motionSets.getD (n - 1) 0#8)
      repeatTimers := s.light.repeatTimers.set (n - 1) t } := by
  simp [State.setRepeat, hn, State.presence, Lighting.raised, Channel.presence_eq_raised, Lighting.motionSet]

/-- Settles O38: the input becoming active, becoming inactive, and repeating. -/
theorem motionRaisesItsChannels : Obligations.MotionRaisesItsChannels := by
  intro s n i hw hi
  have hn := ne_zero_of_inputAt? hi
  refine ⟨fun hoff => ?_, fun hon => ?_, fun hon => ?_⟩
  · set taken := s.setInputs { s.inputs with motion := takeAt s.inputs.motion n true } with htaken
    refine ⟨(taken.presence (taken.light.motionSet n)).setRepeat n (some 5000), ?_, ?_, ?_, by simp [onlyChanges_iff, htaken]⟩
    · simp [exec, execMotionChange, hw, hi, hoff, htaken]
    · simp [htaken, takeAt_of_some hi]
    · exact taken.presence_setRepeat_light hn _
  · refine ⟨(s.setInputs { s.inputs with motion := takeAt s.inputs.motion n false }).setRepeat n none, ?_, ?_, ?_,
      by simp [onlyChanges_iff]⟩
    · simp [exec, execMotionChange, hw, hi, hon]
    · simp [takeAt_of_some hi]
    · simp [State.setRepeat, hn]
  · refine ⟨(s.presence (s.light.motionSet n)).setRepeat n (some 5000), ?_, s.presence_setRepeat_light hn _,
      by simp [onlyChanges_iff]⟩
    simp [exec, execMotionRepeatTimerExpiry, hw, filteredAt_of_some hi, hon]

/-! ### Hold and dim expiries (R119..R121) -/

theorem State.LightingSound.legal {s : State} (h : s.LightingSound) {c : Channel} (hc : c ∈ s.light.channels) : c.legal = true := by
  obtain ⟨-, -, -, -, hlegal, -⟩ := h
  exact hlegal c hc

theorem State.LightingSound.channel?_of_mem {s : State} (h : s.LightingSound) {c : Channel} (hc : c ∈ s.light.channels) :
    s.light.channel? c.number = some c := by
  obtain ⟨hnumbers, -⟩ := h
  exact find?_of_nodup (by rw [hnumbers]; decide) hc

/-- Changing the channel of a number changes the one record found (R113). -/
theorem State.LightingSound.mapChannel_eq {s : State} (h : s.LightingSound) {c : Channel} (hc : c ∈ s.light.channels)
    (f : Channel → Channel) : s.light.mapChannel c.number f =
      { s.light with channels := s.light.channels.map (fun x => if x.number = c.number then f c else x) } := by
  have hsame : s.light.channels.map (fun x => if x.number = c.number then f x else x) =
      s.light.channels.map (fun x => if x.number = c.number then f c else x) := by
    refine List.map_congr_left fun x hx => ?_
    split
    · rw [h.eq_of_channel? (h.channel?_of_mem hc) hx ‹_›]
    · rfl
  rw [Lighting.mapChannel, hsame]

theorem Channel.holdExpires_eq {c : Channel} (hlegal : c.legal = true) (hs : c.state = .active) : c.holdExpires =
    if c.settings.sleep = false then { c with hold := none }
    else if c.settings.dimMode = .step ∨ c.output = c.settings.idle then
      { c with state := .idle, output := c.settings.idle, hold := none }
    else { c with state := .dimming, hold := none, dim := some 1000 } := by
  simp only [Channel.legal, hs, decide_eq_true_eq] at hlegal
  obtain ⟨-, hdim, -⟩ := hlegal
  unfold Channel.holdExpires
  cases hsleep : c.settings.sleep
  · rfl
  · cases hmode : c.settings.dimMode
    · simp [Channel.toIdle, hdim]
    · by_cases hlevel : c.output = c.settings.idle <;> simp [Channel.toIdle, hdim, hlevel]

/-- How far the output is from the idle level. -/
def Channel.distance (c : Channel) : Nat := (c.output - c.settings.idle) + (c.settings.idle - c.output)

theorem Channel.distance_eq (c : Channel) : c.distance =
    if c.settings.idle < c.output then c.output - c.settings.idle else c.settings.idle - c.output := by
  unfold Channel.distance
  split <;> omega

theorem Channel.slewStep_eq_idle (c : Channel) : c.slewStep = c.settings.idle ↔ c.distance ≤ c.settings.slew := by
  unfold Channel.slewStep Channel.distance
  split <;> omega

/-- The dim timer of a DIMMING channel expires: IDLE within one step, else one step on (R121). -/
theorem Channel.dimExpires_eq {c : Channel} (hhold : c.hold = none) : c.dimExpires =
    if c.distance ≤ c.settings.slew then { c with state := .idle, output := c.settings.idle, dim := none }
    else { c with output := if c.settings.idle < c.output then c.output - c.settings.slew else c.output + c.settings.slew
                  dim := some 1000 } := by
  unfold Channel.dimExpires
  by_cases hnear : c.distance ≤ c.settings.slew
  · rw [if_pos (c.slewStep_eq_idle.mpr hnear), if_pos hnear]
    simp [Channel.toIdle, hhold]
  · have hstep : c.slewStep =
        if c.settings.idle < c.output then c.output - c.settings.slew else c.output + c.settings.slew := by
      unfold Channel.distance at hnear
      unfold Channel.slewStep
      split <;> omega
    rw [if_neg (mt c.slewStep_eq_idle.mp hnear), if_neg hnear, hstep]

/-- A dim step that does not reach the idle level brings the channel nearer by one slew step (R121). -/
theorem Channel.dimExpires_nearer {c : Channel} (hhold : c.hold = none) (hfar : ¬ c.distance ≤ c.settings.slew) :
    c.dimExpires = { c with output := c.dimExpires.output, dim := some 1000 } ∧
      c.dimExpires.distance = c.distance - c.settings.slew := by
  rw [Channel.dimExpires_eq hhold, if_neg hfar]
  refine ⟨rfl, ?_⟩
  unfold Channel.distance at hfar ⊢
  dsimp only
  split <;> omega

theorem ceilDiv_near {a b : Nat} (ha : 1 ≤ a) (hab : a ≤ b) : ceilDiv a b = 1 := by
  unfold ceilDiv
  exact Nat.div_eq_of_lt_le (by omega) (by omega)

theorem ceilDiv_far {a b : Nat} (hb : 1 ≤ b) (hab : b < a) : ceilDiv a b = ceilDiv (a - b) b + 1 := by
  unfold ceilDiv
  have hsum : a + b - 1 = (a - b + b - 1) + b := by omega
  rw [hsum, Nat.add_div_right _ hb]

/-- A DIMMING channel reaches IDLE in as many dim steps as its distance takes, and not before (R121). -/
theorem Channel.dims (n : Nat) : ∀ c : Channel, c.state = .dimming → c.hold = none → 1 ≤ c.distance → 1 ≤ c.settings.slew →
    ceilDiv c.distance c.settings.slew = n →
      Channel.dimExpires^[n] c = { c with state := .idle, output := c.settings.idle, dim := none } ∧
        ∀ k < n, (Channel.dimExpires^[k] c).state = .dimming := by
  induction n with
  | zero =>
    intro c hs hhold hdist hslew hn
    by_cases hnear : c.distance ≤ c.settings.slew
    · rw [ceilDiv_near hdist hnear] at hn
      cases hn
    · rw [ceilDiv_far hslew (Nat.not_le.mp hnear)] at hn
      cases hn
  | succ n ih =>
    intro c hs hhold hdist hslew hn
    by_cases hnear : c.distance ≤ c.settings.slew
    · obtain rfl : n = 0 := by
        rw [ceilDiv_near hdist hnear] at hn
        omega
      refine ⟨?_, fun k hk => ?_⟩
      · rw [Function.iterate_one, Channel.dimExpires_eq hhold, if_pos hnear]
      · obtain rfl : k = 0 := by omega
        exact hs
    · obtain ⟨hnext, hcloser⟩ := Channel.dimExpires_nearer hhold hnear
      have hsettings : c.dimExpires.settings = c.settings := by rw [hnext]
      have hsteps : ceilDiv c.dimExpires.distance c.dimExpires.settings.slew = n := by
        rw [ceilDiv_far hslew (Nat.not_le.mp hnear)] at hn
        rw [hcloser, hsettings]
        omega
      obtain ⟨hidle, hbefore⟩ := ih c.dimExpires (by rw [hnext]; exact hs) (by rw [hnext]; exact hhold)
        (by rw [hcloser]; omega) (by rw [hsettings]; exact hslew) hsteps
      refine ⟨?_, fun k hk => ?_⟩
      · rw [Function.iterate_succ_apply, hidle, hsettings, hnext]
      · cases k with
        | zero => exact hs
        | succ k => exact hbefore k (by omega)

/-- Settles O39: the hold timer, the dim timer, and the number of dim steps. -/
theorem holdAndDimExpiries : Obligations.HoldAndDimExpiries := by
  intro s c k hw hc hsound
  have hchannel := hsound.channel?_of_mem hc
  have hlegal := hsound.legal hc
  refine ⟨fun hs hhold => ?_, fun hs => ?_, fun hs hne hslew => ?_⟩
  · refine ⟨s.setLight (s.light.mapChannel c.number Channel.holdExpires), ?_, ?_, by simp [onlyChanges_iff]⟩
    · simp [exec, execChannelHoldTimerExpiry, hw, hchannel, hs, hhold]
    · rw [State.setLight_light, hsound.mapChannel_eq hc, Channel.holdExpires_eq hlegal hs]
  all_goals
    simp only [Channel.legal, hs, decide_eq_true_eq] at hlegal
    obtain ⟨hhold, hdim, -⟩ := hlegal
  · refine ⟨s.setLight (s.light.mapChannel c.number Channel.dimExpires), ?_, ?_, by simp [onlyChanges_iff]⟩
    · simp [exec, execDimTimerExpiry, hw, hchannel, hs, hdim]
    · rw [State.setLight_light, hsound.mapChannel_eq hc, Channel.dimExpires_eq hhold, Channel.distance_eq]
  · obtain ⟨hidle, hbefore⟩ := Channel.dims _ c hs hhold (by unfold Channel.distance; omega) hslew rfl
    exact ⟨hidle, hbefore k⟩

/-! ### Light overrides (R124, R125) -/

theorem Channel.setOverride_eq (c : Channel) (o : LightOverride) : c.setOverride o =
    if c.state = .forced then { c with override := some o }
    else { c with state := .overridden, output := o.level, hold := none, dim := none, override := some o } := by
  cases hs : c.state <;> simp [Channel.setOverride, hs]

/-- A present override ends: a FORCED channel stays so, an OVERRIDDEN one returns to ACTIVE (R125). -/
theorem Channel.endOverride_present {c : Channel} (hlegal : c.legal = true) (ho : c.override ≠ none) : c.endOverride =
    if c.state = .forced then { c with override := none }
    else { c with state := .active, output := c.settings.active, hold := some (1000 * c.settings.holdSeconds)
                  override := none } := by
  obtain ⟨o, ho⟩ := Option.ne_none_iff_exists'.mp ho
  cases hs : c.state <;> simp [Channel.legal, hs, ho] at hlegal <;>
    simp [Channel.endOverride, ho, hs, Channel.activate, seconds_eq, hlegal]

theorem Channel.endOverride_absent {c : Channel} (ho : c.override = none) : c.endOverride = c := by
  simp [Channel.endOverride, ho]

/-- The channels an argument names, 0 naming all (R124, R125). -/
theorem Lighting.mapNamed_eq (l : Lighting) (ch : Byte) (f : Channel → Channel) : l.mapNamed ch.toNat f =
    { l with channels := l.channels.map (fun x => if ch = 0#8 ∨ x.number = ch.toNat then f x else x) } := by
  unfold Lighting.mapNamed Lighting.mapChannel
  by_cases hch : ch = 0#8
  · simp [hch]
  · have hne : ch.toNat ≠ 0 := fun h => hch (BitVec.eq_of_toNat_eq h)
    simp [hch, hne]

/-- A granted command on the lights that is DONE (R124, R125). -/
theorem State.Granted.lights {s : State} {source destination code : Byte} {args : List Byte}
    (h : s.Granted source destination) (hargs : args.length ≤ 47) (hcode : code ≠ restartCode) {l : Lighting}
    (he : executeCommand code args s.frameAccepted = .did (s.frameAccepted.setLight l)) :
    ∃ t, s.commandFrame source destination code args = t ∧ t.light = l ∧
      t.bus.queues = { s.bus.queues with report := s.reportsWith source code 0#8 [] } ∧ t.counters = s.countersAccepted ∧
      OnlyChanges [.light, .bus, .counters] s t := by
  refine ⟨_, h.did hargs hcode he, by simp, ?_, by simp, by simp [onlyChanges_iff]⟩
  rw [State.reporting, State.join_queues]
  rfl

/-- Settles O40: the two commands on the channels named, and the override's expiry. -/
theorem lightOverridesSetAndEnd : Obligations.LightOverridesSetAndEnd := by
  intro s source destination ch lvl m c hsound
  refine ⟨fun hg hch hlvl hm => ?_, fun hg hch => ?_, fun hw hc ho => ?_, fun hc ho => ?_⟩
  · have he : executeCommand 0x40#8 [ch, lvl, m] s.frameAccepted = .did (s.frameAccepted.setLight
        (s.light.mapNamed ch.toNat (fun c => c.setOverride { level := lvl.toNat, limit := limitOfMinutes m.toNat }))) := by
      change setLightOverride [ch, lvl, m] s.frameAccepted = _
      simp [setLightOverride, hch, hlvl, hm]
    obtain ⟨t, ht, hlight, hrest⟩ := (State.grants_iff.mp hg).lights (by simp) (by decide) he
    refine ⟨t, congrArg Host.Outcome.next ht, ?_, hrest⟩
    rw [hlight, Lighting.mapNamed_eq, ← limitOfMinutes_byte]
    simp only [Channel.setOverride_eq]
  · have he : executeCommand 0x41#8 [ch] s.frameAccepted = .did (s.frameAccepted.setLight
        (s.light.mapNamed ch.toNat Channel.endOverride)) := by
      change clearLightOverride [ch] s.frameAccepted = _
      simp [clearLightOverride, hch]
    obtain ⟨t, ht, hlight, hrest⟩ := (State.grants_iff.mp hg).lights (by simp) (by decide) he
    refine ⟨t, congrArg Host.Outcome.next ht, ?_, hrest⟩
    have hends : s.light.channels.map (fun x => if ch = 0#8 ∨ x.number = ch.toNat then x.endOverride else x) =
        s.light.channels.map (fun x =>
          if (ch = 0#8 ∨ x.number = ch.toNat) ∧ x.override ≠ none then
            if x.state = .forced then { x with override := none }
            else { x with state := .active, output := x.settings.active
                          hold := some (1000 * x.settings.holdSeconds), override := none }
          else x) := by
      refine List.map_congr_left fun x hx => ?_
      by_cases hnamed : ch = 0#8 ∨ x.number = ch.toNat
      · by_cases ho : x.override = none
        · rw [if_pos hnamed, if_neg (by simp [ho]), Channel.endOverride_absent ho]
        · rw [if_pos hnamed, if_pos ⟨hnamed, ho⟩, Channel.endOverride_present (hsound.legal hx) ho]
      · rw [if_neg hnamed, if_neg fun h => hnamed h.1]
    rw [hlight, Lighting.mapNamed_eq, hends]
  · obtain ⟨o, hsome, hruns⟩ := (Option.any_eq_true _ _).mp ho
    refine ⟨s.setLight (s.light.mapChannel c.number Channel.endOverride), ?_, ?_, by simp [onlyChanges_iff]⟩
    · simp [exec, execLightOverrideExpiry, hw, hsound.channel?_of_mem hc, hsome, hruns]
    · rw [State.setLight_light, hsound.mapChannel_eq hc, Channel.endOverride_present (hsound.legal hc) (by simp [hsome])]
  · refine ⟨s, ?_, rfl⟩
    cases hw : s.working with
    | false => simp [exec, execLightOverrideExpiry, hw]
    | true =>
      cases hover : c.override with
      | none => simp [exec, execLightOverrideExpiry, hw, hsound.channel?_of_mem hc, hover]
      | some o =>
        have hruns : o.limit.runs = false := by simpa [hover] using ho
        simp [exec, execLightOverrideExpiry, hw, hsound.channel?_of_mem hc, hover, hruns]

end Sys2Proof.Machine
end

section
/-! PROOFS. The character receiver, sample by sample (R129, R130, R131). -/

namespace Sys2Proof.Machine

namespace SampleReceiver

/-! ### Runs of samples -/

theorem run_append (r : SampleReceiver) (as bs : List LineLevel) :
    r.run (as ++ bs) = ((r.run as).1.run bs |>.1, (r.run as).2 ++ ((r.run as).1.run bs).2) := by
  induction as generalizing r with
  | nil => rfl
  | cons a as ih => simp [run, ih, List.append_assoc]

theorem run_append_of {r r' r'' : SampleReceiver} {as bs : List LineLevel} {cs ds : List RxChar} (h : r.run as = (r', cs))
    (k : r'.run bs = (r'', ds)) : r.run (as ++ bs) = (r'', cs ++ ds) := by
  rw [run_append, h, k]

theorem idleAfter_append (r : SampleReceiver) (count : Nat) (as bs : List LineLevel) :
    r.idleAfter count (as ++ bs) = (r.run as).1.idleAfter (r.idleAfter count as) bs := by
  induction as generalizing r count with
  | nil => rfl
  | cons a as ih => simp [run, idleAfter, ih]

/-! ### One bit (R130) -/

theorem run_start : (hunting .mark).run (List.replicate 16 .space) = (receiving 15 [], []) := rfl

/-- The sixteen samples of bit `j`, a data bit or the parity bit, add that bit. -/
theorem run_bit {j : Nat} (hlow : 1 ≤ j) (hhigh : j ≤ 9) (bits : List LineLevel) (l : LineLevel) :
    (receiving (16 * j - 1) bits).run (List.replicate 16 l) = (receiving (16 * j + 15) (bits ++ [l]), []) := by
  interval_cases j <;> rfl

theorem idleAfter_bit {j : Nat} (hlow : 1 ≤ j) (hhigh : j ≤ 9) (bits : List LineLevel) (l : LineLevel) (count : Nat) :
    (receiving (16 * j - 1) bits).idleAfter count (List.replicate 16 l) = 0 := by
  cases l <;> interval_cases j <;> rfl

theorem run_stop (bits : List LineLevel) (stop : LineLevel) : (receiving 159 bits).run (List.replicate 16 stop) =
    (if stop = .mark then hunting .mark else awaitingMark, [characterOf bits stop]) := by
  cases stop <;> rfl

theorem idleAfter_stop (bits : List LineLevel) (count : Nat) :
    (receiving 159 bits).idleAfter count (List.replicate 16 .mark) = 7 := rfl

/-! ### Several bits, and a whole character (R129, R130) -/

/-- The samples of data and parity bits add those bits and end no character. -/
theorem run_bits (ls : List LineLevel) {j : Nat} (hlow : 1 ≤ j) (hhigh : j + ls.length ≤ 10) (bits : List LineLevel) :
    (receiving (16 * j - 1) bits).run (samplesOf ls) = (receiving (16 * (j + ls.length) - 1) (bits ++ ls), []) := by
  induction ls generalizing j bits with
  | nil => simp [samplesOf, run]
  | cons l ls ih =>
    rw [List.length_cons] at hhigh
    have hnext := ih (j := j + 1) (by omega) (by omega) (bits ++ [l])
    have hsample : 16 * (j + 1) - 1 = 16 * j + 15 := by omega
    rw [hsample] at hnext
    have hboth := run_append_of (run_bit hlow (by omega) bits l) hnext
    have hcount : j + 1 + ls.length = j + (ls.length + 1) := by omega
    rw [List.append_assoc, hcount] at hboth
    exact hboth

theorem idleAfter_bits (ls : List LineLevel) {j : Nat} (hlow : 1 ≤ j) (hhigh : j + ls.length ≤ 10) (bits : List LineLevel) :
    (receiving (16 * j - 1) bits).idleAfter 0 (samplesOf ls) = 0 := by
  induction ls generalizing j bits with
  | nil => rfl
  | cons l ls ih =>
    rw [List.length_cons] at hhigh
    have hnext := ih (j := j + 1) (by omega) (by omega) (bits ++ [l])
    have hsample : 16 * (j + 1) - 1 = 16 * j + 15 := by omega
    rw [hsample] at hnext
    change (receiving (16 * j - 1) bits).idleAfter 0 (List.replicate 16 l ++ samplesOf ls) = 0
    rw [idleAfter_append, run_bit hlow (by omega), idleAfter_bit hlow (by omega)]
    exact hnext

theorem samplesOf_character (ls : List LineLevel) (stop : LineLevel) : samplesOf (.space :: ls ++ [stop]) =
    List.replicate 16 .space ++ (samplesOf ls ++ List.replicate 16 stop) := by
  simp [samplesOf]

/-- Start bit, nine bits, stop bit: the character of those bits. -/
theorem run_character {ls : List LineLevel} (h : ls.length = 9) (stop : LineLevel) :
    (hunting .mark).run (samplesOf (.space :: ls ++ [stop])) =
      (if stop = .mark then hunting .mark else awaitingMark, [characterOf ls stop]) := by
  have hbits := run_bits ls (j := 1) (by omega) (by omega) []
  rw [h] at hbits
  rw [samplesOf_character]
  exact run_append_of run_start (run_append_of hbits (run_stop ls stop))

theorem idleAfter_character {ls : List LineLevel} (h : ls.length = 9) (count : Nat) :
    (hunting .mark).idleAfter count (samplesOf (.space :: ls ++ [.mark])) = 7 := by
  have hbits := run_bits ls (j := 1) (by omega) (by omega) []
  rw [h] at hbits
  have hrun : (receiving 15 []).run (samplesOf ls) = (receiving 159 ls, []) := hbits
  have hidle : (receiving 15 []).idleAfter 0 (samplesOf ls) = 0 := idleAfter_bits ls (j := 1) (by omega) (by omega) []
  have hstart : (hunting .mark).idleAfter count (List.replicate 16 .space) = 0 := rfl
  rw [samplesOf_character, idleAfter_append, run_start, hstart, idleAfter_append, hrun, hidle]
  exact idleAfter_stop ls 0

/-! ### Waiting, and idle (R130, R131) -/

theorem run_awaitingMark (k : Nat) : awaitingMark.run (List.replicate k .space) = (awaitingMark, []) := by
  induction k with
  | zero => rfl
  | succ k ih => simp [List.replicate_succ, run, sample, ih]

theorem run_hunting (k : Nat) : (hunting .mark).run (List.replicate k .mark) = (hunting .mark, []) := by
  induction k with
  | zero => rfl
  | succ k ih => simp [List.replicate_succ, run, sample, ih]

theorem idleAfter_hunting (k count : Nat) : (hunting .mark).idleAfter count (List.replicate k .mark) = count + k := by
  induction k generalizing count with
  | zero => rfl
  | succ k ih =>
    rw [List.replicate_succ, idleAfter]
    exact (ih (count + 1)).trans (by omega)

/-- A start that is MARK again at sample 8 gives no character (R130). -/
theorem run_falseStart {few : List LineLevel} (h : few.length = 7) (count : Nat) :
    (hunting .mark).run (.space :: few ++ [.mark]) = (hunting .mark, []) ∧
      (hunting .mark).idleAfter count (.space :: few ++ [.mark]) = 0 := by
  match few, h with
  | [_, _, _, _, _, _, _], _ => exact ⟨rfl, rfl⟩

end SampleReceiver

/-! ### A character as sent (R129, R130) -/

/-- The nine bits of a character after its start bit. -/
def nineBits (b : Byte) (parity : LineLevel) : List LineLevel := (List.range 8).map (fun i => levelOf (bit b i)) ++ [parity]

theorem nineBits_length (b : Byte) (parity : LineLevel) : (nineBits b parity).length = 9 := rfl

theorem characterSamples_eq (b : Byte) :
    characterSamples b = samplesOf (.space :: nineBits b (levelOf (parityBit b)) ++ [.mark]) := rfl

theorem levelOf_eq_mark (v : Bool) : levelOf v = .mark ↔ v = true := by
  cases v <;> simp [levelOf]

theorem byteOfBits_levels (b : Byte) : byteOfBits ((List.range 8).map (fun i => levelOf (bit b i))) = b := by
  have hb : b.toNat < 256 := b.isLt
  have hbit (i n : Nat) : (if levelOf (bit b i) = .mark then n + 2 ^ i else n) = n + b.toNat / 2 ^ i % 2 * 2 ^ i := by
    have hiff : levelOf (bit b i) = .mark ↔ b.toNat / 2 ^ i % 2 = 1 := by
      rw [levelOf_eq_mark, bit, BitVec.getLsbD, Nat.testBit_eq_decide_div_mod_eq, decide_eq_true_iff]
    rcases Nat.mod_two_eq_zero_or_one (b.toNat / 2 ^ i) with h | h <;> simp [hiff, h]
  have hlist : ((List.range 8).map (fun i => levelOf (bit b i))).zipIdx =
      [(levelOf (bit b 0), 0), (levelOf (bit b 1), 1), (levelOf (bit b 2), 2), (levelOf (bit b 3), 3),
        (levelOf (bit b 4), 4), (levelOf (bit b 5), 5), (levelOf (bit b 6), 6), (levelOf (bit b 7), 7)] := rfl
  refine BitVec.eq_of_toNat_eq ?_
  simp only [byteOfBits, hlist, List.foldl_cons, List.foldl_nil, hbit, BitVec.toNat_ofNat]
  omega

/-- How many 1s a byte holds. -/
theorem filter_levels (b : Byte) : (((List.range 8).map (fun i => levelOf (bit b i))).filter (· = .mark)).length =
    ((List.range 8).filter (fun i => bit b i)).length := by
  rw [List.filter_map, List.length_map]
  congr 1
  refine List.filter_congr fun i _ => ?_
  cases h : bit b i <;> simp [levelOf, h]

/-- The verdict of nine bits: the parity bit makes the count of 1s even (R129, R130). -/
theorem verdictOf_nineBits (b : Byte) (parity stop : LineLevel) : verdictOf (nineBits b parity) stop =
    if stop = .space then .bad .framing else if parity = levelOf (parityBit b) then .good else .bad .parity := by
  unfold verdictOf
  split
  · rfl
  · have hcount : ((nineBits b parity).filter (· = .mark)).length =
        ((List.range 8).filter (fun i => bit b i)).length + (if parity = .mark then 1 else 0) := by
      rw [nineBits, List.filter_append, List.length_append, filter_levels]
      cases parity <;> rfl
    have hparity : parityBit b = decide (((List.range 8).filter (fun i => bit b i)).length % 2 = 1) := rfl
    rw [hcount, hparity]
    rcases Nat.mod_two_eq_zero_or_one ((List.range 8).filter (fun i => bit b i)).length with h | h <;> cases parity <;>
      simp [h, levelOf, Nat.add_mod]

theorem characterOf_nineBits (b : Byte) (parity stop : LineLevel) : characterOf (nineBits b parity) stop =
    { byte := b, verdict := if stop = .space then .bad .framing
        else if parity = levelOf (parityBit b) then .good else .bad .parity } := by
  rw [characterOf, verdictOf_nineBits]
  have htake : (nineBits b parity).take 8 = (List.range 8).map (fun i => levelOf (bit b i)) := rfl
  rw [htake, byteOfBits_levels]

theorem run_characterSamples (b : Byte) : SampleReceiver.run (.hunting .mark) (characterSamples b) =
    (.hunting .mark, [{ byte := b, verdict := .good }]) := by
  rw [characterSamples_eq, SampleReceiver.run_character (nineBits_length b _), characterOf_nineBits]
  simp

/-- Settles O41. -/
theorem charactersAreReceivedAsSent : Obligations.CharactersAreReceivedAsSent := by
  intro bs b parity stop few k count
  refine ⟨?_, ?_, SampleReceiver.run_awaitingMark k, ?_, fun hfew => ?_, ?_, SampleReceiver.idleAfter_hunting k count, ?_, ?_,
    decide_eq_true_iff⟩
  · induction bs with
    | nil => rfl
    | cons b bs ih => exact SampleReceiver.run_append_of (run_characterSamples b) ih
  · exact (SampleReceiver.run_character (nineBits_length b parity) stop).trans (by rw [characterOf_nineBits])
  · exact SampleReceiver.run_append_of (SampleReceiver.run_awaitingMark k) (bs := [.mark]) rfl
  · obtain ⟨hrun, hidle⟩ := SampleReceiver.run_falseStart hfew count
    refine ⟨hrun, ?_⟩
    have hsplit : LineLevel.space :: few ++ .mark :: List.replicate k .mark =
        (.space :: few ++ [.mark]) ++ List.replicate k .mark := by simp
    rw [hsplit, SampleReceiver.idleAfter_append, hrun, hidle, SampleReceiver.idleAfter_hunting, Nat.zero_add]
  · rw [SampleReceiver.idleAfter_append, run_characterSamples, characterSamples_eq,
      SampleReceiver.idleAfter_character (nineBits_length b _), SampleReceiver.idleAfter_hunting]
  · rw [SampleReceiver.idleAfter_append, SampleReceiver.run_hunting]
    rfl
  · cases k with
    | zero => rfl
    | succ k => exact (SampleReceiver.idleAfter_hunting k 1).trans (Nat.add_comm 1 k)

end Sys2Proof.Machine
end

section
/-! PROOFS. Frames byte by byte (R132..R138): the bytes of a frame do what the frame's own command does. -/

namespace Sys2Proof.Machine

/-! ### Several commands -/

theorem execAll_append {as bs : List Instr} {s t : State} (h : execAll as s = .next t) : execAll (as ++ bs) s = execAll bs t := by
  induction as generalizing s with
  | nil =>
    cases h
    rfl
  | cons a as ih =>
    rw [execAll] at h
    rw [List.cons_append, execAll]
    cases ha : exec a s with
    | next u =>
      rw [ha] at h
      exact ih h
    | fault f =>
      rw [ha] at h
      cases h
    | refused r =>
      rw [ha] at h
      cases h

/-! ### A frame's characters leave alone what the frame is judged by -/

@[simp] theorem State.onLine_hears (s : State) (r : Receiver) (a : Assembler) : (s.onLine r a).hears = s.hears := by
  unfold State.hears
  rw [State.onLine_receiving]
  cases h : s.bus.transmitter <;> simp [State.onLine, State.lineBusy, h]

theorem State.receiving_of_hears {s : State} (h : s.hears = true) : s.receiving = true := by
  simp only [State.hears, Bool.and_eq_true] at h
  exact h.1

theorem State.onLine_frameEnded (s : State) (r : Receiver) (a : Assembler) : (s.onLine r a).frameEnded = s.frameEnded :=
  State.onLine_onLine s _ _ _ _

theorem State.onLine_bulletinAccepted (s : State) (r : Receiver) (a : Assembler) (source : Byte) (b : Bulletin) :
    (s.onLine r a).bulletinAccepted source b = s.bulletinAccepted source b := by
  unfold State.bulletinAccepted
  rw [State.onLine_frameAccepted, State.onLine_working]

theorem State.onLine_checkedFrame (s : State) (r : Receiver) (a : Assembler) (kind source destination : Byte) (payload : List Byte) :
    (s.onLine r a).checkedFrame kind source destination payload = s.checkedFrame kind source destination payload := by
  unfold State.checkedFrame
  simp only [State.onLine_frameEnded, State.onLine_frameAccepted, State.onLine_bulletinAccepted]

/-! ### One good character (R132, R133, R138) -/

/-- A character that the assembler discards: the line has been busy, and nothing more (R132, R138). -/
theorem exec_goodCharacter_discarded {s : State} (hr : s.receiving = true)
    (h : s.hears = false ∨ s.bus.assembler = .awaitIdle) (b : Byte) :
    exec (.goodCharacter b) s = .next (s.onLine .hunting s.bus.assembler) := by
  change execGoodCharacter b s = _
  unfold execGoodCharacter
  rw [if_pos hr]
  obtain hh | ha := h
  · rw [hh]
    rfl
  · rw [ha]
    cases s.hears
    · exact congrArg (fun a => Host.Outcome.next (s.onLine .hunting a)) ha
    · exact congrArg (fun a => Host.Outcome.next (s.onLine .hunting a)) ha

theorem exec_goodCharacter_awaitMarker {s : State} (hh : s.hears = true) (ha : s.bus.assembler = .awaitMarker) (b : Byte) :
    exec (.goodCharacter b) s = .next (s.onLine .hunting (if b = 0xC5#8 then .inFrame [] else .awaitIdle)) := by
  change execGoodCharacter b s = _
  unfold execGoodCharacter
  rw [if_pos (State.receiving_of_hears hh), hh, ha]
  rfl

/-- In a frame a character is taken with those before it (R133). -/
theorem exec_goodCharacter_inFrame {s : State} (hh : s.hears = true) (taken : List Byte) (b : Byte) :
    exec (.goodCharacter b) (s.onLine .hunting (.inFrame taken)) =
      .next ((s.onLine .hunting (.inFrame taken)).takeByte (taken ++ [b])) := by
  have hhears : (s.onLine .hunting (.inFrame taken)).hears = true := by rw [State.onLine_hears, hh]
  have hready : (s.onLine .hunting (.inFrame taken)).onLine .hunting (.inFrame taken) = s.onLine .hunting (.inFrame taken) :=
    State.onLine_onLine s _ _ _ _
  change execGoodCharacter b _ = _
  unfold execGoodCharacter
  rw [if_pos (State.receiving_of_hears hhears), hhears]
  exact congrArg (fun u : State => Host.Outcome.next (u.takeByte (taken ++ [b]))) hready

/-! ### Several good characters -/

/-- The characters of the bytes, one after another. -/
def characters (bs : List Byte) : List Instr := bs.map Instr.goodCharacter

theorem characters_append (as bs : List Byte) : characters (as ++ bs) = characters as ++ characters bs := List.map_append

theorem execAll_characters_cons {b : Byte} {bs : List Byte} {s t : State} (h : exec (.goodCharacter b) s = .next t) :
    execAll (characters (b :: bs)) s = execAll (characters bs) t := execAll_cons h

/-- A part that receives nothing takes no character (R138). -/
theorem execAll_characters_deaf {s : State} (hr : s.receiving = false) (bs : List Byte) : execAll (characters bs) s = .next s := by
  induction bs with
  | nil => rfl
  | cons b bs ih =>
    have hb : exec (.goodCharacter b) s = .next s := by
      change execGoodCharacter b s = _
      unfold execGoodCharacter
      rw [hr]
      rfl
    rw [execAll_characters_cons hb, ih]

/-- Characters discarded one after another do what one of them does (R132, R138). -/
theorem execAll_characters_discarded {s : State} (hr : s.receiving = true)
    (h : s.hears = false ∨ s.bus.assembler = .awaitIdle) (b : Byte) (bs : List Byte) :
    execAll (characters (b :: bs)) s = .next (s.onLine .hunting s.bus.assembler) := by
  induction bs generalizing b with
  | nil => exact execAll_characters_cons (exec_goodCharacter_discarded hr h b)
  | cons c bs ih =>
    have hagain : exec (.goodCharacter c) (s.onLine .hunting s.bus.assembler) = .next (s.onLine .hunting s.bus.assembler) := by
      rw [exec_goodCharacter_discarded (by rw [State.onLine_receiving, hr]) (by rw [State.onLine_hears]; exact h)]
      exact congrArg Host.Outcome.next (State.onLine_onLine s _ _ _ _)
    rw [execAll_characters_cons (exec_goodCharacter_discarded hr h b), execAll_characters_cons hagain,
      ← execAll_characters_cons (exec_goodCharacter_discarded hr h c), ih]

/-- A frame discarded byte by byte (R131, R132, R138). -/
theorem execAll_characters_frameDiscarded {s : State} (h : s.takesFrames = false) (b : Byte) (bs : List Byte) :
    execAll (characters (b :: bs)) s = .next s.frameDiscarded := by
  cases hr : s.receiving with
  | false =>
    rw [execAll_characters_deaf hr, State.frameDiscarded, hr]
    rfl
  | true =>
    have hd : s.hears = false ∨ s.bus.assembler = .awaitIdle := by
      simpa [State.takesFrames, imp_iff_not_or] using h
    rw [execAll_characters_discarded hr hd, State.frameDiscarded_eq_onLine hr]

/-- A frame that has ended discards what follows of it (R132). -/
theorem execAll_characters_ended (s : State) (n : CounterName) (bs : List Byte) :
    execAll (characters bs) (s.frameEnded.count n) = .next (s.frameEnded.count n) := by
  cases hr : s.receiving with
  | false => exact execAll_characters_deaf (s := s.frameEnded.count n) hr bs
  | true =>
    cases bs with
    | nil => rfl
    | cons b bs =>
      rw [execAll_characters_discarded (s := s.frameEnded.count n) hr (.inr rfl)]
      exact congrArg Host.Outcome.next (State.onLine_onLine (s.count n) _ _ _ _)

/-! ### What a byte does in a frame (R133, R135, R136) -/

section
variable {s : State} (hh : s.hears = true)
include hh

/-- Marker, kind, source and destination: the filter decides at the last of them (R135). -/
theorem execAll_characters_head (ha : s.bus.assembler = .awaitMarker) (kind source destination : Byte) :
    execAll (characters [0xC5#8, kind, source, destination]) s =
      .next (if s.filterRejects kind destination then s.frameEnded.count .rxForeign
        else s.onLine .hunting (.inFrame [kind, source, destination])) := by
  rw [execAll_characters_cons (exec_goodCharacter_awaitMarker hh ha _), if_pos rfl,
    execAll_characters_cons (exec_goodCharacter_inFrame hh [] kind)]
  change execAll (characters [source, destination]) (s.onLine .hunting (.inFrame [kind])) = _
  rw [execAll_characters_cons (exec_goodCharacter_inFrame hh [kind] source)]
  change execAll (characters [destination]) (s.onLine .hunting (.inFrame [kind, source])) = _
  rw [execAll_characters_cons (exec_goodCharacter_inFrame hh [kind, source] destination)]
  change Host.Outcome.next (if s.filterRejects kind destination then _ else _) = _
  rw [State.onLine_frameEnded]
  rfl

/-- The length byte of a frame that has passed the filter (R133). -/
theorem exec_goodCharacter_length (kind source destination length : Byte) :
    exec (.goodCharacter length) (s.onLine .hunting (.inFrame [kind, source, destination])) =
      .next (if 48 < length.toNat then s.frameEnded.count .rxLength
        else s.onLine .hunting (.inFrame [kind, source, destination, length])) := by
  rw [exec_goodCharacter_inFrame hh]
  change Host.Outcome.next (if 48 < length.toNat then _ else if ([] : List Byte).length < length.toNat + 2 then _ else _) = _
  rw [if_pos (show ([] : List Byte).length < length.toNat + 2 by simp), State.onLine_frameEnded]
  rfl

/-- Payload and first CRC byte are taken (R133). -/
theorem execAll_characters_taken {kind source destination length : Byte} (hl : length.toNat ≤ 48) (tail bs : List Byte)
    (hshort : tail.length + bs.length < length.toNat + 2) :
    execAll (characters bs) (s.onLine .hunting (.inFrame (kind :: source :: destination :: length :: tail))) =
      .next (s.onLine .hunting (.inFrame (kind :: source :: destination :: length :: (tail ++ bs)))) := by
  induction bs generalizing tail with
  | nil =>
    rw [List.append_nil]
    rfl
  | cons b bs ih =>
    have hb : (tail ++ [b]).length < length.toNat + 2 := by
      simp at hshort ⊢
      omega
    rw [execAll_characters_cons (exec_goodCharacter_inFrame hh _ b)]
    change execAll _ (if 48 < length.toNat then _ else if (tail ++ [b]).length < length.toNat + 2 then _ else _) = _
    rw [if_neg (by omega), if_pos hb]
    refine (ih (tail ++ [b]) (by simp at hshort ⊢; omega)).trans ?_
    rw [List.append_assoc]
    rfl

/-- The second CRC byte ends the frame at its check (R136). -/
theorem exec_goodCharacter_check {kind source destination length : Byte} (hl : length.toNat ≤ 48) {payload : List Byte}
    (hp : payload.length = length.toNat) (high low : Byte) :
    exec (.goodCharacter low) (s.onLine .hunting (.inFrame (kind :: source :: destination :: length :: (payload ++ [high])))) =
      .next (if crc16 ([kind, source, destination, length] ++ payload) = halfFrom high low
        then s.checkedFrame kind source destination payload else s.frameEnded.count .rxCrc) := by
  rw [exec_goodCharacter_inFrame hh]
  have htail : payload ++ [high] ++ [low] = payload ++ [high, low] := by simp
  change Host.Outcome.next (if 48 < length.toNat then _ else if (payload ++ [high] ++ [low]).length < length.toNat + 2 then _
    else if crc16 (kind :: source :: destination :: length :: (payload ++ [high] ++ [low]).take length.toNat) =
      halfFrom (((payload ++ [high] ++ [low]).drop length.toNat).getD 0 0#8)
        (((payload ++ [high] ++ [low]).drop length.toNat).getD 1 0#8)
      then State.checkedFrame _ _ _ _ ((payload ++ [high] ++ [low]).take length.toNat) else _) = _
  rw [if_neg (by omega), if_neg (by simp [hp]), htail, ← hp, List.take_left, List.drop_left,
    State.onLine_checkedFrame, State.onLine_frameEnded]
  rfl

/-- A whole frame, byte by byte, at a station that awaits a marker (R132..R136). -/
theorem execAll_characters_frame (ha : s.bus.assembler = .awaitMarker) (kind source destination length high low : Byte)
    {payload : List Byte} (hp : payload.length = length.toNat) (hl : length.toNat ≤ 48) :
    execAll (characters ([0xC5#8, kind, source, destination, length] ++ payload ++ [high, low])) s =
      .next (if s.filterRejects kind destination then s.frameEnded.count .rxForeign
        else if crc16 ([kind, source, destination, length] ++ payload) = halfFrom high low
        then s.checkedFrame kind source destination payload else s.frameEnded.count .rxCrc) := by
  have hsplit : [0xC5#8, kind, source, destination, length] ++ payload ++ [high, low] =
      [0xC5#8, kind, source, destination] ++ ([length] ++ ((payload ++ [high]) ++ [low])) := by simp
  rw [hsplit, characters_append, execAll_append (execAll_characters_head hh ha kind source destination)]
  cases hf : s.filterRejects kind destination with
  | true => exact execAll_characters_ended s .rxForeign _
  | false =>
    change execAll (characters (length :: (payload ++ [high] ++ [low]))) (s.onLine .hunting (.inFrame [kind, source, destination])) = _
    rw [execAll_characters_cons (exec_goodCharacter_length hh kind source destination length), if_neg (by omega),
      characters_append, execAll_append (execAll_characters_taken hh hl [] (payload ++ [high]) (by simp [hp])), List.nil_append,
      execAll_characters_cons (exec_goodCharacter_check hh hl hp high low)]
    rfl

end

/-! ### The frame that a command stands for (R137, R139..R141; log 16) -/

theorem State.takesFrames_iff {s : State} : s.takesFrames = true ↔ s.hears = true ∧ s.bus.assembler ≠ .awaitIdle := by
  simp [State.takesFrames]

/-- A frame with a good CRC, byte by byte, at a station between frames: taken by the filter and by its kind, or discarded. -/
theorem execAll_frameBytes {s : State} (ha : s.bus.assembler ∈ [.awaitIdle, .awaitMarker]) (kind source destination : Byte)
    {payload : List Byte} (hp : payload.length ≤ 48) :
    execAll (characters (frameBytes kind source destination payload)) s =
      .next (s.onFrame (if s.filterRejects kind destination then s.frameEnded.count .rxForeign
        else s.checkedFrame kind source destination payload)) := by
  cases ht : s.takesFrames with
  | false =>
    rw [State.onFrame, ht]
    exact execAll_characters_frameDiscarded ht _ _
  | true =>
    obtain ⟨hh, hne⟩ := State.takesFrames_iff.mp ht
    have hmarker : s.bus.assembler = .awaitMarker := by simpa [hne] using ha
    have hlength : (byteOf payload.length).toNat = payload.length := byteOf_toNat (by omega)
    rw [State.onFrame_taken _ _ ht]
    have h := execAll_characters_frame hh hmarker kind source destination (byteOf payload.length)
      (highByte (crc16 ([kind, source, destination, byteOf payload.length] ++ payload)))
      (lowByte (crc16 ([kind, source, destination, byteOf payload.length] ++ payload))) hlength.symm (by omega)
    rw [halfFrom_halfBytes, if_pos rfl] at h
    exact h

theorem statusOfBytes_statusBytes (p : StatusPayload) : statusOfBytes (statusBytes p) = some p := by
  simp [statusBytes, statusOfBytes, advertBytes, halfBytes, halfFrom_halfBytes]

theorem alertOfBytes_alertBytes (p : AlertPayload) : alertOfBytes (alertBytes p) = some p := by
  simp [alertBytes, alertOfBytes, halfBytes, halfFrom_halfBytes]

theorem State.checkedFrame_status (s : State) (source destination : Byte) (p : StatusPayload) :
    s.checkedFrame 1#8 source destination (statusBytes p) = s.bulletinAccepted source (.status p) := by
  simp [State.checkedFrame, statusOfBytes_statusBytes]

theorem State.checkedFrame_alert (s : State) (source destination : Byte) (p : AlertPayload) :
    s.checkedFrame 2#8 source destination (alertBytes p) = s.bulletinAccepted source (.alert p) := by
  simp [State.checkedFrame, alertOfBytes_alertBytes]

/-- Every service command's command is its COMMAND frame. -/
theorem exec_of_commandOf {c : Instr} {f : CommandFrame} (h : commandOf c = some f) (s : State) :
    exec c s = .next (s.commandFrame f.source f.destination f.code f.args) := by
  cases c <;> cases h <;> rfl

theorem args_le_of_commandOf {c : Instr} {f : CommandFrame} (h : commandOf c = some f) (hw : c.WellFormed = true) :
    f.args.length ≤ 47 := by
  cases c <;> cases h <;> simp only [Instr.WellFormed, argsFit, Bool.and_eq_true, decide_eq_true_eq] at hw
  case unknownCommand => exact hw.1
  all_goals exact hw

theorem execAll_commandBytes {s : State} (ha : s.bus.assembler ∈ [.awaitIdle, .awaitMarker]) (source destination code : Byte)
    {args : List Byte} (hargs : args.length ≤ 47) :
    execAll (characters (commandBytes source destination code args)) s = .next (s.commandFrame source destination code args) := by
  rw [commandBytes, execAll_frameBytes ha 4#8 source destination (by simp; omega), State.commandFrame,
    if_neg (show ¬47 < args.length by omega)]
  rfl

/-- Settles O42: the bytes of each kind of frame, by the frame's passage through filter, length and check. -/
theorem frameBytesAndFrameCommandAgree : Obligations.FrameBytesAndFrameCommandAgree := by
  unfold Obligations.FrameBytesAndFrameCommandAgree
  intro c bs s hw hf ha
  change execAll (characters bs) s = _
  have hcommand (f : CommandFrame) (hc : commandOf c = some f) (hbs : commandBytes f.source f.destination f.code f.args = bs) :
      execAll (characters bs) s = exec c s := by
    rw [← hbs, execAll_commandBytes ha _ _ _ (args_le_of_commandOf hc hw), exec_of_commandOf hc]
  cases c with
  | statusReceived source content =>
    cases hf
    refine (execAll_frameBytes ha 1#8 source 63#8 (show (statusBytes content).length ≤ 48 by simp [statusBytes, advertBytes, halfBytes])).trans ?_
    rw [State.checkedFrame_status]
    rfl
  | alertReceived source content =>
    cases hf
    refine (execAll_frameBytes ha 2#8 source 63#8 (show (alertBytes content).length ≤ 48 by simp [alertBytes, halfBytes])).trans ?_
    rw [State.checkedFrame_alert]
    rfl
  | passageReceived source named =>
    cases hf
    exact execAll_frameBytes ha 3#8 source 63#8 (payload := [named]) (by simp)
  | _ =>
    simp only [frameOf] at hf
    obtain ⟨f, hc, hbs⟩ := Option.map_eq_some_iff.mp hf
    exact hcommand f hc hbs

/-! ### Frames turned away (R133, R135, R136) -/

theorem State.filterRejects_iff (s : State) (kind destination : Byte) : s.filterRejects kind destination = true ↔
    kind = 5#8 ∨ (kind = 4#8 ∧ destination ≠ 63#8 ∧ (s.station = .fallback ∨ destination.toNat ≠ s.settings.ownAddress)) := by
  simp [State.filterRejects, and_assoc]

theorem Byte.eq_ofNat_iff (b : Byte) {n : Nat} (h : n < 256) : b = BitVec.ofNat 8 n ↔ b.toNat = n := by
  constructor
  · rintro rfl
    simp only [BitVec.toNat_ofNat]
    omega
  · intro hb
    rw [← hb, BitVec.ofNat_toNat, BitVec.setWidth_eq]

/-- A kind of R136 with a length that suits it. -/
def frameSuits (kind length : Byte) : Prop :=
  kind = 1#8 ∧ length = 19#8 ∨ kind = 2#8 ∧ length = 4#8 ∨ kind = 3#8 ∧ length = 1#8 ∨ kind = 4#8 ∧ length ≠ 0#8 ∨ kind = 5#8

theorem frameSuits_iff (kind length : Byte) :
    frameSuits kind length ↔ ¬(kind.toNat = 0 ∨ 5 < kind.toNat) ∧ lengthSuits kind length.toNat = true := by
  have hn : kind.toNat = 0 ∨ kind.toNat = 1 ∨ kind.toNat = 2 ∨ kind.toNat = 3 ∨ kind.toNat = 4 ∨ kind.toNat = 5 ∨ 5 < kind.toNat := by
    omega
  unfold frameSuits lengthSuits
  simp only [ne_eq, Byte.eq_ofNat_iff _ (show 0 < 256 by decide), Byte.eq_ofNat_iff _ (show 1 < 256 by decide),
    Byte.eq_ofNat_iff _ (show 2 < 256 by decide), Byte.eq_ofNat_iff _ (show 3 < 256 by decide),
    Byte.eq_ofNat_iff _ (show 4 < 256 by decide), Byte.eq_ofNat_iff _ (show 5 < 256 by decide),
    Byte.eq_ofNat_iff _ (show 19 < 256 by decide)]
  obtain h | h | h | h | h | h | h := hn
  case inr.inr.inr.inr.inr.inr =>
    split <;> simp <;> omega
  all_goals
    simp [h]
  omega

/-- What FRAME_CHECK_FAIL counts, by the three checks in their order (R136). -/
theorem exec_frameCheckFail {s : State} (ht : s.takesFrames = true) (kind length : Byte) (crcGood : Bool) :
    exec (.frameCheckFail kind length crcGood) s = .next (
      if crcGood = false then s.frameEnded.count .rxCrc
      else if kind.toNat = 0 ∨ 5 < kind.toNat then s.frameEnded.count .rxForeign
      else if lengthSuits kind length.toNat = false then s.frameEnded.count .rxLength
      else s) := congrArg Host.Outcome.next (State.onFrame_taken _ _ ht)

theorem statusOfBytes_none {payload : List Byte} (h : payload.length ≠ 19) : statusOfBytes payload = none := by
  unfold statusOfBytes
  split
  · exact absurd rfl h
  · rfl

theorem alertOfBytes_none {payload : List Byte} (h : payload.length ≠ 4) : alertOfBytes payload = none := by
  unfold alertOfBytes
  split
  · exact absurd rfl h
  · rfl

/-- A complete frame with a good CRC whose kind is unknown, or whose length does not suit it, does what
FRAME_CHECK_FAIL does (R136). -/
theorem State.checkedFrame_rejected (s : State) {kind length : Byte} (source destination : Byte) {payload : List Byte}
    (hp : payload.length = length.toNat) (h : ¬frameSuits kind length) :
    s.checkedFrame kind source destination payload =
      if kind.toNat = 0 ∨ 5 < kind.toNat then s.frameEnded.count .rxForeign else s.frameEnded.count .rxLength := by
  have hlength (hk : ¬(kind.toNat = 0 ∨ 5 < kind.toNat)) : lengthSuits kind payload.length = false := by
    rw [frameSuits_iff, not_and, ← hp] at h
    exact Bool.eq_false_iff.mpr (h hk)
  unfold lengthSuits at hlength
  unfold State.checkedFrame
  split
  case h_1 hk =>
    have hne : payload.length ≠ 19 := by simpa [hk] using hlength
    simp [statusOfBytes_none hne, hk]
  case h_2 hk =>
    have hne : payload.length ≠ 4 := by simpa [hk] using hlength
    simp [alertOfBytes_none hne, hk]
  case h_3 hk =>
    have hne : payload.length ≠ 1 := by simpa [hk] using hlength
    split
    · exact absurd rfl hne
    · simp [hk]
  case h_4 hk =>
    have hne : payload = [] := by simpa [hk] using hlength
    simp [hne, hk]
  case h_5 hk => simp [hk] at hlength
  case h_6 h1 h2 h3 h4 h5 =>
    have h1 : kind.toNat ≠ 1 := h1
    have h2 : kind.toNat ≠ 2 := h2
    have h3 : kind.toNat ≠ 3 := h3
    have h4 : kind.toNat ≠ 4 := h4
    have h5 : kind.toNat ≠ 5 := h5
    rw [if_pos (by omega)]

/-- The bytes of a complete frame that fails its check do what FRAME_CHECK_FAIL does (R136). -/
theorem execAll_characters_frameCheckFail {s : State} (ht : s.takesFrames = true) (ha : s.bus.assembler = .awaitMarker)
    {kind source destination length high low : Byte} {payload : List Byte} {crcGood : Bool}
    (hf : s.filterRejects kind destination = false) (hp : payload.length = length.toNat) (hl : length.toNat ≤ 48)
    (hcrc : crcGood = decide (crc16 ([kind, source, destination, length] ++ payload) = halfFrom high low))
    (hfails : ¬(crcGood = true ∧ frameSuits kind length)) :
    execAll (characters ([0xC5#8, kind, source, destination, length] ++ payload ++ [high, low])) s =
      exec (.frameCheckFail kind length crcGood) s := by
  rw [execAll_characters_frame (State.takesFrames_iff.mp ht).1 ha kind source destination length high low hp hl, hf,
    exec_frameCheckFail ht]
  cases crcGood with
  | false =>
    rw [if_neg (of_decide_eq_false hcrc.symm)]
    rfl
  | true =>
    have hsuits : ¬frameSuits kind length := fun h => hfails ⟨rfl, h⟩
    rw [if_pos (of_decide_eq_true hcrc.symm), State.checkedFrame_rejected s source destination hp hsuits]
    rw [frameSuits_iff] at hsuits
    congr 1
    simp only [Bool.false_eq_true, Bool.true_eq_false, if_false]
    split
    · rfl
    · rename_i hk
      rw [if_pos (Bool.eq_false_iff.mpr (fun h => hsuits ⟨hk, h⟩))]

/-- A frame that ends in a counter, said part by part. -/
theorem State.frameEnded_counted (s : State) (n : CounterName) :
    (s.frameEnded.count n).bus.assembler = .awaitIdle ∧ (s.frameEnded.count n).counters = s.counters.bump n ∧
      (s.frameEnded.count n).bus.queues = s.bus.queues ∧ OnlyChanges [.bus, .counters] s (s.frameEnded.count n) := by
  refine ⟨rfl, rfl, rfl, ?_⟩
  simp [onlyChanges_iff, State.count, State.frameEnded_eq_onLine]

/-- Settles O44: each case of the bytes by the frame's passage through filter, length and check; then the three
commands' own effects. -/
theorem rejectedFramesAreCounted : Obligations.RejectedFramesAreCounted := by
  unfold Obligations.RejectedFramesAreCounted
  intro s kind source destination length high low payload crcGood ht
  have hh := (State.takesFrames_iff.mp ht).1
  have hfilter : exec (.addressFilterReject kind destination) s =
      .next (if s.filterRejects kind destination then s.frameEnded.count .rxForeign else s) :=
    congrArg Host.Outcome.next (State.onFrame_taken _ _ ht)
  have hlengthByte : exec (.lengthByteReject length) s =
      .next (if 48 < length.toNat then s.frameEnded.count .rxLength else s) :=
    congrArg Host.Outcome.next (State.onFrame_taken _ _ ht)
  refine ⟨fun ha => ⟨?_, ?_, ?_⟩, ?_, ?_, ?_, ?_, ?_, ?_⟩
  · intro hf
    rw [hfilter, hf]
    refine (execAll_characters_head hh ha kind source destination).trans ?_
    rw [hf]
    rfl
  · intro hf hl
    rw [hlengthByte]
    refine (execAll_append (bs := [.goodCharacter length]) (execAll_characters_head hh ha kind source destination)).trans ?_
    rw [hf]
    refine (execAll_characters_cons (bs := []) (exec_goodCharacter_length hh kind source destination length)).trans ?_
    rw [if_pos hl, if_pos hl]
    rfl
  · intro hf hp hl hcrc hfails
    have h5 : kind ≠ 5#8 := fun h => by simp [State.filterRejects, h] at hf
    refine execAll_characters_frameCheckFail ht ha hf hp hl hcrc (fun h => hfails ⟨h.1, ?_⟩)
    simpa [frameSuits, h5] using h.2
  · intro hr
    rw [← s.filterRejects_iff] at hr
    rw [hfilter, hr]
    exact ⟨_, rfl, s.frameEnded_counted .rxForeign⟩
  · intro hr
    rw [← s.filterRejects_iff] at hr
    rw [hfilter, if_neg hr]
    exact ⟨s, rfl, rfl⟩
  · intro hl
    rw [hlengthByte, if_pos hl]
    exact ⟨_, rfl, s.frameEnded_counted .rxLength⟩
  · intro hl
    rw [hlengthByte, if_neg (by omega)]
    exact ⟨s, rfl, rfl⟩
  · intro hcrc hsuits
    obtain ⟨hkind, hlen⟩ := (frameSuits_iff kind length).mp hsuits
    rw [exec_frameCheckFail ht, hcrc, hlen, if_neg hkind]
    exact ⟨s, rfl, rfl⟩
  · intro hfails
    change ¬(crcGood = true ∧ frameSuits kind length) at hfails
    have hzero : kind = 0#8 ↔ kind.toNat = 0 := Byte.eq_ofNat_iff kind (by decide)
    simp only [hzero]
    rw [exec_frameCheckFail ht]
    rw [frameSuits_iff] at hfails
    split
    · exact ⟨_, rfl, s.frameEnded_counted .rxCrc⟩
    · rename_i hcrc
      split
      · exact ⟨_, rfl, s.frameEnded_counted .rxForeign⟩
      · rename_i hkind
        have hlen : lengthSuits kind length.toNat = false :=
          Bool.eq_false_iff.mpr (fun h => hfails ⟨by simpa using hcrc, hkind, h⟩)
        rw [if_pos hlen]
        exact ⟨_, rfl, s.frameEnded_counted .rxLength⟩

end Sys2Proof.Machine
end

section
/-! PROOFS. The other events of the line (R130, R131, R153), and selection (R152..R154). -/

namespace Sys2Proof.Machine

/-! ### The idle event (R131, R132, R153) -/

/-- The station at an idle event: its assembler awaits a marker, and a frame cut short has been counted. -/
def State.idled (s : State) : State :=
  let idle := s.setBus { s.bus with idleCount := 353, receiver := .hunting, assembler := .awaitMarker }
  match s.bus.assembler with
  | .inFrame _ => idle.count .rxLength
  | _ => idle

@[simp] theorem State.idled_bus (s : State) :
    s.idled.bus = { s.bus with idleCount := 353, receiver := .hunting, assembler := .awaitMarker } := by
  unfold State.idled
  cases s.bus.assembler <;> rfl

theorem State.idled_counters (s : State) :
    (s.bus.assembler = .awaitIdle ∨ s.bus.assembler = .awaitMarker → s.idled.counters = s.counters) ∧
      ∀ taken, s.bus.assembler = .inFrame taken → s.idled.counters = s.counters.bump .rxLength := by
  unfold State.idled
  cases s.bus.assembler with
  | awaitIdle => exact ⟨fun _ => rfl, fun _ h => nomatch h⟩
  | awaitMarker => exact ⟨fun _ => rfl, fun _ h => nomatch h⟩
  | inFrame taken => exact ⟨fun h => h.elim (nomatch ·) (nomatch ·), fun _ _ => rfl⟩

theorem State.idled_onlyChanges (s : State) : OnlyChanges [.bus, .counters] s s.idled := by
  unfold State.idled
  cases s.bus.assembler <;> simp [onlyChanges_iff, State.count]

theorem exec_idleEvent_still {s : State} (hh : s.hears = true) (ht : s.bus.transmitter ∉ [.waitingIdle, .backoff]) :
    exec .idleEvent s = .next s.idled := by
  change execIdleEvent s = _
  unfold execIdleEvent
  rw [if_pos hh]
  dsimp only
  split
  case h_1 h => exact absurd (by simp [h]) ht
  case h_2 h => exact absurd (by simp [h]) ht
  case h_3 => rfl

theorem exec_idleEvent_selects {s : State} (hh : s.hears = true) (ht : s.bus.transmitter ∈ [.waitingIdle, .backoff]) :
    exec .idleEvent s = .next s.idled.enterGap := by
  change execIdleEvent s = _
  unfold execIdleEvent
  rw [if_pos hh]
  dsimp only
  split
  case h_1 => rfl
  case h_2 => rfl
  case h_3 h1 h2 => exact absurd ht (by simpa using ⟨h1, h2⟩)

theorem State.enterGap_onlyChanges (s : State) : OnlyChanges [.bus] s s.enterGap := by
  simp [onlyChanges_iff]

/-! ### A busy line (R130..R132, R138, R153) -/

theorem State.onLine_onlyChanges (s : State) (r : Receiver) (a : Assembler) : OnlyChanges [.bus] s (s.onLine r a) := by
  simp [onlyChanges_iff]

theorem exec_startOfCharacter {s : State} (hr : s.receiving = true) :
    exec .startOfCharacter s = .next (s.onLine .receiving s.bus.assembler) := by
  change execStartOfCharacter s = _
  unfold execStartOfCharacter
  rw [if_pos hr]
  rfl

/-- A character with an error: the station awaits an idle event, and a marker or a frame lost to it is counted (R132). -/
theorem exec_badCharacter {s : State} (hh : s.hears = true) (err : CharError) :
    exec (.badCharacter err) s = .next (
      if s.bus.assembler = .awaitIdle then s.onLine (if err = .framing then .awaitingMark else .hunting) .awaitIdle
      else (s.onLine (if err = .framing then .awaitingMark else .hunting) .awaitIdle).count (CharError.counter err)) := by
  change execBadCharacter err s = _
  unfold execBadCharacter
  rw [if_pos (State.receiving_of_hears hh), hh]
  cases s.bus.assembler <;> rfl

/-- Settles O43: each event by its own equation. -/
theorem lineEventsDriveTheReceivingSide : Obligations.LineEventsDriveTheReceivingSide := by
  unfold Obligations.LineEventsDriveTheReceivingSide
  intro s b err taken sent cls bits
  refine ⟨?_, ?_, ?_, ?_, ?_, ?_, ?_⟩
  · intro hr ht
    have hdeaf : s.hears = false := by simp [State.hears, ht]
    rw [exec_goodCharacter_discarded hr (.inl hdeaf)]
    refine ⟨_, rfl, ?_, s.onLine_onlyChanges _ _⟩
    simp [State.onLine, State.lineBusy, ht]
  · intro hr
    rw [exec_startOfCharacter hr]
    refine ⟨_, rfl, rfl, ?_, ?_, s.onLine_onlyChanges _ _⟩
    · intro ht
      simp [State.onLine, State.lineBusy, ht]
    · intro ht
      simp only [List.mem_cons, List.not_mem_nil, or_false] at ht
      obtain ht | ht | ht := ht <;> simp [State.onLine, State.lineBusy, ht]
  · intro hh ha
    rw [exec_goodCharacter_awaitMarker hh ha]
    exact ⟨_, rfl, rfl, rfl, rfl, rfl, s.onLine_onlyChanges _ _⟩
  · intro hh ha
    rw [exec_goodCharacter_discarded (State.receiving_of_hears hh) (.inr ha)]
    exact ⟨_, rfl, ha, rfl, s.onLine_onlyChanges _ _⟩
  · intro hh
    rw [exec_badCharacter hh]
    split
    · rename_i ha
      refine ⟨_, rfl, rfl, rfl, rfl, fun _ => rfl, fun h => ?_, OnlyChanges.mono (s.onLine_onlyChanges _ _) (by simp)⟩
      simp [ha] at h
    · rename_i ha
      refine ⟨_, rfl, rfl, rfl, rfl, fun h => absurd h ha, fun _ => ?_, ?_⟩
      · cases err <;> rfl
      · simp [onlyChanges_iff, State.count]
  · intro hh
    have hcounters := s.idled_counters
    by_cases ht : s.bus.transmitter ∈ [.waitingIdle, .backoff]
    · rw [exec_idleEvent_selects hh ht]
      refine ⟨_, rfl, fun h => ?_, ?_, ?_, ?_, ?_⟩
      · obtain h | h := h <;> simp [h] at ht
      · rw [State.enterGap_counters]
        exact hcounters.1
      · rw [State.enterGap_counters]
        exact hcounters.2 taken
      · rw [State.enterGap_queues, State.idled_bus]
      · exact OnlyChanges.mono (OnlyChanges.trans s.idled_onlyChanges s.idled.enterGap_onlyChanges) (by simp)
    · rw [exec_idleEvent_still hh ht]
      exact ⟨_, rfl, fun _ => s.idled_bus, hcounters.1, hcounters.2 taken, by rw [State.idled_bus], s.idled_onlyChanges⟩
  · intro ht
    change Answers (execLineBusyInGap s) _
    unfold execLineBusyInGap
    rw [ht]
    refine ⟨_, rfl, ?_, s.onLine_onlyChanges s.bus.receiver s.bus.assembler⟩
    simp [State.lineBusy, ht]

/-! ### Selection (R152) -/

theorem Queues.mem_nonEmpty {q : Queues} {c : TxClass} : c ∈ q.nonEmpty ↔ q.get c ≠ [] := by
  simp [Queues.nonEmpty, c.mem_all]

theorem Queues.nonEmpty_eq_nil_iff_empty {q : Queues} : q.nonEmpty = [] ↔ q = .empty := by
  obtain ⟨a, p, st, r⟩ := q
  rw [Queues.nonEmpty_eq_nil]
  constructor
  · intro h
    rw [Queues.empty, Queues.mk.injEq]
    exact ⟨h .alert, h .passage, h .status, h .report⟩
  · rintro h c
    rw [h]
    cases c <;> rfl

theorem Queues.nonEmpty_ascending (q : Queues) : Ascending (q.nonEmpty.map TxClass.gapBits) :=
  List.Pairwise.sublist (List.filter_sublist.map _) (show Ascending (TxClass.all.map TxClass.gapBits) by decide)

/-- The first class with a frame and a mark: every class before it is without a frame or without the mark. -/
theorem Queues.unmarked_before {q : Queues} {p : TxClass → Bool} {cls d : TxClass} (h : q.nonEmpty.find? p = some cls)
    (hd : d.gapBits < cls.gapBits) : q.get d = [] ∨ p d = false := by
  by_contra hboth
  simp only [not_or, Bool.not_eq_false] at hboth
  have hleast := find?_least q.nonEmpty_ascending h d (Queues.mem_nonEmpty.mpr hboth.1) hboth.2
  omega

theorem chooseClass_eq_none_iff (sel : Selection) (q : Queues) (k : Credits) : chooseClass sel q k = none ↔ q = .empty := by
  rw [← Queues.nonEmpty_eq_nil_iff_empty]
  constructor
  · exact chooseClass_none
  · intro h
    cases sel <;> simp [chooseClass, h]

/-- STRICT selection: the lowest class with a frame (R152). -/
theorem chooseClass_strict {q : Queues} {k after : Credits} {cls : TxClass} (h : chooseClass .strict q k = some (cls, after)) :
    after = k ∧ ∀ d, d.gapBits < cls.gapBits → q.get d = [] := by
  simp only [chooseClass, Option.map_eq_some_iff, Prod.mk.injEq] at h
  obtain ⟨c, hc, rfl, rfl⟩ := h
  have hc : q.nonEmpty.find? (fun _ => true) = some c := by
    obtain ⟨rest, hrest⟩ := List.head?_eq_some_iff.mp hc
    rw [hrest]
    rfl
  exact ⟨rfl, fun d hd => (Queues.unmarked_before hc hd).resolve_right (by simp)⟩

/-- The credits a WEIGHTED selection is made with: all given back when every class with a frame has none (R152). -/
theorem weightedCredits_eq (q : Queues) (k : Credits) : (if q.nonEmpty.all (fun c => k.get c == 0) then Credits.full else k) =
    if ∀ d ∈ TxClass.all, q.get d ≠ [] → k.get d = 0 then { alert := 8, passage := 4, status := 2, report := 1 } else k := by
  have hiff : (q.nonEmpty.all (fun c => k.get c == 0) = true) ↔ ∀ d ∈ TxClass.all, q.get d ≠ [] → k.get d = 0 := by
    simp [Queues.mem_nonEmpty, TxClass.mem_all]
  simp only [hiff]
  rfl

/-- WEIGHTED selection: the lowest class with a frame and credit (R152). -/
theorem chooseClass_weighted {q : Queues} {k after : Credits} {cls : TxClass} (h : chooseClass .weighted q k = some (cls, after)) :
    0 < after.get cls ∧
      after = (if ∀ d ∈ TxClass.all, q.get d ≠ [] → k.get d = 0
        then { alert := 8, passage := 4, status := 2, report := 1 } else k) ∧
      ∀ d, d.gapBits < cls.gapBits → q.get d = [] ∨ after.get d = 0 := by
  simp only [chooseClass, Option.map_eq_some_iff, Prod.mk.injEq] at h
  obtain ⟨c, hc, rfl, rfl⟩ := h
  have hmark := List.find?_some hc
  refine ⟨of_decide_eq_true hmark, weightedCredits_eq q k, fun d hd => ?_⟩
  simpa using Queues.unmarked_before hc hd

/-! ### Entering the gap (R153, R154) -/

/-- The gap of a selection, and with a gap of 0 the attempt itself. -/
theorem State.enterGap_of_chosen {s : State} {cls : TxClass} {after : Credits}
    (h : chooseClass s.settings.selection s.bus.queues s.bus.credits = some (cls, after)) :
    s.enterGap.bus.credits = after ∧ s.enterGap.bus.jitter = (s.bus.jitter + 1) % 16 ∧
      (cls.gapBits + 2 * jitterSequence.getD s.bus.jitter 0 ≠ 0 →
        s.enterGap.bus.transmitter = .gap cls (cls.gapBits + 2 * jitterSequence.getD s.bus.jitter 0)) ∧
      (cls.gapBits + 2 * jitterSequence.getD s.bus.jitter 0 = 0 → s.enterGap.bus.transmitter =
        .sending .alert (frameBytes 2#8 (byteOf s.settings.ownAddress) 63#8 (alertBytes s.alertContent))) := by
  unfold State.enterGap
  simp only [h]
  generalize hgap : cls.gapBits + 2 * jitterSequence.getD s.bus.jitter 0 = gap
  split
  · exact ⟨rfl, rfl, fun hne => absurd rfl hne, fun _ => rfl⟩
  · rename_i hnot
    refine ⟨rfl, rfl, fun _ => rfl, fun hzero => ?_⟩
    cases cls
    case alert => exact absurd hzero (hnot rfl)
    all_goals
      simp only [TxClass.gapBits] at hgap
      omega

theorem State.idled_settings (s : State) : s.idled.settings = s.settings := ((onlyChanges_iff.mp s.idled_onlyChanges).2.1) (by simp)

theorem State.idled_alertContent (s : State) : s.idled.alertContent = s.alertContent := by
  unfold State.idled
  cases s.bus.assembler <;> rfl

/-- Settles O49: the two selections, then the idle event by the gap it enters. -/
theorem selectionServesPriorityOrCredits : Obligations.SelectionServesPriorityOrCredits := by
  unfold Obligations.SelectionServesPriorityOrCredits
  intro s q k cls after
  refine ⟨chooseClass_eq_none_iff _ q k, chooseClass_eq_none_iff _ q k, ?_, ?_, ?_⟩
  · intro h
    obtain ⟨hafter, hbefore⟩ := chooseClass_strict h
    exact ⟨chooseClass_nonEmpty h, hafter, fun d _ => hbefore d⟩
  · intro h
    obtain ⟨hcredit, hafter, hbefore⟩ := chooseClass_weighted h
    exact ⟨chooseClass_nonEmpty h, hcredit, hafter, fun d _ => hbefore d⟩
  · intro hh ht hchosen
    have hidled : s.idled.bus.queues = s.bus.queues ∧ s.idled.bus.credits = s.bus.credits ∧ s.idled.bus.jitter = s.bus.jitter := by
      rw [State.idled_bus]
      exact ⟨rfl, rfl, rfl⟩
    obtain ⟨hqueues, hcredits, hjitter⟩ := hidled
    have h := State.enterGap_of_chosen (s := s.idled) (cls := cls) (after := after)
    rw [State.idled_settings, hqueues, hcredits, hjitter, State.idled_alertContent] at h
    obtain ⟨hafter, hnext, hgap, hattempt⟩ := h hchosen
    rw [exec_idleEvent_selects hh ht]
    exact ⟨_, rfl, hafter, hnext, by rw [State.enterGap_queues, hqueues], hgap, hattempt⟩

end Sys2Proof.Machine
end

section
/-! PROOFS. Attempts (R145, R155..R157, R165). -/

namespace Sys2Proof.Machine

/-! ### A capture (R101, R155) -/

/-- A capture tells the Bus Interface nothing (R101). -/
@[simp] theorem State.guidanceTold_capture_bus (s : State) (cause : Bool) : (s.guidanceTold cause true).bus = s.bus := by
  unfold State.guidanceTold
  dsimp only
  split
  · rw [if_neg (by simp)]
    unfold State.formImages State.rowsEvaluated
    split <;> rfl
  · rfl

theorem State.guidanceTold_capture_onlyChanges (s : State) (cause : Bool) : OnlyChanges [.guide] s (s.guidanceTold cause true) := by
  simp [onlyChanges_iff]

/-- A captured STATUS is of the closure state and, in NORMAL, of the rows that an evaluation now gives. -/
theorem State.captureStatus_sound (s : State) : s.captureStatus.guide.closed = s.captureStatus.closureHolds ∧
    (s.station = .normal → s.captureStatus.guide.rows = s.captureStatus.evaluateRoutes) := by
  constructor
  · simp [State.captureStatus, State.closureHolds]
  · intro hst
    exact State.guidanceTold_rows (by simp [State.evaluates, hst]) hst

theorem State.beginAttempt_onlyChanges (s : State) (cls : TxClass) (kind destination : Byte) (payload : List Byte) :
    OnlyChanges [.bus] s (s.beginAttempt cls kind destination payload) := by
  simp [onlyChanges_iff]

theorem exec_gapCountedOut {s : State} {cls : TxClass} {bits : Nat} (h : s.bus.transmitter = .gap cls bits) :
    exec .gapCountedOut s = .next (s.beginHead cls) := by
  change execGapCountedOut s = _
  unfold execGapCountedOut
  rw [h]

/-- Settles O50: by the content of the head frame. -/
theorem gapEndCapturesAndSends : Obligations.GapEndCapturesAndSends := by
  unfold Obligations.GapEndCapturesAndSends
  intro s cls bits f named destination payload restart ht hhead hcls
  rw [exec_gapCountedOut ht]
  obtain ⟨content, attempts⟩ := f
  subst hcls
  unfold State.beginHead
  rw [hhead]
  cases content with
  | alert =>
    have honly := s.beginAttempt_onlyChanges .alert 2#8 63#8 (alertBytes s.alertContent)
    refine ⟨_, rfl, rfl, rfl, rfl, rfl, fun _ => rfl, nofun, nofun, nofun, fun _ => honly, OnlyChanges.mono honly (by simp)⟩
  | passage n =>
    have honly := s.beginAttempt_onlyChanges .passage 3#8 63#8 [n]
    refine ⟨_, rfl, rfl, rfl, rfl, rfl, nofun, fun h => ?_, nofun, nofun, fun _ => honly, OnlyChanges.mono honly (by simp)⟩
    cases h
    rfl
  | report d p r =>
    have honly := s.beginAttempt_onlyChanges .report 5#8 d p
    refine ⟨_, rfl, rfl, rfl, rfl, rfl, nofun, nofun, fun h => ?_, nofun, fun _ => honly, OnlyChanges.mono honly (by simp)⟩
    cases h
    rfl
  | status =>
    have hbus : s.captureStatus.bus = s.bus := s.guidanceTold_capture_bus _
    have hqueues : s.captureStatus.bus.queues = s.bus.queues := congrArg BusInterface.queues hbus
    have howed : s.captureStatus.bus.owed = s.bus.owed := congrArg BusInterface.owed hbus
    have hspacing : s.captureStatus.bus.spacingTimer = s.bus.spacingTimer := congrArg BusInterface.spacingTimer hbus
    have hcounters : s.captureStatus.counters = s.counters := by simp [State.captureStatus]
    have hown : s.captureStatus.settings = s.settings := by simp [State.captureStatus]
    obtain ⟨hclosed, hrows⟩ := s.captureStatus_sound
    have honly := OnlyChanges.trans (s.guidanceTold_capture_onlyChanges (decide (s.station = .normal)))
      (s.captureStatus.beginAttempt_onlyChanges .status 1#8 63#8 (statusBytes s.captureStatus.statusContent))
    change Answers (.next (s.captureStatus.beginAttempt .status 1#8 63#8 (statusBytes s.captureStatus.statusContent))) _
    refine ⟨_, rfl, hqueues, rfl, rfl, hcounters, nofun, nofun, nofun, fun _ => ⟨?_, hclosed, hrows, ?_, ?_⟩,
      fun h => absurd rfl h, honly⟩
    · exact congrArg (fun c : Settings => Transmitter.sending .status (frameBytes 1#8 (byteOf c.ownAddress) 63#8 _)) hown
    · exact howed
    · exact hspacing

/-! ### The end of an attempt (R145, R156, R157, R165) -/

/-- A restart taken with these counters, block by block (R165, R172). -/
theorem State.restartTaken_holds {s t : State} (hstartup : t.startup = s.startup) (hinputs : t.inputs = s.inputs)
    (hpending : t.pending = s.pending) : t.restartTaken.station = .starting ∧
      t.restartTaken.startup = .starting s.startup.supplyInRange ∧ t.restartTaken.counters = t.counters ∧
      HoldsResetValues s t.restartTaken := by
  refine ⟨rfl, ?_, rfl, rfl, ?_, rfl, rfl, rfl, rfl, rfl, rfl, rfl, hpending⟩
  · exact congrArg (fun x : StartUp => StartUp.starting x.supplyInRange) hstartup
  · exact congrArg Inputs.afterReset hinputs

theorem TxClass.capturesContent_iff (cls : TxClass) : cls.capturesContent = true ↔ cls = .alert ∨ cls = .status := by
  cases cls <;> simp [TxClass.capturesContent]

theorem exec_txComplete {s : State} {cls : TxClass} {bytes : List Byte} (h : s.bus.transmitter = .sending cls bytes) :
    exec .txComplete s =
      let sent := s.bus.dropHead cls
      let left := (s.count .txGood).setBus { sent with
        transmitter := if sent.queues.nonEmpty = [] then .atRest else .waitingIdle
        credits := if s.settings.selection = .weighted then s.bus.credits.spend cls else s.bus.credits }
      if s.bus.headRestarts cls then .next left.restartTaken else .next left := by
  change execTxComplete s = _
  unfold execTxComplete
  rw [h]

theorem exec_collision {s : State} {cls : TxClass} {bytes : List Byte} (h : s.bus.transmitter = .sending cls bytes) :
    exec .collision s =
      let dropped := ((s.count .txCollision).count .txDrop).setBus { s.bus.dropHead cls with transmitter := .backoff }
      if s.bus.lastAttempt cls then
        if s.bus.headRestarts cls then .next dropped.restartTaken else .next dropped
      else .next ((s.count .txCollision).setBus { s.bus with
        queues := s.bus.queues.put cls (retryHead cls (s.bus.queues.get cls)), transmitter := .backoff }) := by
  change execCollision s = _
  unfold execCollision
  rw [h]

/-- Settles O51: TX_COMPLETE and COLLISION by the head frame and its attempts. -/
theorem transmissionEndsOrCollides : Obligations.TransmissionEndsOrCollides := by
  unfold Obligations.TransmissionEndsOrCollides
  intro s cls bytes f rest ht hget
  have hdrop : s.bus.dropHead cls = { s.bus with queues := s.bus.queues.put cls rest } := by
    unfold BusInterface.dropHead
    rw [hget]
    rfl
  have hlast : s.bus.lastAttempt cls = decide (7 ≤ f.attempts) := by
    unfold BusInterface.lastAttempt
    rw [hget]
    rfl
  rw [exec_txComplete ht, exec_collision ht, hdrop, hlast]
  dsimp only
  refine ⟨fun hr => ?_, fun hr => ?_, fun hfew => ?_, fun hmany hr => ?_, fun hmany hr => ?_⟩
  · rw [hr]
    refine ⟨_, rfl, rfl, ?_, ?_⟩
    · simp only [Queues.nonEmpty_eq_nil_iff_empty]
      rfl
    · simp [onlyChanges_iff, State.count]
  · rw [hr]
    obtain ⟨hstation, hstartup, hcounters, hvalues⟩ := State.restartTaken_holds (s := s)
      (t := (s.count .txGood).setBus _) rfl rfl rfl
    exact ⟨_, rfl, hstation, hcounters, hstartup, hvalues⟩
  · rw [decide_eq_false (by omega), hget, retryHead_cons]
    refine ⟨_, rfl, rfl, ?_, ?_⟩
    · simp only [TxClass.capturesContent_iff]
      rfl
    · simp [onlyChanges_iff, State.count]
  · rw [decide_eq_true hmany, hr]
    refine ⟨_, rfl, rfl, rfl, ?_⟩
    simp [onlyChanges_iff, State.count]
  · rw [decide_eq_true hmany, hr]
    obtain ⟨hstation, hstartup, hcounters, hvalues⟩ := State.restartTaken_holds (s := s)
      (t := ((s.count .txCollision).count .txDrop).setBus _) rfl rfl rfl
    exact ⟨_, rfl, hstation, hcounters, hstartup, hvalues⟩

end Sys2Proof.Machine
end

section
/-! PROOFS. When a STATUS is queued (R100, R149, R150). -/

namespace Sys2Proof.Machine

/-! ### What else a frame that joins leaves alone -/

/-- One when a STATUS is on the line. -/
def Transmitter.statusesOnLine : Transmitter → Nat
  | .sending .status _ => 1
  | _ => 0

theorem BusInterface.hasPending_status (b : BusInterface) :
    b.hasPending .status = decide (b.transmitter.statusesOnLine < b.queues.status.length) := by
  unfold BusInterface.hasPending Transmitter.statusesOnLine
  cases b.transmitter with
  | sending cls bytes => cases cls <;> rfl
  | _ => rfl

/-- The spacing timer, the owed mark and the STATUS on the line. -/
def BusInterface.statusTimes (b : BusInterface) : Timer × Bool × Nat :=
  (b.spacingTimer, b.owed, b.transmitter.statusesOnLine)

theorem State.enterGap_statusTimes (s : State) (h : s.bus.transmitter.statusesOnLine = 0) :
    s.enterGap.bus.statusTimes = s.bus.statusTimes := by
  unfold State.enterGap
  split
  · simp only [BusInterface.statusTimes, h]
    rfl
  · dsimp only
    split <;> simp only [BusInterface.statusTimes, h] <;> rfl

theorem State.frameJoined_statusTimes (s : State) : s.frameJoined.bus.statusTimes = s.bus.statusTimes := by
  unfold State.frameJoined
  split
  · rename_i hrest
    split
    · exact s.enterGap_statusTimes (by rw [hrest]; rfl)
    · simp [BusInterface.statusTimes, hrest, Transmitter.statusesOnLine]
  · rfl

theorem State.join_statusTimes (s : State) (cls : TxClass) (content : FrameContent) :
    (s.join cls content).bus.statusTimes = s.bus.statusTimes := State.frameJoined_statusTimes _

/-! ### What a telling reads -/

/-- From `s` to `t` nothing has changed that a significant change is found by or told with: the rows, the STATUSes
pending, the spacing timer and the owed mark. -/
structure State.SameTelling (s t : State) : Prop where
  rows : t.guide.rows = s.guide.rows
  queue : t.bus.queues.status = s.bus.queues.status
  times : t.bus.statusTimes = s.bus.statusTimes

namespace State.SameTelling

variable {s t u : State}

theorem refl (s : State) : s.SameTelling s := ⟨rfl, rfl, rfl⟩

theorem trans (h : s.SameTelling u) (k : u.SameTelling t) : s.SameTelling t :=
  ⟨k.rows.trans h.rows, k.queue.trans h.queue, k.times.trans h.times⟩

theorem of_bus (hrows : t.guide.rows = s.guide.rows) (hbus : t.bus = s.bus) : s.SameTelling t :=
  ⟨hrows, by rw [hbus], by rw [hbus]⟩

theorem spacingTimer (h : s.SameTelling t) : t.bus.spacingTimer = s.bus.spacingTimer := congrArg Prod.fst h.times

theorem owed (h : s.SameTelling t) : t.bus.owed = s.bus.owed := congrArg (fun x => x.2.1) h.times

theorem hasPending (h : s.SameTelling t) : t.bus.hasPending .status = s.bus.hasPending .status := by
  have hline : t.bus.transmitter.statusesOnLine = s.bus.transmitter.statusesOnLine := congrArg (fun x => x.2.2) h.times
  rw [BusInterface.hasPending_status, BusInterface.hasPending_status, hline, h.queue]

end State.SameTelling

/-- From `s` to `t` a significant change has been told, and no other: the statement's predicate, kept folded. -/
structure State.Tells (s t : State) : Prop where
  change : s.TellsSignificantChange t

/-- A telling found from a state is one found from any other that it reads the same. -/
theorem State.Tells.before {s t u : State} (k : u.Tells t) (h : s.SameTelling u) : s.Tells t := by
  obtain ⟨k⟩ := k
  refine ⟨?_⟩
  unfold State.TellsSignificantChange at k ⊢
  rwa [h.rows, h.hasPending, h.queue, h.spacingTimer, h.owed] at k

/-- After a telling, what leaves alone what it reads leaves it a telling. -/
theorem State.Tells.after {s t u : State} (k : s.Tells u) (h : u.SameTelling t) : s.Tells t := by
  obtain ⟨k⟩ := k
  refine ⟨?_⟩
  unfold State.TellsSignificantChange at k ⊢
  rwa [h.rows, h.queue, h.spacingTimer, h.owed]

theorem State.join_sameTelling (s : State) {cls : TxClass} (hcls : cls ≠ .status) (content : FrameContent) :
    s.SameTelling (s.join cls content) := by
  refine ⟨by simp, ?_, s.join_statusTimes cls content⟩
  rw [State.join_queues]
  cases cls with
  | status => exact absurd rfl hcls
  | _ => rfl

theorem State.queueAlert_sameTelling (s : State) : s.SameTelling s.queueAlert := by
  unfold State.queueAlert
  split
  · exact s.join_sameTelling (by decide) _
  · exact .refl s

theorem State.onLine_sameTelling (s : State) (r : Receiver) (a : Assembler) : s.SameTelling (s.onLine r a) := by
  refine ⟨rfl, rfl, ?_⟩
  cases h : s.bus.transmitter <;> simp [BusInterface.statusTimes, State.onLine, State.lineBusy, Transmitter.statusesOnLine, h]

theorem State.frameAccepted_sameTelling (s : State) : s.SameTelling s.frameAccepted :=
  (s.onLine_sameTelling .hunting .awaitIdle).trans (.of_bus rfl rfl)

/-! ### Significant changes (R100) -/

theorem Rows.significant_iff (old new : Rows) : old.significant new = true ↔ SignificantChange old new := by
  have hrow (o n : Row) : o.significant n = true ↔ ¬(o.cost < 15 ↔ n.cost < 15) ∨ ¬(o.exit = .here ↔ n.exit = .here) := by
    by_cases h1 : o.cost < 15 <;> by_cases h2 : n.cost < 15 <;> by_cases h3 : o.exit = .here <;> by_cases h4 : n.exit = .here <;>
      simp [Row.significant, h1, h2, h3, h4]
  simp [Rows.significant, SignificantChange, hrow, Rows.get, or_assoc]

theorem SignificantChange.irrefl (r : Rows) : ¬SignificantChange r r := by
  rw [← Rows.significant_iff, Rows.significant_self]
  simp

/-- With rows that have not changed there is nothing to tell. -/
theorem State.SameTelling.tells_nothing {s t : State} (h : s.SameTelling t) : s.Tells t := by
  refine ⟨?_⟩
  unfold State.TellsSignificantChange
  rw [h.rows, if_neg (fun hchange => SignificantChange.irrefl _ hchange.1)]
  exact ⟨h.queue, h.spacingTimer, h.owed⟩

/-! ### A STATUS queued (R149, R150) -/

theorem State.queueStatus_of_pending {s : State} (h : s.bus.hasPending .status = true) : s.queueStatus = s := if_pos h

theorem State.queueStatus_bus_times {s : State} (h : s.bus.hasPending .status = false) :
    s.queueStatus.bus.spacingTimer = some 1000 ∧ s.queueStatus.bus.owed = false := by
  have htimes := State.join_statusTimes (s.setBus { s.bus with spacingTimer := some 1000, owed := false }) .status .status
  have hjoin : s.queueStatus = (s.setBus { s.bus with spacingTimer := some 1000, owed := false }).join .status .status :=
    if_neg (by simp [h])
  rw [hjoin]
  exact ⟨congrArg Prod.fst htimes, congrArg (fun x => x.2.1) htimes⟩

/-- A significant change told: a STATUS queued, or owed, or nothing with one pending (R150). -/
theorem State.tellSignificant_tells {s : State} {old : Rows} (h : SignificantChange old s.guide.rows) :
    (s.setGuide { s.guide with rows := old }).Tells s.tellSignificant := by
  refine ⟨?_⟩
  unfold State.TellsSignificantChange
  rw [State.tellSignificant_guide]
  cases hp : s.bus.hasPending .status with
  | true =>
    have hnothing : s.tellSignificant = s := if_pos hp
    rw [if_neg (by simp [hp]), hnothing]
    exact ⟨rfl, rfl, rfl⟩
  | false =>
    rw [if_pos ⟨h, hp⟩]
    cases hspacing : s.bus.spacingTimer with
    | none =>
      have hqueued : s.tellSignificant = s.queueStatus := by simp [State.tellSignificant, hp, hspacing]
      obtain ⟨htimer, howed⟩ := State.queueStatus_bus_times hp
      refine ⟨fun _ => ⟨?_, hqueued ▸ htimer, hqueued ▸ howed⟩, fun hne => absurd hspacing hne⟩
      rw [hqueued, s.queueStatus_queues, hp]
      rfl
    | some n =>
      have howes : s.tellSignificant = s.setBus { s.bus with owed := true } := by simp [State.tellSignificant, hp, hspacing]
      rw [howes]
      exact ⟨fun hne => absurd (hspacing.symm.trans hne) nofun, fun _ => ⟨rfl, rfl, rfl⟩⟩

/-! ### The Guidance Unit told -/

theorem State.guidanceTold_tells (s : State) (cause : Bool) : s.Tells (s.guidanceTold cause false) := by
  have hformed : s.SameTelling (s.setGuide { s.guide with closed := s.closureHolds }) := .of_bus rfl rfl
  have hshownBus : s.shown.bus = s.bus := by
    unfold State.shown State.formImages State.rowsEvaluated
    split <;> rfl
  unfold State.guidanceTold
  dsimp only
  split
  · change s.Tells (if (!false && s.guide.rows.significant s.shown.guide.rows) = true then s.shown.tellSignificant else s.shown)
    split
    · rename_i hsignificant
      have hchange : SignificantChange s.guide.rows s.shown.guide.rows := by
        rw [← Rows.significant_iff]
        simpa using hsignificant
      have hbefore : s.SameTelling (s.shown.setGuide { s.shown.guide with rows := s.guide.rows }) := .of_bus rfl hshownBus
      exact (State.tellSignificant_tells hchange).before hbefore
    · rename_i hnot
      have hnone : ¬SignificantChange s.guide.rows s.shown.guide.rows := by
        rw [← Rows.significant_iff]
        simpa using hnot
      refine ⟨?_⟩
      unfold State.TellsSignificantChange
      rw [if_neg (fun h => hnone h.1), hshownBus]
      exact ⟨rfl, rfl, rfl⟩
  · exact hformed.tells_nothing

/-- The closure state is its sources', and in NORMAL the rows are an evaluation's. -/
structure State.Evaluated (s : State) : Prop where
  closed : s.guide.closed = s.closureHolds
  rows : s.station = .normal → s.guide.rows = s.evaluateRoutes

theorem State.guidanceTold_evaluated (s : State) (atCapture : Bool) : (s.guidanceTold true atCapture).Evaluated := by
  refine ⟨?_, fun hst => State.guidanceTold_rows rfl (by simpa using hst)⟩
  rw [State.guidanceTold_closed]
  simp [State.closureHolds]

/-- Evaluated once more, the rows are the same. -/
theorem State.Evaluated.shown_rows {s : State} (h : s.Evaluated) : s.shown.guide.rows = s.guide.rows := by
  rw [State.shown_rows]
  split
  · rename_i hst
    have hsame : s.setGuide { s.guide with closed := s.closureHolds } = s := by
      rw [← h.closed]
      rfl
    rw [hsame, h.rows hst]
  · rfl

/-- Told once more, it finds the same rows and tells nothing. -/
theorem State.Evaluated.told_again {s : State} (h : s.Evaluated) (cause : Bool) : s.SameTelling (s.guidanceTold cause false) := by
  have hshownBus : s.shown.bus = s.bus := by
    unfold State.shown State.formImages State.rowsEvaluated
    split <;> rfl
  unfold State.guidanceTold
  dsimp only
  split
  · change s.SameTelling (if (!false && s.guide.rows.significant s.shown.guide.rows) = true then s.shown.tellSignificant else s.shown)
    rw [h.shown_rows, Rows.significant_self]
    exact .of_bus h.shown_rows hshownBus
  · exact .of_bus rfl rfl

/-! ### The other blocks, and what they have the Guidance Unit told -/

theorem State.allocate_tells (s : State) : s.Tells s.allocate := by
  obtain ⟨heq, -⟩ | heq := s.allocate_cases
  · exact State.SameTelling.tells_nothing (.of_bus (by rw [heq]; rfl) (by rw [heq]; rfl))
  · have hvent : s.SameTelling (s.setVent s.allocate.vent) := .of_bus rfl rfl
    have htold := (State.guidanceTold_tells (s.setVent s.allocate.vent) true).before hvent
    rwa [← heq] at htold

/-- An allocation pass that tells of VENT_LOST and then a telling of its own: the rows are evaluated at the first. -/
theorem State.allocate_told_tells (s : State) (cause : Bool) : s.Tells (s.allocate.guidanceTold cause false) := by
  obtain ⟨heq, -⟩ | heq := s.allocate_cases
  · have hvent : s.SameTelling s.allocate := .of_bus (by rw [heq]; rfl) (by rw [heq]; rfl)
    exact (State.guidanceTold_tells _ _).before hvent
  · have hevaluated : s.allocate.Evaluated := heq ▸ State.guidanceTold_evaluated _ _
    exact s.allocate_tells.after (hevaluated.told_again cause)

theorem State.recompute_tells (s : State) (b : Bool) : s.Tells (s.recompute b) := by
  unfold State.recompute
  dsimp only
  split
  · exact (State.allocate_tells _).before (.of_bus rfl rfl)
  · exact (State.SameTelling.refl s).tells_nothing

theorem State.recompute_told_tells (s : State) (b cause : Bool) :
    s.Tells ((s.recompute b).guidanceTold cause false) := by
  unfold State.recompute
  dsimp only
  split
  · exact (State.allocate_told_tells _ cause).before (.of_bus rfl rfl)
  · exact s.guidanceTold_tells cause

theorem State.changeBay_tells (s : State) (n : Nat) (f : Bay → Bay) : s.Tells (s.changeBay n f) := by
  have hbays : s.SameTelling (s.setBays (s.bays.mapBay n f)) := .of_bus rfl rfl
  unfold State.changeBay
  dsimp only
  split
  · exact (State.guidanceTold_tells _ _).before hbays
  · exact hbays.tells_nothing

theorem State.peersChanged_tellsChange (s : State) (slots : List (Option Peer)) (statusFromDrive : Bool) :
    s.Tells (s.peersChanged slots statusFromDrive) := by
  have hpeers : s.SameTelling (s.setPeers { s.peers with
    slots := slots, sympathy := sympathyHolds s.settings.levelNumber slots }) := .of_bus rfl rfl
  unfold State.peersChanged
  dsimp only
  split <;> split
  · exact (State.recompute_told_tells _ _ _).before hpeers
  · exact (State.guidanceTold_tells _ _).before hpeers
  · exact (State.recompute_tells _ _).before hpeers
  · exact hpeers.tells_nothing

theorem State.takeBulletin_tells (s : State) (source : Byte) (b : Bulletin) : s.Tells (s.takeBulletin source b) := by
  have hcounted (n : CounterName) : s.SameTelling (s.count n) := .of_bus rfl rfl
  unfold State.takeBulletin
  dsimp only
  split
  · exact (hcounted _).tells_nothing
  · split
    · exact (hcounted _).tells_nothing
    · split
      · exact (hcounted _).tells_nothing
      · exact (State.peersChanged_tellsChange _ _ _).after (.of_bus rfl rfl)

theorem State.formForcing_sameTelling (s : State) : s.SameTelling s.formForcing := .of_bus (by simp) (by simp)

theorem State.airSample_tells (s : State) : s.Tells s.airSample := by
  have hair (a : AirMonitor) : s.SameTelling (s.setAir a).queueAlert :=
    (State.SameTelling.of_bus (s := s) (t := s.setAir a) rfl rfl).trans (State.queueAlert_sameTelling _)
  unfold State.airSample State.airSettled
  dsimp only
  split
  · exact (State.recompute_tells _ _).before (.of_bus rfl rfl)
  · refine ((State.recompute_told_tells _ true true).before ?_).after (State.formForcing_sameTelling _)
    exact hair _

theorem State.afterPoll_tells (s : State) (n : Nat) : s.Tells (s.afterPoll n) := by
  unfold State.afterPoll
  split
  · exact State.SameTelling.tells_nothing (.of_bus rfl rfl)
  · unfold State.roundEnds
    split
    · exact State.SameTelling.tells_nothing (.of_bus rfl rfl)
    · exact (State.airSample_tells _).before (.of_bus rfl rfl)

theorem State.startRound_tells (s : State) : s.Tells s.startRound := by
  have hstarted : s.SameTelling (s.setAir { s.air with roundTimer := some (seconds 1), poll := none }) := .of_bus rfl rfl
  unfold State.startRound
  dsimp only
  split
  · split
    · exact ((State.airSample_tells _).before hstarted).after (.of_bus rfl rfl)
    · exact (State.airSample_tells _).before hstarted
  · exact (State.afterPoll_tells _ _).before hstarted

theorem State.endRead_tells (s : State) (r : BayRead) (a : BayAnswer) : s.Tells (s.endRead r a) := by
  have hread (u : State) : u.SameTelling (u.readAfter r.bay) := by
    unfold State.readAfter
    split <;> exact .of_bus rfl rfl
  unfold State.endRead
  split
  · exact (hread s).tells_nothing
  · refine State.Tells.after ?_ (hread _)
    unfold State.bayAnswered
    split
    · exact (State.SameTelling.refl s).tells_nothing
    · dsimp only
      split
      · exact (State.changeBay_tells _ _ _).after (.of_bus rfl rfl)
      · exact State.changeBay_tells _ _ _

/-! ### Service commands -/

theorem CommandEffect.tells {s t : State} {code : Nat} (e : CommandEffect s code t) : s.Tells t := by
  cases e with
  | nothing => exact (State.SameTelling.refl s).tells_nothing
  | countersCleared => exact State.SameTelling.tells_nothing (.of_bus rfl rfl)
  | overrideSet => exact (State.recompute_tells _ _).before (.of_bus rfl rfl)
  | overrideCleared => exact (State.recompute_tells _ _).before (.of_bus rfl rfl)
  | lockedOut => exact (State.allocate_tells _).before (.of_bus rfl rfl)
  | returned => exact (State.allocate_tells _).before (.of_bus rfl rfl)
  | reserved => exact State.changeBay_tells _ _ _
  | released => exact State.changeBay_tells _ _ _
  | putOut => exact (State.changeBay_tells _ _ _).before (.of_bus rfl rfl)
  | broughtIn => exact State.changeBay_tells _ _ _
  | serviceClose => exact (State.guidanceTold_tells _ _).before (.of_bus rfl rfl)
  | lightSet => exact State.SameTelling.tells_nothing (.of_bus rfl rfl)
  | lightCleared => exact State.SameTelling.tells_nothing (.of_bus rfl rfl)

theorem ServiceEffect.tells {s t : State} {code : Nat} (e : ServiceEffect s code t) (hcode : code ≠ 0x7F) :
    s.Tells t := by
  cases e with
  | nothing => exact (State.SameTelling.refl s).tells_nothing
  | overrun => exact State.SameTelling.tells_nothing (.of_bus rfl rfl)
  | unanswered _ _ e => exact e.tells
  | answered _ _ _ e => exact e.tells.after (State.join_sameTelling _ (by decide) _)
  | restartAnswered _ _ h => exact absurd h hcode
  | restarted _ h => exact absurd h hcode

theorem FrameEffect.tells {s t : State} {codes : Nat → Prop} (e : FrameEffect s codes t) (hcodes : ∀ k, codes k → k ≠ 0x7F) :
    s.Tells t := by
  cases e with
  | passed => exact (State.SameTelling.refl s).tells_nothing
  | rejected n => exact State.SameTelling.tells_nothing ((s.onLine_sameTelling _ _).trans (.of_bus rfl rfl))
  | bulletin _ source b => exact (State.takeBulletin_tells _ source b).before s.frameAccepted_sameTelling
  | service code hcode _ e => exact (e.tells (hcodes code hcode)).before s.frameAccepted_sameTelling

/-- No command that may evaluate is a character or a RESTART. -/
theorem bringsCode_of_mayEvaluate {c : Instr} (h : mayEvaluate c = true) (code : Nat) (hcode : bringsCode c code) : code ≠ 0x7F := by
  obtain ⟨b, rfl⟩ | ⟨f, hf, rfl⟩ := hcode
  · cases h
  · cases c <;> cases hf
    case inr.restart.refl => cases h
    case inr.unknownCommand.refl => cases h
    all_goals exact of_decide_eq_true rfl

theorem Effect.tells {s t : State} {c : Instr} (e : Effect s c t) (h : mayEvaluate c = true) : s.Tells t := by
  cases e with
  | nothing => exact (State.SameTelling.refl s).tells_nothing
  | fallsBack => exact (State.allocate_tells _).before (.of_bus rfl rfl)
  | entersNormal => exact (State.guidanceTold_tells _ _).before (.of_bus rfl rfl)
  | roundStarts => exact s.startRound_tells
  | headAnswers => exact (State.afterPoll_tells _ _).before (.of_bus rfl rfl)
  | headMisses => exact (State.afterPoll_tells _ _).before (.of_bus rfl rfl)
  | sampled => exact s.airSample_tells
  | purgeWorking _ _ _ taken ht =>
    have htaken : s.SameTelling taken.queueAlert :=
      State.SameTelling.trans (.of_bus (by rw [ht]; rfl) (by rw [ht]; rfl)) taken.queueAlert_sameTelling
    exact ((State.recompute_told_tells _ _ _).before htaken).after (State.formForcing_sameTelling _)
  | purgeResting _ _ _ _ taken ht =>
    exact (taken.guidanceTold_tells false).before (.of_bus (by rw [ht]; rfl) (by rw [ht]; rfl))
  | confirmKept => exact State.SameTelling.tells_nothing (.of_bus rfl rfl)
  | lossSet => exact State.SameTelling.tells_nothing (.of_bus rfl rfl)
  | fanFails => exact (State.allocate_tells _).before (.of_bus rfl rfl)
  | readEnds _ _ r _ a => exact s.endRead_tells r a
  | reservationExpires => exact s.changeBay_tells _ _
  | swept => exact (State.peersChanged_tellsChange _ _ _).before (.of_bus rfl rfl)
  | signsMarked => exact State.SameTelling.tells_nothing (.of_bus rfl rfl)
  | charactersGathered => exact State.SameTelling.tells_nothing (.of_bus rfl rfl)
  | signAnswered => exact State.SameTelling.tells_nothing (.of_bus rfl rfl)
  | blankSent => exact State.SameTelling.tells_nothing (.of_bus (by rw [State.setGuide_guide, Guidance.sendFallback_eq]) rfl)
  | blankDue => exact State.SameTelling.tells_nothing (.of_bus rfl rfl)
  | line => exact (s.onLine_sameTelling _ _).tells_nothing
  | lineCounted => exact State.SameTelling.tells_nothing ((s.onLine_sameTelling _ _).trans (.of_bus rfl rfl))
  | frame _ _ _ e => exact e.tells (bringsCode_of_mayEvaluate h)
  | reset _ _ _ _ _ _ _ hc =>
    simp only [List.mem_cons, List.not_mem_nil, or_false] at hc
    obtain rfl | rfl | rfl | rfl := hc <;> cases h
  | _ => exact absurd h Bool.false_ne_true

/-! ### The timers of STATUS (R149, R150) -/

theorem State.join_periodTimer (s : State) (cls : TxClass) (content : FrameContent) :
    (s.join cls content).bus.periodTimer = s.bus.periodTimer := by
  have hgap (u : State) : u.enterGap.bus.periodTimer = u.bus.periodTimer := by
    unfold State.enterGap
    split
    · rfl
    · dsimp only
      split <;> rfl
  unfold State.join State.frameJoined
  split
  · split
    · exact hgap _
    · rfl
  · rfl

/-- A STATUS queued, part by part: absorbed into a pending one, or added (R146, R149). -/
theorem State.queueStatus_parts (s : State) :
    s.queueStatus.bus.queues = (if s.bus.hasPending .status then s.bus.queues else { s.bus.queues with
        status := s.bus.queues.status ++ [{ content := .status, attempts := 0 }] }) ∧
      s.queueStatus.bus.spacingTimer = (if s.bus.hasPending .status then s.bus.spacingTimer else some 1000) ∧
      s.queueStatus.bus.owed = (if s.bus.hasPending .status then s.bus.owed else false) ∧
      s.queueStatus.bus.periodTimer = s.bus.periodTimer := by
  refine ⟨s.queueStatus_queues, ?_⟩
  cases hp : s.bus.hasPending .status with
  | true => rw [State.queueStatus_of_pending hp]; exact ⟨rfl, rfl, rfl⟩
  | false =>
    obtain ⟨htimer, howed⟩ := State.queueStatus_bus_times hp
    refine ⟨htimer, howed, ?_⟩
    unfold State.queueStatus
    rw [hp]
    exact State.join_periodTimer _ _ _

/-- Settles O48: every command that may evaluate by what it can do; then the two timers. -/
theorem statusTimersQueueAStatus : Obligations.StatusTimersQueueAStatus := by
  unfold Obligations.StatusTimersQueueAStatus
  intro s cause c
  refine ⟨(s.guidanceTold_tells cause).change, s.guidanceTold_capture_bus cause, fun hmay => ?_, fun hw hperiod => ?_, fun hw hspacing => ?_⟩
  · obtain ⟨t, ht, -⟩ := everyCommandCompletesAndKeepsTheQueue c s
    exact ⟨t, ht, ((exec_effect ht).tells hmay).change⟩
  · have hexec : exec .statusPeriodTimerExpiry s =
        .next (s.setBus { s.bus with periodTimer := some (seconds s.settings.statusPeriod) }).queueStatus :=
      if_pos (by simp [hw, Option.isSome_iff_ne_none.mpr hperiod])
    rw [hexec]
    obtain ⟨hqueues, htimer, howed, hsame⟩ :=
      (s.setBus { s.bus with periodTimer := some (seconds s.settings.statusPeriod) }).queueStatus_parts
    refine ⟨_, rfl, ?_, hqueues, htimer, howed, ?_⟩
    · rw [hsame, ← seconds_eq]
      rfl
    · simp [onlyChanges_iff]
  · have hexec : exec .spacingTimerExpiry s = if s.bus.owed
        then .next (s.setBus { s.bus with spacingTimer := none, owed := false }).queueStatus
        else .next (s.setBus { s.bus with spacingTimer := none, owed := false }) :=
      if_pos (by simp [hw, Option.isSome_iff_ne_none.mpr hspacing])
    rw [hexec]
    cases ho : s.bus.owed with
    | false => exact ⟨_, rfl, rfl, rfl, rfl, rfl, by simp [onlyChanges_iff]⟩
    | true =>
      obtain ⟨hqueues, htimer, howed, hperiod⟩ :=
        (s.setBus { s.bus with spacingTimer := none, owed := false }).queueStatus_parts
      have hpending : (s.setBus { s.bus with spacingTimer := none, owed := false }).bus.hasPending .status = s.bus.hasPending .status := rfl
      rw [hpending] at hqueues htimer howed
      refine ⟨_, rfl, ?_, ?_, ?_, hperiod, by simp [onlyChanges_iff]⟩
      · rw [howed]
        split <;> rfl
      · rw [hqueues]
        cases s.bus.hasPending .status <;> rfl
      · rw [htimer]
        cases s.bus.hasPending .status <;> rfl

end Sys2Proof.Machine
end

section
/-! PROOFS. The step: the queue's front, the clock, and what it finds due (log 1, log 18, log 24). -/

namespace Sys2Proof.Machine

/-! ### One millisecond -/

theorem TimeLimit.tick_eq : TimeLimit.tick = limitLessOne := by
  funext l
  cases l <;> rfl

theorem FilteredInput.tick_eq : FilteredInput.tick = FilteredInput.stoodOneMore := by
  funext i
  unfold FilteredInput.tick FilteredInput.stoodOneMore saturatingSucc
  split <;> rfl

theorem Inputs.tick_eq (i : Inputs) (working : Bool) : i.tick working =
    { i with
      purge := i.purge.stoodOneMore, runConfirm := i.runConfirm.map FilteredInput.stoodOneMore
      outerLoops := if working then i.outerLoops.map FilteredInput.stoodOneMore else i.outerLoops
      innerLoops := if working then i.innerLoops.map FilteredInput.stoodOneMore else i.innerLoops
      motion := if working then i.motion.map FilteredInput.stoodOneMore else i.motion } := by
  unfold Inputs.tick
  rw [FilteredInput.tick_eq]
  cases working <;> rfl

theorem Channel.tick_eq : Channel.tick = fun c => { c with
    hold := lessOne c.hold, dim := lessOne c.dim
    override := c.override.map (fun o => { level := o.level, limit := limitLessOne o.limit }) } := by
  funext c
  simp only [Channel.tick, TimeLimit.tick_eq]
  rfl

/-- One millisecond of every timer, limit and filter that runs, and nothing else (log 1). -/
theorem State.tick_oneMillisecond (s : State) : s.OneMillisecond s.tick := by
  unfold State.OneMillisecond
  refine ⟨fun hst => ?_, fun hst => ?_⟩
  · exact if_pos hst
  · have htick : s.tick = { s with
        startup := s.startup.tick, inputs := s.inputs.tick s.working, air := s.air.tick, vent := s.vent.tick
        bays := s.bays.tick, peers := { s.peers with sweepTimer := s.peers.sweepTimer.tick }
        guide := s.guide.tick, light := s.light.tick, bus := s.bus.tick } := if_neg hst
    rw [htick, Inputs.tick_eq]
    refine ⟨by simp [onlyChanges_iff], rfl, rfl, rfl, ?_, rfl, ?_, ?_, rfl, rfl, ?_, rfl⟩
    · cases s.working <;> exact ⟨rfl, rfl, rfl⟩
    · simp only [Ventilation.tick, TimeLimit.tick_eq]
      rfl
    · simp only [BayMonitor.tick, TimeLimit.tick_eq]
      rfl
    · exact congrArg (fun f => { s.light with channels := s.light.channels.map f, repeatTimers := s.light.repeatTimers.map lessOne })
        Channel.tick_eq

/-! ### What is due -/

theorem mem_whenDue {due : Bool} {c d : Instr} : d ∈ whenDue due c ↔ due = true ∧ d = c := by
  cases due <;> simp [whenDue]

theorem Timer.out_iff {t : Timer} : t.out = true ↔ t = some 0 := by simp [Timer.out]

theorem TimeLimit.out_iff {l : TimeLimit} : l.out = true ↔ l = .remaining 0 := by simp [TimeLimit.out]

theorem Option.any_iff {α : Type} {o : Option α} {p : α → Bool} : o.any p = true ↔ ∃ a ∈ o.toList, p a = true := by
  cases o <;> simp

theorem FilteredInput.settled_iff {i : FilteredInput} {level : Bool} : i.Settled level ↔ i.changes = true ∧ i.line = level := by
  unfold FilteredInput.Settled FilteredInput.changes
  simp only [Bool.and_eq_true, bne_iff_ne, ne_eq, decide_eq_true_eq]
  constructor
  · rintro ⟨rfl, hne, hstood⟩
    exact ⟨⟨fun h => hne h.symm, hstood⟩, rfl⟩
  · rintro ⟨⟨hne, hstood⟩, rfl⟩
    exact ⟨rfl, fun h => hne h.symm, hstood⟩

/-- The inputs of a list with their numbers, from 1 on. -/
theorem mem_zipIdx_inputs {inputs : List FilteredInput} {i : FilteredInput} {k : Nat} :
    (i, k) ∈ inputs.zipIdx ↔ inputAt? inputs (k + 1) = some i := by
  simp [inputAt?, List.mem_zipIdx_iff_getElem?]

/-- The filtered changes of a list of inputs: one for each whose line has stood long enough. -/
theorem mem_filterChanges {inputs : List FilteredInput} {command : Nat → Bool → Instr} {c : Instr} :
    c ∈ filterChanges inputs command ↔ ∃ n, ∃ i ∈ (inputAt? inputs n).toList, i.changes = true ∧ c = command n i.line := by
  unfold filterChanges
  simp only [List.mem_map, List.mem_filter, Prod.exists, Option.mem_toList]
  constructor
  · rintro ⟨i, k, ⟨hmem, hchanges⟩, rfl⟩
    exact ⟨k + 1, i, mem_zipIdx_inputs.mp hmem, hchanges, rfl⟩
  · rintro ⟨n, i, hi, hchanges, rfl⟩
    obtain ⟨k, rfl⟩ := Nat.exists_eq_succ_of_ne_zero (ne_zero_of_inputAt? hi)
    exact ⟨i, k, ⟨mem_zipIdx_inputs.mpr hi, hchanges⟩, rfl⟩

theorem State.mem_loopChanges {s : State} {inputs : List FilteredInput} {loop : Loop} {c : Instr} :
    c ∈ s.loopChanges inputs loop ↔ ∃ n, (s.bays.gate? n).isSome = true ∧
      ∃ i ∈ (inputAt? inputs n).toList, i.changes = true ∧ c = .loopChange n loop i.line := by
  unfold State.loopChanges
  simp only [List.mem_map, List.mem_filter, Prod.exists, Option.mem_toList, Bool.and_eq_true]
  constructor
  · rintro ⟨i, k, ⟨hmem, hchanges, hgate⟩, rfl⟩
    exact ⟨k + 1, hgate, i, mem_zipIdx_inputs.mp hmem, hchanges, rfl⟩
  · rintro ⟨n, hgate, i, hi, hchanges, rfl⟩
    obtain ⟨k, rfl⟩ := Nat.exists_eq_succ_of_ne_zero (ne_zero_of_inputAt? hi)
    exact ⟨i, k, ⟨mem_zipIdx_inputs.mpr hi, hchanges, hgate⟩, rfl⟩

theorem State.receiving_iff (s : State) : s.receiving = true ↔ s.station ∈ [.listening, .normal, .fallback] := by
  simp [State.receiving, State.working, or_assoc]

/-! ### Each part of the list of due commands, and what it says -/

theorem State.isDue_of_startupDue {s : State} {c : Instr} (h : c ∈ s.startupDue) : s.IsDue c := by
  simp only [State.startupDue, List.mem_append, mem_whenDue, Bool.and_eq_true, decide_eq_true_eq, Timer.out_iff,
    Bool.not_eq_true'] at h
  obtain (⟨⟨⟨⟨hst, ht⟩, hline⟩, hsupply⟩, rfl⟩ | ⟨⟨hst, ht⟩, rfl⟩) | ⟨⟨hst, ht⟩, rfl⟩ := h
  · exact ⟨hst, ht, hline, hsupply⟩
  · exact ⟨hst, ht⟩
  · exact ⟨hst, ht⟩

theorem State.isDue_of_filtersDue {s : State} {c : Instr} (h : c ∈ s.filtersDue) : s.IsDue c := by
  unfold State.filtersDue at h
  rw [List.mem_append] at h
  obtain h | h := h
  · split at h
    · cases h
    · rename_i hst
      rw [List.mem_append, mem_whenDue, mem_filterChanges] at h
      obtain ⟨hchanges, rfl⟩ | ⟨n, i, hi, hchanges, rfl⟩ := h
      · exact ⟨hst, FilteredInput.settled_iff.mpr ⟨hchanges, rfl⟩⟩
      · cases hline : i.line
        · exact ⟨hst, i, hi, FilteredInput.settled_iff.mpr ⟨hchanges, hline⟩⟩
        · exact ⟨hst, i, hi, FilteredInput.settled_iff.mpr ⟨hchanges, hline⟩⟩
  · split at h
    · rename_i hw
      simp only [List.mem_append, State.mem_loopChanges, mem_filterChanges] at h
      obtain (⟨n, hgate, i, hi, hchanges, rfl⟩ | ⟨n, hgate, i, hi, hchanges, rfl⟩) | ⟨n, i, hi, hchanges, rfl⟩ := h
      · exact ⟨hw, hgate, i, hi, FilteredInput.settled_iff.mpr ⟨hchanges, rfl⟩⟩
      · exact ⟨hw, hgate, i, hi, FilteredInput.settled_iff.mpr ⟨hchanges, rfl⟩⟩
      · exact ⟨hw, i, hi, FilteredInput.settled_iff.mpr ⟨hchanges, rfl⟩⟩
    · cases h

theorem State.isDue_of_airDue {s : State} {c : Instr} (h : c ∈ s.airDue) : s.IsDue c := by
  simp only [State.airDue, List.mem_append, mem_whenDue, Bool.and_eq_true, Timer.out_iff, Option.any_iff, decide_eq_true_eq,
    TimeLimit.out_iff] at h
  obtain (⟨hdue, rfl⟩ | ⟨hdue, rfl⟩) | ⟨hdue, rfl⟩ := h <;> exact hdue

theorem State.isDue_of_fansDue {s : State} {c : Instr} (h : c ∈ s.fansDue) : s.IsDue c := by
  simp only [State.fansDue, List.mem_flatMap, List.mem_append, mem_whenDue, Bool.and_eq_true, decide_eq_true_eq,
    Timer.out_iff] at h
  obtain ⟨f, hf, ((⟨⟨⟨hst, hfan⟩, ht⟩, rfl⟩ | ⟨⟨⟨hst, hfan⟩, ht⟩, rfl⟩) | ⟨⟨⟨hst, hfan⟩, ht⟩, rfl⟩) |
    ⟨⟨⟨hst, hfan⟩, ht⟩, rfl⟩⟩ := h
  · exact ⟨hst, f, hf, rfl, hfan, ht⟩
  · exact ⟨hst, f, hf, rfl, hfan, ht⟩
  · exact ⟨hst, f, hf, rfl, hfan, ht⟩
  · exact ⟨s.receiving_iff.mp hst, f, hf, rfl, hfan, ht⟩

theorem Option.any_out_iff {o : Option TimeLimit} : o.any TimeLimit.out = true ↔ o = some (.remaining 0) := by
  cases o <;> simp [TimeLimit.out_iff]

theorem State.isDue_of_baysDue {s : State} {c : Instr} (h : c ∈ s.baysDue) : s.IsDue c := by
  unfold State.baysDue at h
  split at h
  · rename_i hw
    simp only [List.mem_append, List.mem_flatMap, mem_whenDue, Bool.and_eq_true, decide_eq_true_eq, Timer.out_iff,
      Option.any_out_iff] at h
    obtain ((((⟨hdue, rfl⟩ | ⟨hdue, rfl⟩) | ⟨b, hb, ⟨hst, hdue⟩, rfl⟩) | ⟨g, hg, hdue, rfl⟩) |
      ⟨hdue, rfl⟩) | ⟨hdue, rfl⟩ := h
    · exact ⟨hw, hdue⟩
    · exact ⟨hw, by simpa [Option.any_iff] using hdue⟩
    · exact ⟨hw, b, hb, rfl, hst, hdue⟩
    · exact ⟨hw, g, hg, rfl, hdue⟩
    · exact ⟨hw, hdue⟩
    · exact ⟨hw, hdue⟩
  · cases h

theorem Guidance.nextDue_isSome_iff {g : Guidance} : g.nextDue.isSome = true ↔ ∃ x ∈ g.signs, x.due = true := by
  rw [Option.isSome_iff_ne_none, ne_eq, Guidance.nextDue_eq_none]
  simp

theorem State.isDue_of_signsDue {s : State} {c : Instr} (h : c ∈ s.signsDue) : s.IsDue c := by
  simp only [State.signsDue, List.mem_append, mem_whenDue, Bool.and_eq_true, decide_eq_true_eq, Timer.out_iff, Option.any_iff] at h
  obtain (h | ⟨hdue, rfl⟩) | ⟨hdue, rfl⟩ := h
  · split at h
    · rename_i hw
      simp only [List.mem_append, List.mem_flatMap, mem_whenDue, Bool.and_eq_true, Timer.out_iff, Option.isNone_iff_eq_none,
        Guidance.nextDue_isSome_iff] at h
      obtain ⟨g, hg, hdue, rfl⟩ | ⟨⟨hfree, hdue⟩, rfl⟩ := h
      · exact ⟨hw, g, hg, rfl, hdue⟩
      · exact ⟨hw, hfree, hdue⟩
    · cases h
  · exact hdue
  · exact hdue

theorem filteredAt_iff {inputs : List FilteredInput} {n : Nat} :
    filteredAt inputs n = true ↔ ∃ i ∈ (inputAt? inputs n).toList, i.filtered = true := by
  unfold filteredAt
  cases inputAt? inputs n <;> simp

theorem State.isDue_of_lightDue {s : State} {c : Instr} (h : c ∈ s.lightDue) : s.IsDue c := by
  unfold State.lightDue at h
  split at h
  · rename_i hw
    simp only [List.mem_append, List.mem_flatMap, mem_whenDue, Bool.and_eq_true, decide_eq_true_eq, Timer.out_iff,
      filteredAt_iff, Option.any_iff, TimeLimit.out_iff] at h
    obtain ⟨n, hn, ⟨hon, hdue⟩, rfl⟩ | ⟨k, hk, (⟨⟨hst, hdue⟩, rfl⟩ | ⟨⟨hst, hdue⟩, rfl⟩) | ⟨hdue, rfl⟩⟩ := h
    · exact ⟨hw, hn, hon, hdue⟩
    · exact ⟨hw, k, hk, rfl, hst, hdue⟩
    · exact ⟨hw, k, hk, rfl, hst, hdue⟩
    · exact ⟨hw, k, hk, rfl, hdue⟩
  · cases h

theorem State.isDue_of_statusDue {s : State} {c : Instr} (h : c ∈ s.statusDue) : s.IsDue c := by
  unfold State.statusDue at h
  split at h
  · rename_i hw
    simp only [List.mem_append, mem_whenDue, Timer.out_iff] at h
    obtain ⟨hdue, rfl⟩ | ⟨hdue, rfl⟩ := h <;> exact ⟨hw, hdue⟩
  · cases h

theorem State.isDue_of_roundEndDue {s : State} {c : Instr} (h : c ∈ s.roundEndDue) : s.IsDue c := by
  simp only [State.roundEndDue, mem_whenDue, Bool.and_eq_true] at h
  obtain ⟨hdue, rfl⟩ := h
  exact hdue

theorem State.mem_dueCommands {s : State} {c : Instr} : c ∈ s.dueCommands ↔ c ∈ s.roundEndDue ∨ c ∈ s.startupDue ∨
    c ∈ s.filtersDue ∨ c ∈ s.airDue ∨ c ∈ s.fansDue ∨ c ∈ s.baysDue ∨ c ∈ s.signsDue ∨ c ∈ s.lightDue ∨ c ∈ s.statusDue := by
  simp only [State.dueCommands, List.mem_append, or_assoc]

theorem State.isDue_of_dueCommands {s : State} {c : Instr} (h : c ∈ s.dueCommands) : s.IsDue c := by
  rw [State.mem_dueCommands] at h
  obtain h | h | h | h | h | h | h | h | h := h
  · exact State.isDue_of_roundEndDue h
  · exact State.isDue_of_startupDue h
  · exact State.isDue_of_filtersDue h
  · exact State.isDue_of_airDue h
  · exact State.isDue_of_fansDue h
  · exact State.isDue_of_baysDue h
  · exact State.isDue_of_signsDue h
  · exact State.isDue_of_lightDue h
  · exact State.isDue_of_statusDue h

/-! ### Every command that is due stands in its part -/

theorem State.mem_startup {s : State} {c : Instr} (h : c ∈ s.startupDue) : c ∈ s.dueCommands := State.mem_dueCommands.mpr (by simp [h])
theorem State.mem_filters {s : State} {c : Instr} (h : c ∈ s.filtersDue) : c ∈ s.dueCommands := State.mem_dueCommands.mpr (by simp [h])
theorem State.mem_air {s : State} {c : Instr} (h : c ∈ s.airDue) : c ∈ s.dueCommands := State.mem_dueCommands.mpr (by simp [h])
theorem State.mem_fans {s : State} {c : Instr} (h : c ∈ s.fansDue) : c ∈ s.dueCommands := State.mem_dueCommands.mpr (by simp [h])
theorem State.mem_bays {s : State} {c : Instr} (h : c ∈ s.baysDue) : c ∈ s.dueCommands := State.mem_dueCommands.mpr (by simp [h])
theorem State.mem_signs {s : State} {c : Instr} (h : c ∈ s.signsDue) : c ∈ s.dueCommands := State.mem_dueCommands.mpr (by simp [h])
theorem State.mem_light {s : State} {c : Instr} (h : c ∈ s.lightDue) : c ∈ s.dueCommands := State.mem_dueCommands.mpr (by simp [h])
theorem State.mem_status {s : State} {c : Instr} (h : c ∈ s.statusDue) : c ∈ s.dueCommands := State.mem_dueCommands.mpr (by simp [h])

/-- A change of a run-confirm input that has stood long enough. -/
theorem State.runConfirm_due {s : State} {n : Nat} {i : FilteredInput} (hst : s.station ≠ .heldInReset)
    (hi : i ∈ (inputAt? s.inputs.runConfirm n).toList) (hchanges : i.changes = true) :
    (if i.line then Instr.runConfirmActive n else .runConfirmLost n) ∈ s.dueCommands := by
  refine State.mem_filters ?_
  unfold State.filtersDue
  rw [if_neg hst]
  refine List.mem_append_left _ (List.mem_append_right _ ?_)
  exact mem_filterChanges.mpr ⟨n, i, hi, hchanges, rfl⟩

theorem State.loopChange_due {s : State} {n : Nat} {loop : Loop} {on : Bool} (h : s.IsDue (.loopChange n loop on)) :
    Instr.loopChange n loop on ∈ s.dueCommands := by
  refine State.mem_filters ?_
  unfold State.filtersDue
  cases loop with
  | outer =>
    obtain ⟨hw, hgate, i, hi, hsettled⟩ := h
    obtain ⟨hchanges, rfl⟩ := FilteredInput.settled_iff.mp hsettled
    rw [if_pos hw]
    refine List.mem_append_right _ (List.mem_append_left _ (List.mem_append_left _ ?_))
    exact State.mem_loopChanges.mpr ⟨n, hgate, i, hi, hchanges, rfl⟩
  | inner =>
    obtain ⟨hw, hgate, i, hi, hsettled⟩ := h
    obtain ⟨hchanges, rfl⟩ := FilteredInput.settled_iff.mp hsettled
    rw [if_pos hw]
    refine List.mem_append_right _ (List.mem_append_left _ (List.mem_append_right _ ?_))
    exact State.mem_loopChanges.mpr ⟨n, hgate, i, hi, hchanges, rfl⟩

/-- An expiry of one channel's timers. -/
theorem State.channel_due {s : State} {k : Channel} {c : Instr} (hw : s.working = true) (hk : k ∈ s.light.channels)
    (h : c ∈ whenDue (decide (k.state = .active) && k.hold.out) (.channelHoldTimerExpiry k.number) ++
      whenDue (decide (k.state = .dimming) && k.dim.out) (.dimTimerExpiry k.number) ++
      whenDue (k.override.any (fun o => o.limit.out)) (.lightOverrideExpiry k.number)) : c ∈ s.dueCommands := by
  refine State.mem_light ?_
  unfold State.lightDue
  rw [if_pos hw]
  exact List.mem_append_right _ (List.mem_flatMap.mpr ⟨k, hk, h⟩)

theorem State.dueCommands_of_isDue {s : State} {c : Instr} (h : s.IsDue c) : c ∈ s.dueCommands := by
  cases c with
  | resetEnd =>
    obtain ⟨hst, ht, hline, hsupply⟩ := h
    exact State.mem_startup (by simp [State.startupDue, mem_whenDue, Timer.out_iff, hst, ht, hline, hsupply])
  | settingsReadTimeout =>
    obtain ⟨hst, ht⟩ := h
    exact State.mem_startup (by simp [State.startupDue, mem_whenDue, Timer.out_iff, hst, ht])
  | listeningTimerExpiry =>
    obtain ⟨hst, ht⟩ := h
    exact State.mem_startup (by simp [State.startupDue, mem_whenDue, Timer.out_iff, hst, ht])
  | purgeFilterChange on =>
    obtain ⟨hst, hsettled⟩ := h
    obtain ⟨hchanges, rfl⟩ := FilteredInput.settled_iff.mp hsettled
    exact State.mem_filters (by simp [State.filtersDue, mem_whenDue, hst, hchanges])
  | runConfirmActive n =>
    obtain ⟨hst, i, hi, hsettled⟩ := h
    obtain ⟨hchanges, hline⟩ := FilteredInput.settled_iff.mp hsettled
    simpa [hline] using State.runConfirm_due hst hi hchanges
  | runConfirmLost n =>
    obtain ⟨hst, i, hi, hsettled⟩ := h
    obtain ⟨hchanges, hline⟩ := FilteredInput.settled_iff.mp hsettled
    simpa [hline] using State.runConfirm_due hst hi hchanges
  | loopChange n loop on => exact State.loopChange_due h
  | motionChange n on =>
    obtain ⟨hw, i, hi, hsettled⟩ := h
    obtain ⟨hchanges, rfl⟩ := FilteredInput.settled_iff.mp hsettled
    refine State.mem_filters ?_
    unfold State.filtersDue
    rw [if_pos hw]
    refine List.mem_append_right _ (List.mem_append_right _ ?_)
    exact mem_filterChanges.mpr ⟨n, i, hi, hchanges, rfl⟩
  | pollRoundStart =>
    obtain ⟨hw, ht⟩ := h
    exact State.mem_air (by simp [State.airDue, mem_whenDue, Timer.out_iff, hw, ht])
  | headAnswerWindowExpiry =>
    obtain ⟨hw, p, hp, ht⟩ := h
    rw [Option.mem_toList] at hp
    exact State.mem_air (by simp [State.airDue, mem_whenDue, hw, hp, ht])
  | alarmHoldTimerExpiry =>
    obtain ⟨hw, hexpiring⟩ := h
    exact State.mem_dueCommands.mpr (.inl (by simp [State.roundEndDue, mem_whenDue, hw, hexpiring]))
  | fanOverrideExpiry =>
    obtain ⟨hw, o, ho, ht⟩ := h
    rw [Option.mem_toList] at ho
    exact State.mem_air (by simp [State.airDue, mem_whenDue, TimeLimit.out_iff, hw, ho, ht])
  | confirmTimerExpiry n =>
    obtain ⟨hw, f, hf, rfl, hst, ht⟩ := h
    exact State.mem_fans (List.mem_flatMap.mpr ⟨f, hf, by simp [mem_whenDue, Timer.out_iff, hw, hst, ht]⟩)
  | fallbackStartTimerExpiry n =>
    obtain ⟨hw, f, hf, rfl, hst, ht⟩ := h
    exact State.mem_fans (List.mem_flatMap.mpr ⟨f, hf, by simp [mem_whenDue, Timer.out_iff, hw, hst, ht]⟩)
  | lossTimerExpiry n =>
    obtain ⟨hw, f, hf, rfl, hst, ht⟩ := h
    exact State.mem_fans (List.mem_flatMap.mpr ⟨f, hf, by simp [mem_whenDue, Timer.out_iff, hw, hst, ht]⟩)
  | coastTimerExpiry n =>
    obtain ⟨hw, f, hf, rfl, hst, ht⟩ := h
    rw [← State.receiving_iff] at hw
    exact State.mem_fans (List.mem_flatMap.mpr ⟨f, hf, by simp [mem_whenDue, Timer.out_iff, hw, hst, ht]⟩)
  | bayScanStart =>
    obtain ⟨hw, ht⟩ := h
    exact State.mem_bays (by simp [State.baysDue, mem_whenDue, Timer.out_iff, hw, ht])
  | bayReadNoAnswer =>
    obtain ⟨hw, r, hr, ht⟩ := h
    rw [Option.mem_toList] at hr
    exact State.mem_bays (by simp [State.baysDue, mem_whenDue, hw, hr, ht])
  | reservationExpiry n =>
    obtain ⟨hw, b, hb, rfl, hst, ht⟩ := h
    have hmem : Instr.reservationExpiry b.settings.number ∈ s.bays.bays.flatMap (fun b =>
        whenDue (decide (b.state = .reserved) && b.reservation.any TimeLimit.out) (.reservationExpiry b.settings.number)) :=
      List.mem_flatMap.mpr ⟨b, hb, by simp [mem_whenDue, TimeLimit.out_iff, hst, ht]⟩
    exact State.mem_bays (by simp only [State.baysDue, hw, if_true, List.mem_append, hmem, true_or, or_true])
  | gateTimerExpiry n =>
    obtain ⟨hw, g, hg, rfl, ht⟩ := h
    have hmem : Instr.gateTimerExpiry g.settings.number ∈
        s.bays.gates.flatMap (fun g => whenDue g.timer.out (.gateTimerExpiry g.settings.number)) :=
      List.mem_flatMap.mpr ⟨g, hg, by simp [mem_whenDue, Timer.out_iff, ht]⟩
    exact State.mem_bays (by simp only [State.baysDue, hw, if_true, List.mem_append, hmem, true_or, or_true])
  | trafficRingRotation =>
    obtain ⟨hw, ht⟩ := h
    exact State.mem_bays (by simp [State.baysDue, mem_whenDue, Timer.out_iff, hw, ht])
  | sweep =>
    obtain ⟨hw, ht⟩ := h
    exact State.mem_bays (by simp [State.baysDue, mem_whenDue, Timer.out_iff, hw, ht])
  | signRefreshTimerExpiry n =>
    obtain ⟨hw, g, hg, rfl, ht⟩ := h
    have hmem : Instr.signRefreshTimerExpiry g.settings.number ∈
        s.guide.signs.flatMap (fun g => whenDue g.refresh.out (.signRefreshTimerExpiry g.settings.number)) :=
      List.mem_flatMap.mpr ⟨g, hg, by simp [mem_whenDue, Timer.out_iff, ht]⟩
    exact State.mem_signs (by simp only [State.signsDue, hw, if_true, List.mem_append, hmem, true_or])
  | signExchangeStart =>
    obtain ⟨hw, hfree, hdue⟩ := h
    have hsome := Guidance.nextDue_isSome_iff.mpr hdue
    exact State.mem_signs (by simp [State.signsDue, mem_whenDue, hw, hfree, hsome])
  | signAnswerWindowExpiry =>
    obtain ⟨e, he, ht⟩ := h
    rw [Option.mem_toList] at he
    exact State.mem_signs (by simp [State.signsDue, mem_whenDue, he, ht])
  | fallbackSignTimerExpiry =>
    obtain ⟨hst, ht⟩ := h
    exact State.mem_signs (by simp [State.signsDue, mem_whenDue, Timer.out_iff, hst, ht])
  | motionRepeatTimerExpiry n =>
    obtain ⟨hw, hn, hon, ht⟩ := h
    have hmem : Instr.motionRepeatTimerExpiry n ∈ [1, 2, 3, 4].flatMap (fun n =>
        whenDue (filteredAt s.inputs.motion n && (s.light.repeatTimers.getD (n - 1) none).out) (.motionRepeatTimerExpiry n)) :=
      List.mem_flatMap.mpr ⟨n, hn, mem_whenDue.mpr ⟨by rw [filteredAt_iff.mpr hon, Timer.out_iff.mpr ht]; rfl, rfl⟩⟩
    exact State.mem_light (by simp only [State.lightDue, hw, if_true, List.mem_append, hmem, true_or])
  | channelHoldTimerExpiry n =>
    obtain ⟨hw, k, hk, rfl, hst, ht⟩ := h
    exact State.channel_due hw hk (by simp [mem_whenDue, Timer.out_iff, hst, ht])
  | dimTimerExpiry n =>
    obtain ⟨hw, k, hk, rfl, hst, ht⟩ := h
    exact State.channel_due hw hk (by simp [mem_whenDue, Timer.out_iff, hst, ht])
  | lightOverrideExpiry n =>
    obtain ⟨hw, k, hk, rfl, o, ho, ht⟩ := h
    rw [Option.mem_toList] at ho
    exact State.channel_due hw hk (by simp [mem_whenDue, TimeLimit.out_iff, ho, ht])
  | statusPeriodTimerExpiry =>
    obtain ⟨hw, ht⟩ := h
    exact State.mem_status (by simp [State.statusDue, mem_whenDue, Timer.out_iff, hw, ht])
  | spacingTimerExpiry =>
    obtain ⟨hw, ht⟩ := h
    exact State.mem_status (by simp [State.statusDue, mem_whenDue, Timer.out_iff, hw, ht])
  | _ => exact h.elim

/-- Settles O1: the step by its queue; the tick part by part; and the due commands both ways. -/
theorem stepTakesTheFrontCommand : Obligations.StepTakesTheFrontCommand := by
  unfold Obligations.StepTakesTheFrontCommand
  intro c rest s
  have hidle (hp : s.pending = []) : step s = s.idleStep := by
    unfold step
    rw [hp]
  refine ⟨rfl, fun hp hdue => ?_, fun hp hdue => ?_, s.tick_oneMillisecond, State.isDue_of_dueCommands, State.dueCommands_of_isDue⟩
  · rw [hidle hp, State.idleStep, hdue]
  · rw [hidle hp, State.idleStep, hdue]

/-! ### RESTART (R165) -/

/-- RESTART passes its checks. -/
theorem executeCommand_restart (s : State) : executeCommand restartCode [] s = .did s := rfl

/-- A COMMAND that passes the filter reaches the command handling. -/
theorem State.commandFrame_taken {s : State} {source destination code : Byte} {args : List Byte} (ht : s.takesFrames = true)
    (hf : s.filterRejects 4#8 destination = false) (hargs : args.length ≤ 47) :
    s.commandFrame source destination code args = s.frameAccepted.serviceCommand source destination code args := by
  rw [State.commandFrame, State.onFrame_taken _ _ ht, hf, if_neg (by simp), if_neg (by omega)]

/-- A command that is not answered is executed all the same, and a RESTART that passes its checks is taken (R161, R165). -/
theorem State.serviceCommand_unanswered {s : State} {source destination code : Byte} {args : List Byte} (hw : s.working = true)
    (hpending : s.bus.restartPending = false ∨ code = restartCode ∧ destination = 63#8)
    (hanswers : s.answers source destination = false) : s.serviceCommand source destination code args =
      if (executeCommand code args s).restarts code then (executeCommand code args s).state.restartTaken
      else (executeCommand code args s).state := by
  have hgoes : ¬(s.bus.restartPending = true ∧ ¬(code = restartCode ∧ destination = 63#8)) := by
    rintro ⟨h, hnot⟩
    obtain hfree | hall := hpending
    · rw [h] at hfree
      cases hfree
    · exact hnot hall
  unfold State.serviceCommand
  rw [if_pos hw, if_neg hgoes, hanswers]
  rfl

theorem State.restart_all {s : State} (hr : s.receiving = true) (hown : s.settings.ownAddress ≤ 62) (source : Byte) :
    s.serviceCommand source 63#8 restartCode [] = s.restartTaken := by
  have hanswers : s.answers source 63#8 = false := by
    have hne : (63#8 : Byte).toNat ≠ s.settings.ownAddress := fun h => by
      rw [← h] at hown
      exact absurd hown (by decide)
    rw [State.answers, decide_eq_false hne]
    rfl
  cases hw : s.working with
  | true => exact (State.serviceCommand_unanswered hw (.inr ⟨rfl, rfl⟩) hanswers).trans (if_pos rfl)
  | false =>
    have hst : s.station = .fallback := by simpa [State.receiving, hw] using hr
    unfold State.serviceCommand
    rw [hw, if_neg (by simp), if_pos ⟨hst, rfl, rfl, rfl⟩]

/-- A source outside 1..62 is not answered (R161). -/
theorem State.answers_outside {s : State} {source : Byte} (h : source.toNat = 0 ∨ 62 < source.toNat) (destination : Byte) :
    s.answers source destination = false := by
  refine Bool.eq_false_iff.mpr fun hanswers => ?_
  simp only [State.answers, Bool.and_eq_true, decide_eq_true_eq] at hanswers
  omega

/-- A restart taken as the effect of an accepted frame. -/
theorem State.frameAccepted_restartTaken (s : State) : s.frameAccepted.restartTaken.station = .starting ∧
    s.frameAccepted.restartTaken.startup = .starting s.startup.supplyInRange ∧
    s.frameAccepted.restartTaken.counters = s.countersAccepted ∧ HoldsResetValues s s.frameAccepted.restartTaken :=
  State.restartTaken_holds rfl rfl rfl

/-- Settles O4: to all stations, answered, and unanswered. -/
theorem restartIsTakenAtOnceOrAfterItsReport : Obligations.RestartIsTakenAtOnceOrAfterItsReport := by
  unfold Obligations.RestartIsTakenAtOnceOrAfterItsReport
  intro s source destination
  refine ⟨fun ht hown => ?_, fun hg => ?_, fun ht hw hpending hown hdestination hsource => ?_⟩
  · have hfilter : s.filterRejects 4#8 63#8 = false := by simp [State.filterRejects]
    have hr : s.receiving = true := State.receiving_of_hears (State.takesFrames_iff.mp ht).1
    refine ⟨_, ?_, s.frameAccepted_restartTaken⟩
    exact congrArg Host.Outcome.next ((State.commandFrame_taken ht hfilter (by simp)).trans (State.restart_all (s := s.frameAccepted) hr hown source))
  · have hgranted := State.grants_iff.mp hg
    refine ⟨_, congrArg Host.Outcome.next (hgranted.commandFrame restartCode (args := []) (by simp)), rfl, ?_, ?_, ?_⟩
    · exact State.join_queues s.frameAccepted .report _
    · exact (State.join_counters _ _ _).trans rfl
    · rw [executeCommand_restart]
      simp [onlyChanges_iff, State.answeredWith, Executed.did, Executed.restarts]
  · have hanswers : s.frameAccepted.answers source destination = false := State.answers_outside hsource destination
    have hexec := State.serviceCommand_unanswered (s := s.frameAccepted) (source := source) (destination := destination)
      (code := restartCode) (args := []) hw (.inl (s.frameAccepted_restartPending.trans hpending)) hanswers
    refine ⟨_, ?_, s.frameAccepted_restartTaken⟩
    exact congrArg Host.Outcome.next ((State.commandFrame_taken ht (State.filterRejects_own hw hdestination) (by simp)).trans hexec)

end Sys2Proof.Machine
end

section
/-! PROOFS. The four checks of a command (R148, R160..R163). -/

namespace Sys2Proof.Machine

/-! ### The checks in one form -/

/-- The checks after the code's: argument count, ranges, owner (R162). -/
def State.checked (s : State) (ranges : List (Nat × Nat)) (code : Nat) (args : List Byte) : CommandResult :=
  if args.length ≠ ranges.length then .badArgument
  else if (ranges.zip args).all (fun p => decide (p.1.1 ≤ p.2.toNat) && decide (p.2.toNat ≤ p.1.2)) = false then
    .badArgument
  else s.ownerResult code (args.headD 0#8).toNat

/-- The ranges the model's commands check themselves: as in the table, but a fan or bay is only looked for. -/
def searchedRanges : List (Nat × List (Nat × Nat)) :=
  [(0x01, [(1, 2)]), (0x02, [(1, 64), (1, 40)]), (0x03, [(1, 16)]), (0x04, [(0, 1)]), (0x10, [(0, 100), (0, 240)]),
    (0x11, []), (0x12, [(0, 255)]), (0x13, [(0, 255)]), (0x14, [(0, 255)]), (0x20, [(0, 255), (0, 240)]),
    (0x21, [(0, 255)]), (0x22, [(0, 255), (0, 1)]), (0x30, []), (0x31, []), (0x40, [(0, 8), (0, 100), (0, 240)]),
    (0x41, [(0, 8)]), (0x7F, [])]

/-- The result of a command by the checks, with the ranges of a table. -/
def State.judged (s : State) (table : List (Nat × List (Nat × Nat))) (code : Nat) (args : List Byte) : CommandResult :=
  (table.lookup code).elim .unknownCommand (fun ranges => s.checked ranges code args)

theorem State.resultByChecks_eq (s : State) (code : Byte) (args : List Byte) :
    s.resultByChecks code args = s.judged argumentRanges code.toNat args := by
  unfold State.resultByChecks State.judged
  cases argumentRanges.lookup code.toNat <;> rfl

/-- The command has this result, and unless it is DONE it has changed nothing. -/
structure Executed.Has (e : Executed) (s : State) (r : CommandResult) : Prop where
  result : e.result = r
  refused : r ≠ .done → e = .refuse s r

theorem Executed.has_refuse (s : State) (r : CommandResult) : (Executed.refuse s r).Has s r := ⟨rfl, fun _ => rfl⟩

theorem Executed.has_done {e : Executed} (h : e.result = .done) (s : State) : e.Has s .done := ⟨h, fun hne => absurd rfl hne⟩

section
variable (s : State) (ranges : List (Nat × Nat)) (code : Nat)

theorem State.checked_count {args : List Byte} (h : args.length ≠ ranges.length) : s.checked ranges code args = .badArgument := if_pos h

theorem State.checked_one (low high : Nat) (a : Byte) : s.checked [(low, high)] code [a] =
    if low ≤ a.toNat ∧ a.toNat ≤ high then s.ownerResult code a.toNat else .badArgument := by
  by_cases h : low ≤ a.toNat ∧ a.toNat ≤ high <;> simp [State.checked, h]

theorem State.checked_two (low high low' high' : Nat) (a b : Byte) : s.checked [(low, high), (low', high')] code [a, b] =
    if (low ≤ a.toNat ∧ a.toNat ≤ high) ∧ low' ≤ b.toNat ∧ b.toNat ≤ high' then s.ownerResult code a.toNat else .badArgument := by
  unfold State.checked
  rw [if_neg (by simp)]
  by_cases h : (low ≤ a.toNat ∧ a.toNat ≤ high) ∧ low' ≤ b.toNat ∧ b.toNat ≤ high'
  · rw [if_neg (by simp [h]), if_pos h]
    rfl
  · rw [if_pos (by simpa using h), if_neg h]

theorem State.checked_three (high high' high'' : Nat) (a b c : Byte) :
    s.checked [(0, high), (0, high'), (0, high'')] code [a, b, c] =
      if a.toNat ≤ high ∧ b.toNat ≤ high' ∧ c.toNat ≤ high'' then s.ownerResult code a.toNat else .badArgument := by
  unfold State.checked
  rw [if_neg (by simp)]
  by_cases h : a.toNat ≤ high ∧ b.toNat ≤ high' ∧ c.toNat ≤ high''
  · rw [if_neg (by simp [h]), if_pos h]
    rfl
  · rw [if_pos (by simpa using h), if_neg h]

end

theorem Executed.has_refuse_of_count {s : State} {ranges : List (Nat × Nat)} {code : Nat} {args : List Byte}
    (h : args.length ≠ ranges.length) : (Executed.refuse s .badArgument).Has s (s.checked ranges code args) := by
  rw [State.checked_count s ranges code h]
  exact Executed.has_refuse s _

theorem Byte.le_255 (a : Byte) : a.toNat ≤ 255 := by omega

/-! ### Each command by the checks -/

theorem queryZone_has (s : State) (args : List Byte) : (queryZone args s).Has s (s.checked [(1, 2)] 0x01 args) := by
  match args with
  | [a] =>
    have h1 : a = 1#8 ↔ a.toNat = 1 := Byte.eq_ofNat_iff a (by decide)
    have h2 : a = 2#8 ↔ a.toNat = 2 := Byte.eq_ofNat_iff a (by decide)
    rw [State.checked_one]
    simp only [queryZone, h1, h2]
    by_cases hone : a.toNat = 1
    · rw [if_pos hone, if_pos (by omega)]
      exact Executed.has_done rfl s
    · rw [if_neg hone]
      by_cases htwo : a.toNat = 2
      · rw [if_pos htwo, if_pos (by omega)]
        exact Executed.has_done rfl s
      · rw [if_neg htwo, if_neg (by omega)]
        exact Executed.has_refuse s _
  | [] => exact Executed.has_refuse s _
  | _ :: _ :: _ => exact Executed.has_refuse_of_count (by simp)

theorem queryBays_has (s : State) (args : List Byte) : (queryBays args s).Has s (s.checked [(1, 64), (1, 40)] 0x02 args) := by
  match args with
  | [a, b] =>
    rw [State.checked_two]
    simp only [queryBays, and_assoc]
    split
    · exact Executed.has_done rfl s
    · exact Executed.has_refuse s _
  | [] => exact Executed.has_refuse s _
  | [_] => exact Executed.has_refuse s _
  | _ :: _ :: _ :: _ => exact Executed.has_refuse_of_count (by simp)

theorem queryPeers_has (s : State) (args : List Byte) : (queryPeers args s).Has s (s.checked [(1, 16)] 0x03 args) := by
  match args with
  | [a] =>
    rw [State.checked_one]
    simp only [queryPeers]
    split
    · exact Executed.has_done rfl s
    · exact Executed.has_refuse s _
  | [] => exact Executed.has_refuse s _
  | _ :: _ :: _ => exact Executed.has_refuse_of_count (by simp)

theorem queryCounters_has (s : State) (args : List Byte) : (queryCounters args s).Has s (s.checked [(0, 1)] 0x04 args) := by
  match args with
  | [a] =>
    have h0 : a = 0#8 ↔ a.toNat = 0 := Byte.eq_ofNat_iff a (by decide)
    have h1 : a = 1#8 ↔ a.toNat = 1 := Byte.eq_ofNat_iff a (by decide)
    rw [State.checked_one]
    simp only [queryCounters, h0, h1]
    by_cases hzero : a.toNat = 0
    · rw [if_pos hzero, if_pos (by omega)]
      exact Executed.has_done rfl s
    · rw [if_neg hzero]
      by_cases hone : a.toNat = 1
      · rw [if_pos hone, if_pos (by omega)]
        exact Executed.has_done rfl s
      · rw [if_neg hone, if_neg (by omega)]
        exact Executed.has_refuse s _
  | [] => exact Executed.has_refuse s _
  | _ :: _ :: _ => exact Executed.has_refuse_of_count (by simp)

theorem setFanOverride_has (s : State) (args : List Byte) :
    (setFanOverride args s).Has s (s.checked [(0, 100), (0, 240)] 0x10 args) := by
  match args with
  | [a, b] =>
    rw [State.checked_two]
    simp only [setFanOverride, Nat.zero_le, true_and]
    split
    · exact Executed.has_done rfl s
    · exact Executed.has_refuse s _
  | [] => exact Executed.has_refuse s _
  | [_] => exact Executed.has_refuse s _
  | _ :: _ :: _ :: _ => exact Executed.has_refuse_of_count (by simp)

theorem clearFanOverride_has (s : State) (args : List Byte) : (clearFanOverride args s).Has s (s.checked [] 0x11 args) := by
  match args with
  | [] =>
    unfold clearFanOverride
    dsimp only
    split <;> exact Executed.has_done rfl s
  | _ :: _ => exact Executed.has_refuse s _

/-- A fan that is found is judged by its state. -/
theorem State.ownerResult_fan (s : State) {code : Nat} {states : List FanState} (hcode : fanCommands.lookup code = some states) (n : Nat) :
    s.ownerResult code n = (s.vent.fan? n).elim .badArgument (fun f => if f.state ∈ states then .done else .refusedState) := by
  unfold State.ownerResult
  rw [hcode]
  cases s.vent.fan? n <;> rfl

/-- A bay that is found is judged by its state. -/
theorem State.ownerResult_bay (s : State) {code : Nat} {states : List BayState} (hfan : fanCommands.lookup code = none)
    (hcode : bayCommands.lookup code = some states) (n : Nat) :
    s.ownerResult code n = (s.bays.bay? n).elim .badArgument (fun b => if b.state ∈ states then .done else .refusedState) := by
  unfold State.ownerResult
  rw [hfan, hcode]
  cases s.bays.bay? n <;> rfl

theorem lockOutFan_has (s : State) (args : List Byte) : (lockOutFan args s).Has s (s.checked [(0, 255)] 0x12 args) := by
  match args with
  | [a] =>
    rw [State.checked_one, if_pos ⟨Nat.zero_le _, Byte.le_255 a⟩, State.ownerResult_fan s rfl]
    unfold lockOutFan
    dsimp only
    cases s.vent.fan? a.toNat with
    | none => exact Executed.has_refuse s _
    | some f =>
      rw [Option.elim_some, if_pos (by cases f.state <;> decide)]
      exact Executed.has_done rfl s
  | [] => exact Executed.has_refuse s _
  | _ :: _ :: _ => exact Executed.has_refuse_of_count (by simp)

theorem returnFan_has (s : State) {code : Nat} {from_ : FanState} (hcode : fanCommands.lookup code = some [from_]) (args : List Byte) :
    (returnFan from_ args s).Has s (s.checked [(0, 255)] code args) := by
  match args with
  | [a] =>
    rw [State.checked_one, if_pos ⟨Nat.zero_le _, Byte.le_255 a⟩, State.ownerResult_fan s hcode]
    unfold returnFan
    dsimp only
    cases s.vent.fan? a.toNat with
    | none => exact Executed.has_refuse s _
    | some f =>
      simp only [Option.elim_some, List.mem_singleton]
      by_cases hst : f.state = from_
      · rw [if_pos hst, if_pos hst]
        exact Executed.has_done rfl s
      · rw [if_neg hst, if_neg hst]
        exact Executed.has_refuse s _
  | [] => exact Executed.has_refuse s _
  | _ :: _ :: _ => exact Executed.has_refuse_of_count (by simp)

theorem reserveBay_has (s : State) (args : List Byte) : (reserveBay args s).Has s (s.checked [(0, 255), (0, 240)] 0x20 args) := by
  match args with
  | [a, b] =>
    rw [State.checked_two, State.ownerResult_bay s rfl rfl]
    simp only [Nat.zero_le, true_and, Byte.le_255 a]
    unfold reserveBay
    dsimp only
    cases s.bays.bay? a.toNat with
    | none =>
      rw [Option.elim_none, ite_self]
      exact Executed.has_refuse s _
    | some x =>
      dsimp only
      by_cases hb : b.toNat ≤ 240
      · simp only [if_neg (Nat.not_lt.mpr hb), if_pos hb, Option.elim_some, List.mem_cons, List.not_mem_nil, or_false]
        by_cases hst : x.state = .free ∨ x.state = .reserved
        · rw [if_pos hst, if_pos hst]
          exact Executed.has_done rfl s
        · rw [if_neg hst, if_neg hst]
          exact Executed.has_refuse s _
      · rw [if_pos (Nat.lt_of_not_le hb), if_neg hb]
        exact Executed.has_refuse s _
  | [] => exact Executed.has_refuse s _
  | [_] => exact Executed.has_refuse s _
  | _ :: _ :: _ :: _ => exact Executed.has_refuse_of_count (by simp)

theorem releaseBay_has (s : State) (args : List Byte) : (releaseBay args s).Has s (s.checked [(0, 255)] 0x21 args) := by
  match args with
  | [a] =>
    rw [State.checked_one, if_pos ⟨Nat.zero_le _, Byte.le_255 a⟩, State.ownerResult_bay s rfl rfl]
    unfold releaseBay
    dsimp only
    cases s.bays.bay? a.toNat with
    | none => exact Executed.has_refuse s _
    | some b =>
      simp only [Option.elim_some, List.mem_singleton]
      by_cases hst : b.state = .reserved
      · rw [if_pos hst, if_pos hst]
        exact Executed.has_done rfl s
      · rw [if_neg hst, if_neg hst]
        exact Executed.has_refuse s _
  | [] => exact Executed.has_refuse s _
  | _ :: _ :: _ => exact Executed.has_refuse_of_count (by simp)

theorem setBayService_has (s : State) (args : List Byte) :
    (setBayService args s).Has s (s.checked [(0, 255), (0, 1)] 0x22 args) := by
  match args with
  | [a, b] =>
    have hword : (b = 0#8 ∨ b = 1#8) ↔ b.toNat ≤ 1 := by
      rw [Byte.eq_ofNat_iff b (show 0 < 256 by decide), Byte.eq_ofNat_iff b (show 1 < 256 by decide)]
      omega
    rw [State.checked_two, State.ownerResult_bay s rfl rfl]
    simp only [Nat.zero_le, true_and, Byte.le_255 a]
    unfold setBayService
    dsimp only
    by_cases hb : b.toNat ≤ 1
    · rw [if_pos hb]
      simp only [if_pos (hword.mpr hb)]
      cases s.bays.bay? a.toNat with
      | none => exact Executed.has_refuse s _
      | some x =>
        have hany : x.state ∈ [BayState.unknown, .free, .occupied, .reserved, .fault, .outOfService] := by
          cases x.state <;> decide
        simp only [Option.elim_some, if_pos hany]
        split <;> exact Executed.has_done rfl s
    · rw [if_neg hb]
      simp only [if_neg (fun h => hb (hword.mp h))]
      exact Executed.has_refuse s _
  | [] => exact Executed.has_refuse s _
  | [_] => exact Executed.has_refuse s _
  | _ :: _ :: _ :: _ => exact Executed.has_refuse_of_count (by simp)

theorem closeZone_has (s : State) (args : List Byte) : (closeZone args s).Has s (s.checked [] 0x30 args) := by
  match args with
  | [] => exact Executed.has_done rfl s
  | _ :: _ => exact Executed.has_refuse s _

theorem openZone_has (s : State) (args : List Byte) : (openZone args s).Has s (s.checked [] 0x31 args) := by
  match args with
  | [] => exact Executed.has_done rfl s
  | _ :: _ => exact Executed.has_refuse s _

theorem setLightOverride_has (s : State) (args : List Byte) :
    (setLightOverride args s).Has s (s.checked [(0, 8), (0, 100), (0, 240)] 0x40 args) := by
  match args with
  | [a, b, c] =>
    rw [State.checked_three]
    simp only [setLightOverride]
    split
    · exact Executed.has_done rfl s
    · exact Executed.has_refuse s _
  | [] => exact Executed.has_refuse s _
  | [_] => exact Executed.has_refuse s _
  | [_, _] => exact Executed.has_refuse s _
  | _ :: _ :: _ :: _ :: _ => exact Executed.has_refuse_of_count (by simp)

theorem clearLightOverride_has (s : State) (args : List Byte) : (clearLightOverride args s).Has s (s.checked [(0, 8)] 0x41 args) := by
  match args with
  | [a] =>
    rw [State.checked_one]
    simp only [clearLightOverride, Nat.zero_le, true_and]
    split
    · exact Executed.has_done rfl s
    · exact Executed.has_refuse s _
  | [] => exact Executed.has_refuse s _
  | _ :: _ :: _ => exact Executed.has_refuse_of_count (by simp)

theorem restartCommand_has (s : State) (args : List Byte) : (restartCommand args s).Has s (s.checked [] 0x7F args) := by
  match args with
  | [] => exact Executed.has_done rfl s
  | _ :: _ => exact Executed.has_refuse s _

/-- A code that is in none of the known ones is in no table of them. -/
theorem lookup_unknown {table : List (Nat × List (Nat × Nat))} (hkeys : table.map Prod.fst = knownCodes) {code : Nat}
    (h : code ∉ knownCodes) : table.lookup code = none := by
  rw [List.lookup_eq_none_iff]
  intro p hp
  rw [← hkeys] at h
  simpa using fun heq : code = p.1 => h (heq ▸ List.mem_map_of_mem hp)

/-- Every command has the result of its checks, and one that is not DONE has changed nothing (R162). -/
theorem executeCommand_has (code : Byte) (args : List Byte) (s : State) :
    (executeCommand code args s).Has s (s.judged searchedRanges code.toNat args) := by
  unfold executeCommand
  split <;> rename_i hcode
  case h_1 => rw [hcode]; exact queryZone_has s args
  case h_2 => rw [hcode]; exact queryBays_has s args
  case h_3 => rw [hcode]; exact queryPeers_has s args
  case h_4 => rw [hcode]; exact queryCounters_has s args
  case h_5 => rw [hcode]; exact setFanOverride_has s args
  case h_6 => rw [hcode]; exact clearFanOverride_has s args
  case h_7 => rw [hcode]; exact lockOutFan_has s args
  case h_8 => rw [hcode]; exact returnFan_has s rfl args
  case h_9 => rw [hcode]; exact returnFan_has s rfl args
  case h_10 => rw [hcode]; exact reserveBay_has s args
  case h_11 => rw [hcode]; exact releaseBay_has s args
  case h_12 => rw [hcode]; exact setBayService_has s args
  case h_13 => rw [hcode]; exact closeZone_has s args
  case h_14 => rw [hcode]; exact openZone_has s args
  case h_15 => rw [hcode]; exact setLightOverride_has s args
  case h_16 => rw [hcode]; exact clearLightOverride_has s args
  case h_17 => rw [hcode]; exact restartCommand_has s args
  case h_18 =>
    have hunknown : code.toNat ∉ knownCodes := by
      simp only [knownCodes, List.mem_cons, List.not_mem_nil, or_false, not_or]
      simp_all
    rw [State.judged, lookup_unknown rfl hunknown]
    exact Executed.has_refuse s _

/-! ### The table's checks -/

/-- A device that is only looked for, in a table with the numbers it can have. -/
theorem State.checked_device {s : State} {top code : Nat}
    (h : ∀ n, ¬(1 ≤ n ∧ n ≤ top) → s.ownerResult code n = .badArgument) (rest : List (Nat × Nat)) (args : List Byte) :
    s.checked ((0, 255) :: rest) code args = s.checked ((1, top) :: rest) code args := by
  match args with
  | [] => rfl
  | a :: as =>
    unfold State.checked
    by_cases hlen : (a :: as).length = rest.length + 1
    · have hsearched : ¬(a :: as).length ≠ ((0, 255) :: rest).length := not_not.mpr hlen
      have htable : ¬(a :: as).length ≠ ((1, top) :: rest).length := not_not.mpr hlen
      rw [if_neg hsearched, if_neg htable]
      simp only [List.zip_cons_cons, List.all_cons, List.headD_cons]
      by_cases ha : 1 ≤ a.toNat ∧ a.toNat ≤ top
      · simp only [Nat.zero_le, Byte.le_255 a, ha.1, ha.2]
      · simp only [h a.toNat ha, ite_self]
    · rw [if_pos (show (a :: as).length ≠ ((0, 255) :: rest).length from hlen),
        if_pos (show (a :: as).length ≠ ((1, top) :: rest).length from hlen)]

theorem State.ownerResult_fan_outside {s : State} (hs : s.FansSound) {code : Nat} {states : List FanState}
    (hcode : fanCommands.lookup code = some states) (n : Nat) (hn : ¬(1 ≤ n ∧ n ≤ 6)) : s.ownerResult code n = .badArgument := by
  rw [s.ownerResult_fan hcode]
  cases hf : s.vent.fan? n with
  | none => rfl
  | some f =>
    obtain ⟨-, -, hrange⟩ := hs
    have hnumber : f.number = n := by simpa using List.find?_some hf
    exact absurd (hrange f (List.mem_of_find?_eq_some hf)) (by rwa [hnumber])

theorem State.ownerResult_bay_outside {s : State} (hs : s.BaysSound) {code : Nat} {states : List BayState}
    (hfan : fanCommands.lookup code = none) (hcode : bayCommands.lookup code = some states) (n : Nat) (hn : ¬(1 ≤ n ∧ n ≤ 64)) :
    s.ownerResult code n = .badArgument := by
  rw [s.ownerResult_bay hfan hcode]
  cases hb : s.bays.bay? n with
  | none => rfl
  | some b =>
    obtain ⟨-, -, hrange, -⟩ := hs
    have hnumber : b.settings.number = n := by simpa using List.find?_some hb
    exact absurd (hrange b (List.mem_of_find?_eq_some hb)) (by rwa [hnumber])

/-- Code by code, each table's ranges are the other's but for the numbers of fans and bays. -/
theorem State.judged_tables {s : State} (hfans : s.FansSound) (hbays : s.BaysSound) (code : Nat) (args : List Byte) :
    s.judged searchedRanges code args = s.judged argumentRanges code args := by
  by_cases hknown : code ∈ knownCodes
  · simp only [knownCodes, List.mem_cons, List.not_mem_nil, or_false] at hknown
    obtain rfl | rfl | rfl | rfl | rfl | rfl | rfl | rfl | rfl | rfl | rfl | rfl | rfl | rfl | rfl | rfl | rfl := hknown
    case inr.inr.inr.inr.inr.inr.inl => exact State.checked_device (State.ownerResult_fan_outside hfans rfl) [] args
    case inr.inr.inr.inr.inr.inr.inr.inl => exact State.checked_device (State.ownerResult_fan_outside hfans rfl) [] args
    case inr.inr.inr.inr.inr.inr.inr.inr.inl => exact State.checked_device (State.ownerResult_fan_outside hfans rfl) [] args
    case inr.inr.inr.inr.inr.inr.inr.inr.inr.inl =>
      exact State.checked_device (State.ownerResult_bay_outside hbays rfl rfl) [(0, 240)] args
    case inr.inr.inr.inr.inr.inr.inr.inr.inr.inr.inl =>
      exact State.checked_device (State.ownerResult_bay_outside hbays rfl rfl) [] args
    case inr.inr.inr.inr.inr.inr.inr.inr.inr.inr.inr.inl =>
      exact State.checked_device (State.ownerResult_bay_outside hbays rfl rfl) [(0, 1)] args
    all_goals rfl
  · rw [State.judged, State.judged, lookup_unknown rfl hknown, lookup_unknown rfl hknown]

/-! ### Refusals (R162, R163) -/

/-- A granted command with a result that is not DONE has its REPORT and no other effect. -/
theorem exec_refused {s : State} {c : Instr} {f : CommandFrame} (hc : commandOf c = some f)
    (hg : s.grants f.source f.destination = true) (hargs : f.args.length ≤ 47) {r : CommandResult} (hr : r ≠ .done)
    (hjudged : s.judged searchedRanges f.code.toNat f.args = r) :
    Answers (exec c s) (fun t =>
      t.bus.queues = { s.bus.queues with report := s.reportsWith f.source f.code r.byte [] } ∧
      t.counters = s.countersAccepted ∧ OnlyChanges [.bus, .counters] s t) := by
  have hgranted := State.grants_iff.mp hg
  have hhas := executeCommand_has f.code f.args s.frameAccepted
  have hsame : s.frameAccepted.judged searchedRanges f.code.toNat f.args = r := hjudged
  rw [hsame] at hhas
  rw [exec_of_commandOf hc, hgranted.refused hargs hr (hhas.refused hr)]
  refine ⟨_, rfl, ?_, by simp, s.refused_only _ _ _ _⟩
  exact State.join_queues s.frameAccepted .report _

/-- Settles O46: each refusal by the result of the checks. -/
theorem refusedCommandsChangeNothing : Obligations.RefusedCommandsChangeNothing := by
  unfold Obligations.RefusedCommandsChangeNothing
  intro s c f hc hg hargs
  have hhas := executeCommand_has f.code f.args s
  refine ⟨fun hrefused => ?_, fun hunknown => ?_, fun q hq hcode hcount => ?_, fun hfans hbays => ?_⟩
  · exact exec_refused hc hg hargs hrefused hhas.result.symm
  · have hnone : searchedRanges.lookup f.code.toNat = none := lookup_unknown rfl (by simpa using hunknown)
    exact exec_refused (c := .unknownCommand f.source f.destination f.code f.args) (r := .unknownCommand) rfl hg hargs nofun
      (by rw [State.judged, hnone]; rfl)
  · have htables : ∀ q ∈ argumentCounts, (searchedRanges.lookup q.1).map List.length = some q.2 := by decide
    obtain ⟨ranges, hlookup, hlength⟩ := Option.map_eq_some_iff.mp (htables q hq)
    refine exec_refused hc hg hargs (r := .badArgument) nofun ?_
    rw [State.judged, hcode, hlookup]
    exact State.checked_count s ranges q.1 (by rwa [hlength])
  · have hresult := State.judged_tables hfans hbays f.code.toNat f.args
    rw [State.resultByChecks_eq, ← hresult]
    exact ⟨hhas.result, fun hrefused => exec_refused hc hg hargs hrefused rfl⟩

end Sys2Proof.Machine
end

section
/-! PROOFS. Commands answered, overrun and unanswered (R148, R160, R161). -/

namespace Sys2Proof.Machine

/-! ### What a service command leaves of counters and REPORTs -/

theorem CommandEffect.counters_eq {s t : State} {code : Nat} (e : CommandEffect s code t) (hcode : code ≠ 0x04) :
    t.counters = s.counters := by
  cases e <;> simp at hcode ⊢

theorem executeCommand_report (code : Byte) (args : List Byte) (s : State) :
    (executeCommand code args s).state.bus.queues.report = s.bus.queues.report := (executeCommand_effect code args s).report_eq

/-- No command but RESTART restarts. -/
theorem Executed.restarts_of_ne (e : Executed) {code : Byte} (h : code ≠ restartCode) : e.restarts code = false := by
  simp [Executed.restarts, h]

/-! ### Overruns (R148, R165) -/

/-- A command that waits for a restart, or finds no place for its REPORT, is counted and does nothing more. -/
theorem State.serviceCommand_overrun {s : State} {source destination code : Byte} {args : List Byte} (hw : s.working = true)
    (hsingle : destination ≠ 63#8)
    (h : s.bus.restartPending = true ∨ s.answers source destination = true ∧ 4 ≤ s.bus.queues.report.length) :
    s.serviceCommand source destination code args = s.count .serviceOverrun := by
  unfold State.serviceCommand
  rw [if_pos hw]
  split
  · rfl
  · rename_i hgoes
    obtain hpending | ⟨hanswers, hfull⟩ := h
    · exact absurd ⟨hpending, fun hrestart => hsingle hrestart.2⟩ hgoes
    · rw [if_pos hanswers, if_pos hfull]

/-- An accepted frame whose command is an overrun, part by part. -/
theorem State.frameAccepted_overrun (s : State) :
    (s.frameAccepted.count .serviceOverrun).counters = s.countersAccepted.bump .serviceOverrun ∧
      (s.frameAccepted.count .serviceOverrun).bus.queues = s.bus.queues ∧
      OnlyChanges [.bus, .counters] s (s.frameAccepted.count .serviceOverrun) :=
  ⟨rfl, rfl, by simp [onlyChanges_iff]⟩

/-- An own address is not the one of all stations. -/
theorem Byte.ne_63_of_own {destination : Byte} {own : Nat} (hown : own ≤ 62) (h : destination.toNat = own) : destination ≠ 63#8 := by
  rintro rfl
  have h63 : (63#8 : Byte).toNat = 63 := rfl
  omega

theorem State.answers_all {s : State} (hown : s.settings.ownAddress ≤ 62) (source : Byte) : s.answers source 63#8 = false := by
  have hne : (63#8 : Byte).toNat ≠ s.settings.ownAddress := fun h => Byte.ne_63_of_own hown h rfl
  rw [State.answers, decide_eq_false hne]
  rfl

/-! ### Answered and unanswered (R161) -/

/-- Settles O47: overruns; the answered command against the one to all stations; and the unanswered ones. -/
theorem answersNeedAPlace : Obligations.AnswersNeedAPlace := by
  unfold Obligations.AnswersNeedAPlace
  intro s c d f panel hc hargs ht hw hdestination hown
  have hsingle := Byte.ne_63_of_own hown hdestination
  have htaken : exec c s = .next (s.frameAccepted.serviceCommand f.source f.destination f.code f.args) := by
    rw [exec_of_commandOf hc, State.commandFrame_taken ht (State.filterRejects_own hw hdestination) hargs]
  have hall (source : Byte) (hd : commandOf d = some { f with source := source, destination := 63#8 }) :
      exec d s = .next (s.frameAccepted.serviceCommand source 63#8 f.code f.args) := by
    rw [exec_of_commandOf hd, State.commandFrame_taken ht (by simp [State.filterRejects]) hargs]
  have hoverrun (h : s.bus.restartPending = true ∨ s.frameAccepted.answers f.source f.destination = true ∧ 4 ≤ s.bus.queues.report.length) :
      Answers (exec c s) (fun t => t.counters = s.countersAccepted.bump .serviceOverrun ∧
        t.bus.queues = s.bus.queues ∧ OnlyChanges [.bus, .counters] s t) := by
    rw [htaken, State.serviceCommand_overrun (s := s.frameAccepted) hw hsingle
      (by rwa [State.frameAccepted_restartPending, State.frameAccepted_queues])]
    exact ⟨_, rfl, s.frameAccepted_overrun⟩
  have hunansweredAll (source : Byte) (hpending : s.bus.restartPending = false) :=
    State.serviceCommand_unanswered (s := s.frameAccepted) (source := source) (code := f.code) (args := f.args) hw
      (.inl (s.frameAccepted_restartPending.trans hpending)) (State.answers_all hown source)
  refine ⟨fun hlow hhigh h => ?_, fun hd hg hcode => ?_, fun hsource => ⟨fun hpending => hoverrun (.inl hpending), fun hpending => ?_⟩⟩
  · refine hoverrun (h.imp_right fun hfull => ⟨?_, hfull⟩)
    simp [State.answers, hdestination, hlow, hhigh]
  · have hgranted := State.grants_iff.mp hg
    have hnot := Executed.restarts_of_ne (executeCommand f.code f.args s.frameAccepted) hcode
    rw [hall f.source hd, hunansweredAll f.source hgranted.noRestart, hnot]
    refine ⟨_, rfl, executeCommand_report f.code f.args s.frameAccepted, ?_⟩
    rw [exec_of_commandOf hc, hgranted.commandFrame f.code hargs, State.answeredWith, hnot]
    refine ⟨_, rfl, ?_, by simp [onlyChanges_iff]⟩
    rw [if_neg (by simp), State.join_report, executeCommand_report]
    simp
  · have hunanswered := State.serviceCommand_unanswered (s := s.frameAccepted) (source := f.source) (destination := f.destination)
      (code := f.code) (args := f.args) hw (.inl (s.frameAccepted_restartPending.trans hpending))
      (State.answers_outside hsource f.destination)
    refine ⟨fun hcode => ?_, fun hd => ?_⟩
    · rw [htaken, hunanswered, Executed.restarts_of_ne _ hcode]
      refine ⟨_, rfl, executeCommand_report f.code f.args s.frameAccepted, fun hclears => ?_⟩
      have hne : f.code.toNat ≠ 0x04 := fun h => hclears ((Byte.eq_ofNat_iff f.code (by decide)).mpr h)
      exact (executeCommand_effect f.code f.args s.frameAccepted).counters_eq hne
    · rw [htaken, hall panel hd, hunanswered, hunansweredAll panel hpending]

end Sys2Proof.Machine
end

section
/-! PROOFS. The bodies of reports, byte by byte (R142, R143, R166..R170). -/

namespace Sys2Proof.Machine

/-! ### Flags in a byte -/

/-- The number whose binary digits are flags, the first the lowest. -/
def flagsNumber : List Bool → Nat
  | [] => 0
  | b :: bs => b.toNat + 2 * flagsNumber bs

theorem foldl_flags (l : List Bool) (k n : Nat) :
    (l.zipIdx k).foldl (fun n p => if p.1 then n + 2 ^ p.2 else n) n = n + 2 ^ k * flagsNumber l := by
  induction l generalizing k n with
  | nil => simp [flagsNumber]
  | cons b bs ih =>
    rw [List.zipIdx_cons, List.foldl_cons, ih, flagsNumber]
    cases b <;> simp <;> ring

theorem testBit_flagsNumber (l : List Bool) (i : Nat) : (flagsNumber l).testBit i = l.getD i false := by
  induction l generalizing i with
  | nil => simp [flagsNumber]
  | cons b bs ih =>
    have hb : b.toNat ≤ 1 := b.toNat_le
    have hdiv : (b.toNat + 2 * flagsNumber bs) / 2 = flagsNumber bs := by omega
    have hmod : (b.toNat + 2 * flagsNumber bs) % 2 = b.toNat := by omega
    cases i with
    | zero =>
      rw [flagsNumber, Nat.testBit_zero, hmod]
      cases b <;> rfl
    | succ i => rw [flagsNumber, Nat.testBit_succ, hdiv, ih, List.getD_cons_succ]

/-- The flags of a byte are its bits. -/
theorem bit_byteOfFlags (l : List Bool) {i : Nat} (hi : i < 8) : bit (byteOfFlags l) i = l.getD i false := by
  rw [bit, byteOfFlags, byteOf, BitVec.getLsbD_ofNat, foldl_flags, decide_eq_true hi, Bool.true_and, pow_zero, one_mul, zero_add,
    testBit_flagsNumber]

/-! ### Codes -/

theorem codedAs_level (l : AlarmLevel) : CodedAs levelCodes l (byteOf l.code) := by cases l <;> decide
theorem codedAs_head (h : HeadState) : CodedAs headCodes h h.byte := by cases h <;> decide
theorem codedAs_fan (f : FanState) : CodedAs fanCodes f f.byte := by cases f <;> decide
theorem codedAs_display (d : DisplayState) : CodedAs displayCodes d d.byte := by cases d <;> decide
theorem codedAs_channel (c : ChannelState) : CodedAs channelCodes c c.byte := by cases c <;> decide

theorem codedAs_exit (e : RouteExit) : CodedAs exitCodes e e.byte := by
  intro q hq he
  subst he
  simp only [exitCodes, List.mem_cons, List.not_mem_nil, or_false] at hq
  obtain rfl | rfl | rfl | rfl | rfl | rfl := hq <;> rfl

/-! ### Section 1 (R142) -/

/-- The state code of a head number. -/
def AirMonitor.headByte (a : AirMonitor) (n : Nat) : Byte := (a.sampled? n).elim 0#8 (fun h => h.state.byte)

/-- The sub-index of a head number. -/
def AirMonitor.headHalf (a : AirMonitor) (n : Nat) : Half := (a.sampled? n).elim 0xFFFF#16 (fun h => indexHalf h.subIndex)

theorem AirMonitor.headItem_eq (a : AirMonitor) (n : Nat) :
    a.headItem n = [a.headByte n, highByte (a.headHalf n), lowByte (a.headHalf n)] := by
  unfold AirMonitor.headItem AirMonitor.headByte AirMonitor.headHalf
  cases a.sampled? n <;> rfl

theorem State.reportOpens {s : State} (hw : s.working = true) {section_ : Byte} {body : List Byte}
    (h : ∃ rest, body = section_ :: s.station.byte :: s.closureSources :: rest) : s.ReportOpens section_ body := by
  obtain ⟨rest, rfl⟩ := h
  refine ⟨rfl, ?_, bit_byteOfFlags _ (by decide), bit_byteOfFlags _ (by decide), bit_byteOfFlags _ (by decide)⟩
  obtain hst | hst := s.working_iff.mp hw <;> simp [hst, Station.byte]

/-- Heads and fans in their places. -/
theorem State.sectionOne_devices (s : State) : ∀ n ∈ [1, 2, 3, 4, 5, 6],
    s.sectionOne.getD (7 + 3 * n) 0#8 = s.air.headByte n ∧ bodyHalf s.sectionOne (8 + 3 * n) = s.air.headHalf n ∧
      s.sectionOne.getD (27 + n) 0#8 = s.vent.fanItem n := by
  simp only [State.sectionOne, List.flatMap_cons, AirMonitor.headItem_eq]
  intro n hn
  simp only [List.mem_cons, List.not_mem_nil, or_false] at hn
  obtain rfl | rfl | rfl | rfl | rfl | rfl := hn <;> exact ⟨rfl, halfFrom_halfBytes _, rfl⟩

theorem State.sectionOne_layout {s : State} (hw : s.working = true) : s.SectionOneLayout s.sectionOne := by
  refine ⟨?_, State.reportOpens hw ⟨_, rfl⟩, codedAs_level _, halfFrom_halfBytes _, rfl, fun n hn => ?_⟩
  · simp only [State.sectionOne, List.flatMap_cons, AirMonitor.headItem_eq]
    rfl
  · obtain ⟨hstate, hindex, hfan⟩ := s.sectionOne_devices n hn
    rw [hstate, hindex, hfan]
    refine ⟨fun h hh => ?_, fun hnone => ?_, fun f hf => ?_, fun hnone => ?_⟩
    · have hsampled : s.air.sampled? n = some h := hh
      rw [AirMonitor.headByte, AirMonitor.headHalf, hsampled]
      exact ⟨codedAs_head _, rfl⟩
    · rw [AirMonitor.headByte, AirMonitor.headHalf, hnone]
      exact ⟨rfl, rfl⟩
    · have hfound : s.vent.fan? n = some f := hf
      rw [Ventilation.fanItem, hfound]
      exact codedAs_fan _
    · rw [Ventilation.fanItem, hnone]

/-! ### Section 2 (R142) -/

/-- The display code of a sign number. -/
def Guidance.signByte (g : Guidance) (n : Nat) : Byte := (g.sign? n).elim 0xFF#8 (fun x => x.image.display.byte)

/-- The marks of a sign number. -/
def Guidance.signMarks (g : Guidance) (n : Nat) : Byte := (g.sign? n).elim 0#8 Sign.marks

theorem Guidance.signItem_eq (g : Guidance) (n : Nat) : g.signItem n = [g.signByte n, g.signMarks n] := by
  unfold Guidance.signItem Guidance.signByte Guidance.signMarks
  cases g.sign? n <;> rfl

/-- The state code of a channel number. -/
def Lighting.channelByte (l : Lighting) (n : Nat) : Byte := (l.channel? n).elim 0#8 (fun c => c.state.byte)

/-- The output of a channel number. -/
def Lighting.channelOutput (l : Lighting) (n : Nat) : Byte := (l.channel? n).elim 0#8 (fun c => byteOf c.output)

theorem Lighting.channelItem_eq (l : Lighting) (n : Nat) : l.channelItem n = [l.channelByte n, l.channelOutput n] := by
  unfold Lighting.channelItem Lighting.channelByte Lighting.channelOutput
  cases l.channel? n <;> rfl

theorem State.sectionTwo_rows (s : State) : ∀ q ∈ [(GuidedClass.standard, 0), (.accessible, 1), (.charging, 2)],
    s.sectionTwo.getD (3 + q.2) 0#8 = BitVec.ofNat 8 (s.bays.freeCount q.1) ∧
      s.sectionTwo.getD (6 + 5 * q.2) 0#8 = BitVec.ofNat 8 (s.guide.rows.get q.1).cost ∧
      bodyHalf s.sectionTwo (7 + 5 * q.2) = BitVec.ofNat 16 (s.guide.rows.get q.1).free ∧
      s.sectionTwo.getD (9 + 5 * q.2) 0#8 = BitVec.ofNat 8 (s.guide.rows.get q.1).via ∧
      CodedAs exitCodes (s.guide.rows.get q.1).exit (s.sectionTwo.getD (10 + 5 * q.2) 0#8) := by
  intro q hq
  simp only [List.mem_cons, List.not_mem_nil, or_false] at hq
  obtain rfl | rfl | rfl := hq <;> exact ⟨rfl, rfl, halfFrom_halfBytes _, rfl, codedAs_exit _⟩

theorem State.sectionTwo_signs (s : State) : ∀ n ∈ [1, 2, 3, 4],
    s.sectionTwo.getD (19 + 2 * n) 0#8 = s.guide.signByte n ∧ s.sectionTwo.getD (20 + 2 * n) 0#8 = s.guide.signMarks n := by
  simp only [State.sectionTwo, List.flatMap_cons, Guidance.signItem_eq]
  intro n hn
  simp only [List.mem_cons, List.not_mem_nil, or_false] at hn
  obtain rfl | rfl | rfl | rfl := hn <;> exact ⟨rfl, rfl⟩

theorem State.sectionTwo_channels (s : State) : ∀ n ∈ [1, 2, 3, 4, 5, 6, 7, 8],
    s.sectionTwo.getD (27 + 2 * n) 0#8 = s.light.channelByte n ∧ s.sectionTwo.getD (28 + 2 * n) 0#8 = s.light.channelOutput n := by
  simp only [State.sectionTwo, List.flatMap_cons, Guidance.signItem_eq, Lighting.channelItem_eq]
  intro n hn
  simp only [List.mem_cons, List.not_mem_nil, or_false] at hn
  obtain rfl | rfl | rfl | rfl | rfl | rfl | rfl | rfl := hn <;> exact ⟨rfl, rfl⟩

/-- A sign's marks: the fault mark and the last reported status. -/
theorem Sign.marks_fields (g : Sign) : bit g.marks 0 = g.faultMark ∧
    ∀ q ∈ signStatusCodes, g.lastStatus = q.1 → field g.marks 1 2 = q.2 := by
  refine ⟨bit_byteOfFlags _ (by decide), ?_⟩
  unfold Sign.marks
  generalize g.faultMark = mark
  generalize g.lastStatus = status
  cases status with
  | none => cases mark <;> decide
  | some x => cases mark <;> cases x <;> decide

theorem State.sectionTwo_layout {s : State} (hw : s.working = true) : s.SectionTwoLayout s.sectionTwo := by
  refine ⟨?_, State.reportOpens hw ⟨_, rfl⟩, s.sectionTwo_rows, fun n hn => ?_, fun n hn c hc => ?_⟩
  · simp only [State.sectionTwo, List.flatMap_cons, Guidance.signItem_eq, Lighting.channelItem_eq]
    rfl
  · obtain ⟨hdisplay, hmarks⟩ := s.sectionTwo_signs n hn
    rw [hdisplay, hmarks]
    refine ⟨fun g hg => ?_, fun hnone => ?_⟩
    · have hfound : s.guide.sign? n = some g := hg
      rw [Guidance.signByte, Guidance.signMarks, hfound]
      exact ⟨codedAs_display _, g.marks_fields⟩
    · rw [Guidance.signByte, Guidance.signMarks, hnone]
      exact ⟨rfl, rfl⟩
  · obtain ⟨hstate, houtput⟩ := s.sectionTwo_channels n hn
    have hfound : s.light.channel? n = some c := hc
    rw [hstate, houtput, Lighting.channelByte, Lighting.channelOutput, hfound]
    exact ⟨codedAs_channel _, rfl⟩

/-! ### Bays (R143) -/

/-- State and class in one byte. -/
theorem bayByte_fields (st : BayState) (cls : BayClass) :
    (∀ q ∈ bayCodes, st = q.1 → field (byteOf (st.code * 16 + cls.code)) 4 4 = q.2) ∧
      ∀ q ∈ bayClassCodes, cls = q.1 → field (byteOf (st.code * 16 + cls.code)) 0 4 = q.2 := by
  cases st <;> cases cls <;> decide

theorem reservationMinutes_eq (r : Option TimeLimit) : reservationMinutes r =
    (match r with
      | some (.remaining ms) => BitVec.ofNat 8 (max 1 (ceilDiv ms 60000))
      | _ => 0#8) := by
  cases r with
  | none => rfl
  | some l => cases l <;> rfl

theorem BayMonitor.bayItem_of_some {b : BayMonitor} {n : Nat} {x : Bay} (h : b.bay? n = some x) : b.bayItem n =
    byteOf (x.state.code * 16 + x.settings.cls.code) :: if x.state = .reserved then [reservationMinutes x.reservation] else [] := by
  unfold BayMonitor.bayItem
  rw [h]
  dsimp only
  split <;> rfl

theorem BayMonitor.bayItem_layout (b : BayMonitor) (n : Nat) : b.ItemLayout n (b.bayItem n) := by
  refine ⟨fun hnone => by rw [BayMonitor.bayItem, hnone], fun x hx => ?_⟩
  obtain ⟨hstate, hclass⟩ := bayByte_fields x.state x.settings.cls
  rw [BayMonitor.bayItem_of_some hx]
  refine ⟨?_, hstate, hclass, fun hreserved => ?_⟩
  · split <;> rfl
  · rw [if_pos hreserved]
    exact reservationMinutes_eq _

theorem BayMonitor.bayItem_length (b : BayMonitor) (n : Nat) :
    (b.bayItem n).length = if (b.bay? n).any (fun x => decide (x.state = .reserved)) then 2 else 1 := by
  cases h : b.bay? n with
  | none => simp [BayMonitor.bayItem, h]
  | some x =>
    rw [BayMonitor.bayItem_of_some h]
    by_cases hst : x.state = .reserved <;> simp [hst]

/-- The items of a bay report: one a bay in order, within the room, and no fewer than asked for but at bay 65 or where the
next one has no room. -/
theorem BayMonitor.bayItems_spec (b : BayMonitor) (count n room : Nat) (hn : n ≤ 65) :
    (b.bayItems count n room).length ≤ count ∧ n + (b.bayItems count n room).length ≤ 65 ∧
      (b.bayItems count n room).flatten.length ≤ room ∧
      (∀ k < (b.bayItems count n room).length, (b.bayItems count n room).getD k [] = b.bayItem (n + k)) ∧
      ((b.bayItems count n room).length < count → n + (b.bayItems count n room).length < 65 →
        room < (b.bayItems count n room).flatten.length + (b.bayItem (n + (b.bayItems count n room).length)).length) := by
  induction count generalizing n room with
  | zero => simpa [BayMonitor.bayItems] using hn
  | succ count ih =>
    by_cases hstop : 64 < n ∨ room < (b.bayItem n).length
    · have hnil : b.bayItems (count + 1) n room = [] := if_pos hstop
      rw [hnil]
      refine ⟨Nat.zero_le _, hn, Nat.zero_le _, fun k hk => absurd hk (Nat.not_lt_zero k), fun _ hlow => ?_⟩
      have hroom := hstop.resolve_left (by simp at hlow; omega)
      simpa using hroom
    · have hcons : b.bayItems (count + 1) n room = b.bayItem n :: b.bayItems count (n + 1) (room - (b.bayItem n).length) := if_neg hstop
      rw [not_or] at hstop
      obtain ⟨hcount, hlast, hroom, hitems, hfull⟩ := ih (n + 1) (room - (b.bayItem n).length) (by omega)
      rw [hcons, List.length_cons, List.flatten_cons, List.length_append]
      refine ⟨by omega, by omega, by omega, fun k hk => ?_, fun hmore hlow => ?_⟩
      · cases k with
        | zero => rfl
        | succ k =>
          rw [List.getD_cons_succ, hitems k (by omega)]
          congr 1
          omega
      · have hnext := hfull (by omega) (by omega)
        rw [show n + ((b.bayItems count (n + 1) (room - (b.bayItem n).length)).length + 1) =
          n + 1 + (b.bayItems count (n + 1) (room - (b.bayItem n).length)).length by omega]
        omega

theorem BayMonitor.report_layout (b : BayMonitor) {first : Nat} (hfirst : first ≤ 64) (count : Nat) :
    b.ReportLayout first count (b.bayItems count first 44) (b.report first count) := by
  obtain ⟨hcount, hlast, hroom, hitems, hfull⟩ := b.bayItems_spec count first 44 (by omega)
  have hlength : (b.report first count).length = 2 + (b.bayItems count first 44).flatten.length := by
    simp only [BayMonitor.report, List.length_append, List.length_cons, List.length_nil]
  refine ⟨rfl, by omega, hcount, hlast, fun k hk => ?_, fun hmore hlow => ?_⟩
  · rw [hitems k (List.mem_range.mp hk)]
    exact b.bayItem_layout _
  · have hnext := hfull hmore hlow
    rw [BayMonitor.bayItem_length] at hnext
    omega

/-! ### Peer slots (R143) -/

/-- The status byte of an entry: age, state, origin. -/
theorem Peer.statusByte_fields (p : Peer) : bit p.statusByte 7 = decide (p.origin = .learned) ∧
    (∀ q ∈ peerCodes, p.state = q.1 → field p.statusByte 4 2 = q.2) ∧ field p.statusByte 0 2 = p.age % 4 := by
  have hage : p.age % 4 = 0 ∨ p.age % 4 = 1 ∨ p.age % 4 = 2 ∨ p.age % 4 = 3 := by omega
  unfold Peer.statusByte
  cases p.origin with
  | static c =>
    have hstatic : decide (Origin.static c = .learned) = false := by simp
    rw [hstatic]
    obtain h | h | h | h := hage <;> rw [h] <;> cases p.state <;> dsimp only <;> decide
  | learned => obtain h | h | h | h := hage <;> rw [h] <;> cases p.state <;> decide

theorem peerItem_layout (slot : Option Peer) : PeerItemLayout slot (peerItem slot) := by
  refine ⟨fun hnone => by rw [hnone]; rfl, fun p hp => ?_⟩
  obtain rfl : slot = some p := hp
  obtain ⟨horigin, hstate, hage⟩ := p.statusByte_fields
  refine ⟨rfl, rfl, horigin, hstate, hage, fun hnone => ?_, fun l hl => ?_, halfFrom_halfBytes _⟩
  · change alarmByte p.heard.alarm = _
    rw [hnone]
    rfl
  · have hsome : p.heard.alarm = some l := hl
    change CodedAs levelCodes l (alarmByte p.heard.alarm)
    rw [hsome]
    exact codedAs_level l

theorem peerItem_length (slot : Option Peer) : (peerItem slot).length = 5 := by cases slot <;> rfl

/-- The items of a list, each of the same length, stand one after another. -/
theorem take_drop_flatMap {α β : Type} {f : α → List β} {m : Nat} (hf : ∀ x, (f x).length = m) {l : List α} {k : Nat} {x : α}
    (h : l[k]? = some x) : ((l.flatMap f).drop (m * k)).take m = f x := by
  induction l generalizing k with
  | nil => simp at h
  | cons y ys ih =>
    cases k with
    | zero =>
      obtain rfl : y = x := by simpa using h
      simp [← hf y]
    | succ k =>
      rw [List.getElem?_cons_succ] at h
      rw [List.flatMap_cons, Nat.mul_succ, Nat.add_comm, ← List.drop_drop, ← hf y, List.drop_left, hf y]
      exact ih h

theorem PeerTable.report_layout {t : PeerTable} {first : Nat} (hfirst : 1 ≤ first) (hlast : first ≤ 16)
    (hslots : t.slots.length = 16) : t.ReportLayout first (t.report first) := by
  have hitems : ((t.slots.drop (first - 1)).take 8).length = min 8 (17 - first) := by
    rw [List.length_take, List.length_drop, hslots]
    omega
  have hlength (l : List (Option Peer)) : (l.flatMap peerItem).length = 5 * l.length := by
    induction l with
    | nil => rfl
    | cons x xs ih => rw [List.flatMap_cons, List.length_append, peerItem_length, ih, List.length_cons]; omega
  refine ⟨?_, rfl, fun k hk => ?_⟩
  · rw [PeerTable.report, List.length_cons, hlength, hitems]
    omega
  · rw [List.mem_range, ← hitems] at hk
    obtain ⟨x, hx⟩ : ∃ x, ((t.slots.drop (first - 1)).take 8)[k]? = some x := ⟨_, List.getElem?_eq_getElem hk⟩
    have hslot : t.slots.getD (first - 1 + k) none = x := by
      rw [List.getElem?_take_of_lt (by omega), List.getElem?_drop] at hx
      rw [List.getD_eq_getElem?_getD, hx]
      rfl
    have hitem : ((t.report first).drop (1 + 5 * k)).take 5 = peerItem x := by
      rw [PeerTable.report, Nat.add_comm 1, List.drop_succ_cons]
      exact take_drop_flatMap peerItem_length hx
    rw [hslot, hitem]
    exact peerItem_layout x

/-! ### Counters (R143) -/

theorem Counters.report_layout (c : Counters) (clear : Byte) : c.ReportLayout clear (c.report clear) := by
  refine ⟨rfl, rfl, fun p hp => ?_⟩
  simp only [reportedCounters, List.zipIdx_cons, List.zipIdx_nil, List.mem_cons, List.not_mem_nil, or_false, Nat.zero_add,
    Nat.reduceAdd] at hp
  obtain rfl | rfl | rfl | rfl | rfl | rfl | rfl | rfl | rfl | rfl | rfl | rfl | rfl | rfl | rfl | rfl := hp <;>
    exact ⟨halfFrom_halfBytes _, bit_byteOfFlags _ (by decide)⟩

/-! ### The queries (R166..R170) -/

/-- A granted query that is DONE has its body in its REPORT and changes nothing else. -/
theorem State.Granted.reported {s t : State} {source destination code : Byte} {args body : List Byte}
    (h : s.Granted source destination) (hargs : args.length ≤ 47) (hcode : code ≠ restartCode)
    (he : executeCommand code args s.frameAccepted = { state := t, result := .done, body := body }) :
    s.commandFrame source destination code args = t.reporting source code 0#8 body := by
  rw [h.commandFrame code hargs, he]
  simp [State.answeredWith, Executed.restarts, hcode, Executed.payload, CommandResult.byte, State.reporting]

/-- Settles O45: each query by what executing it gives, and its body by its layout. -/
theorem queriesReportTheState : Obligations.QueriesReportTheState := by
  unfold Obligations.QueriesReportTheState
  intro s source destination a b hg
  have h := State.grants_iff.mp hg
  have hreport {t : State} {code : Byte} {body : List Byte} (ht : t.bus.queues = s.bus.queues) :
      (t.reporting source code 0#8 body).bus.queues = { s.bus.queues with report := s.reportsWith source code 0#8 body } := by
    rw [State.reporting, State.join_queues, ht]
    rfl
  have hsame (code : Byte) (body : List Byte) : OnlyChanges [.bus, .counters] s (s.frameAccepted.reporting source code 0#8 body) :=
    s.refused_only source code 0#8 body
  refine ⟨?_, ?_, fun h1 h64 h1' h40 => ?_, fun h1 h16 hslots => ?_, fun ha => ?_⟩
  · have he : executeCommand 0x01#8 [1#8] s.frameAccepted = { state := s.frameAccepted, result := .done, body := s.sectionOne } := rfl
    exact ⟨_, congrArg Host.Outcome.next (h.reported (by simp) (by decide) he), hreport rfl,
      State.sectionOne_layout h.working, by simp, hsame _ _⟩
  · have he : executeCommand 0x01#8 [2#8] s.frameAccepted = { state := s.frameAccepted, result := .done, body := s.sectionTwo } := rfl
    exact ⟨_, congrArg Host.Outcome.next (h.reported (by simp) (by decide) he), hreport rfl,
      State.sectionTwo_layout h.working, by simp, hsame _ _⟩
  · have he : executeCommand 0x02#8 [a, b] s.frameAccepted =
        { state := s.frameAccepted, result := .done, body := s.bays.report a.toNat b.toNat } := if_pos ⟨h1, h64, h1', h40⟩
    exact ⟨_, congrArg Host.Outcome.next (h.reported (by simp) (by decide) he), hreport rfl,
      s.bays.report_layout h64 _, by simp, hsame _ _⟩
  · have he : executeCommand 0x03#8 [a] s.frameAccepted =
        { state := s.frameAccepted, result := .done, body := s.peers.report a.toNat } := if_pos ⟨h1, h16⟩
    exact ⟨_, congrArg Host.Outcome.next (h.reported (by simp) (by decide) he), hreport rfl,
      PeerTable.report_layout h1 h16 hslots, by simp, hsame _ _⟩
  · have hlayout := s.countersAccepted.report_layout a
    obtain rfl | rfl := ha
    · have he : executeCommand 0x04#8 [0#8] s.frameAccepted =
          { state := s.frameAccepted, result := .done, body := s.countersAccepted.report 0#8 } := rfl
      exact ⟨_, congrArg Host.Outcome.next (h.reported (by simp) (by decide) he), hreport rfl,
        hlayout, by simp, hsame _ _⟩
    · have he : executeCommand 0x04#8 [1#8] s.frameAccepted =
          { state := s.frameAccepted.setCounters .zero, result := .done, body := s.countersAccepted.report 1#8 } := rfl
      exact ⟨_, congrArg Host.Outcome.next (h.reported (by simp) (by decide) he), hreport rfl,
        hlayout, by simp, by simp [onlyChanges_iff]⟩

end Sys2Proof.Machine
end
